-- ==== Sys2Proof/Word.lean ====
section
/-!
DEFINITION. The word types of the NL-7720: a byte of the line, of a frame or of a memory, and the 32-bit word of its
registers and of its Trowel cores (R11, R346).
-/

namespace Sys2Proof

/-- One byte: of a frame, of a pod, of a memory. -/
abbrev Byte := BitVec 8

/-- One 32-bit word: of a register access (R11) or of a Trowel register (R346). -/
abbrev Word := BitVec 32

end Sys2Proof
end

