-- ==== Sys2Proof/Config.lean ====
section
/-!
DEFINITION. What the spec leaves open. Each constant here has no body: nothing can be proved of its value, and a claim
holds whatever it is.
-/

namespace Sys2Proof

/-- The n-th free value: a value that the spec leaves open, taken in order by the counter State.freeCtr. (In part DESIGN CHOICE, log entry 4.) -/
opaque Config.freeNat : Nat → Nat

/-- The source number of a source (R407): kind, scope code, ARG and physical unit. Taken modulo 4,096. (In part DESIGN CHOICE, log entry 4.) -/
opaque Config.sourceNo : Nat → Nat → Nat → Nat → Nat

/-- The location code of a physical unit, by unit code (R407). Taken modulo 2^20. (In part DESIGN CHOICE, log entry 4.) -/
opaque Config.locCode : Nat → Nat

/-- The bytes that the two hash functions of the client table run over, for a client key (R264). (In part DESIGN CHOICE, log entry 4.) -/
opaque Config.sprBytes : Nat → List Byte

/-- How firmware rounds the charge of one second at a laser temperature in 1/256 °C (R463). Taken modulo 2. (In part DESIGN CHOICE, log entry 4.) -/
opaque Config.wearRound : Int → Nat

/-- The proportional term of the servo's loop and what its integral term rises by in a servo cycle, for a phase error in units
of 2^-16 ns: rates in units of 2^-48 (R229). (In part DESIGN CHOICE, log entry 43.) -/
opaque Config.servoProp : Int → Int
/-- In part DESIGN CHOICE, log entry 43. -/
opaque Config.servoStep : Int → Int

/-- The SSPRQ sequence, by symbol number (R527). Each value taken modulo 4. (In part PRESUMED, log entry 44.) -/
opaque Config.ssprq : Nat → Nat

/-- Where pattern n of lane 34·b + l starts (R527). (In part PRESUMED, log entry 44.) -/
opaque Config.patternSeed : Nat → Nat → Nat

/-- Elvya's PCI vendor ID (R483). Taken modulo 2^16. (In part DESIGN CHOICE, log entry 4.) -/
opaque Config.pciVendor : Nat

end Sys2Proof
end

