-- ==== Sys2Proof/Machine/Bits.lean ====
section
/-!
DEFINITION. Bit fields, two's complement, saturation and byte order: the plain arithmetic that every chapter's rules use.
Line fields are big-endian (R13); registers and host memory are little-endian (R11, R499).
-/

namespace Sys2Proof.Machine

/-- Bits `lo + w - 1 .. lo` of `v`. -/
def bits (v lo w : Nat) : Nat := v / 2 ^ lo % 2 ^ w

/-- Bit `i` of `v`. -/
def bitAt (v i : Nat) : Bool := v / 2 ^ i % 2 = 1

/-- 1 for true, 0 for false. -/
def b2n (b : Bool) : Nat := if b then 1 else 0

/-- The two's-complement reading of the low `w` bits of `v`. -/
def toSigned (w v : Nat) : Int :=
  if v % 2 ^ w < 2 ^ (w - 1) then (v % 2 ^ w : Nat) else (v % 2 ^ w : Nat) - (2 ^ w : Nat)

/-- The `w`-bit two's-complement code of `x`, modulo 2^w. -/
def ofSigned (w : Nat) (x : Int) : Nat := (x % (2 ^ w : Nat)).toNat

/-- `x` held between `lo` and `hi`. -/
def clampInt (lo hi x : Int) : Int := if x < lo then lo else if hi < x then hi else x

/-- `x` held between `lo` and `hi`. -/
def clampNat (lo hi x : Nat) : Nat := if x < lo then lo else if hi < x then hi else x

/-- `a + b`, at most the largest `w`-bit value. -/
def satAdd (w a b : Nat) : Nat := min (a + b) (2 ^ w - 1)

/-- `floor (a / b)` rounded to nearest, ties away from zero upwards: `floor ((2 a + b) / (2 b))`. -/
def roundDiv (a b : Nat) : Nat := (2 * a + b) / (2 * b)

/-- The smallest integer at or above `a / b`. -/
def ceilDiv (a b : Nat) : Nat := (a + b - 1) / b

/-- The Nat that big-endian bytes spell (R13). -/
def beNat (l : List Byte) : Nat := l.foldl (fun a x => a * 256 + x.toNat) 0

/-- The Nat that little-endian bytes spell. -/
def leNat : List Byte → Nat
  | [] => 0
  | x :: r => x.toNat + 256 * leNat r

/-- `v` in `n` big-endian bytes. -/
def beBytes (n v : Nat) : List Byte :=
  match n with
  | 0 => []
  | m + 1 => BitVec.ofNat 8 (v / 256 ^ m) :: beBytes m v

/-- `v` in `n` little-endian bytes. -/
def leBytes (n v : Nat) : List Byte :=
  match n with
  | 0 => []
  | m + 1 => BitVec.ofNat 8 v :: leBytes m (v / 256)

/-- `n` bytes of `l` from offset `o`; bytes past the end read 0. -/
def slice (l : List Byte) (o n : Nat) : List Byte :=
  let r := (l.drop o).take n
  r ++ List.replicate (n - r.length) 0

/-- The big-endian field of `n` bytes at offset `o` of `l`. -/
def beAt (l : List Byte) (o n : Nat) : Nat := beNat (slice l o n)

/-- The little-endian field of `n` bytes at offset `o` of `l`. -/
def leAt (l : List Byte) (o n : Nat) : Nat := leNat (slice l o n)

/-- `l` cut or padded with 0 to `n` bytes. -/
def padTo (n : Nat) (l : List Byte) : List Byte := slice l 0 n

/-- `l` with the element at `i` replaced. -/
def setAt {α : Type} (l : List α) (i : Nat) (x : α) : List α :=
  match l, i with
  | [], _ => []
  | _ :: r, 0 => x :: r
  | y :: r, i + 1 => y :: setAt r i x

/-- The positions 0 .. n-1 of `l` at which `p` holds, lowest first. -/
def firstIdx {α : Type} (p : α → Bool) (l : List α) : Option Nat :=
  match l with
  | [] => none
  | x :: r => if p x then some 0 else (firstIdx p r).map (· + 1)

/-- The first of `0, 1, …, n - 1` that satisfies `p`. -/
def firstBelow (n : Nat) (p : Nat → Bool) : Option Nat := (List.range n).find? p

/-- The bits of `x`, most significant of `w` first. -/
def bitsMsb (w x : Nat) : List Bool :=
  match w with
  | 0 => []
  | n + 1 => bitAt x n :: bitsMsb n x

/-- The bits of a byte string, each byte most significant bit first (R13). -/
def bytesBits (l : List Byte) : List Bool := l.flatMap fun x => bitsMsb 8 x.toNat

/-- The Nat that bits spell, most significant first. -/
def ofBitsMsb (l : List Bool) : Nat := l.foldl (fun a b => 2 * a + b2n b) 0

end Sys2Proof.Machine
end

