-- ==== Sys2Proof/Machine/Regs.lean ====
section
/-!
DEFINITION. The register file of the NL-7720: one definition per register field, with its place, access code (R10) and
reset value, as the register tables of the spec's chapters 02 to 18 draw it, and the row per register that finds the
fields of an address. A field is kept under its bit address; see State.regs.
-/

namespace Sys2Proof.Machine

/-- The access codes of R10. -/
inductive Acc where
  | rw | ro | wo | w1c | rc | rw1s
  deriving DecidableEq, Repr

/-- One register field: the register's byte offset in the map of R485, the field's lowest bit, its width, its access
code and its reset value. -/
structure Fld where
  addr : Nat
  lsb : Nat
  width : Nat
  acc : Acc
  rst : Nat
  deriving DecidableEq, Repr

/-- What an index of a register counts, for R7: which of them a variant lacks. -/
inductive IdxKind where
  | plain | chan | row | bed | port | core | fn
  deriving DecidableEq, Repr

/-- One index of a register: what it counts, how many the NL-7720-64 has, and the stride. -/
structure Dim where
  kind : IdxKind
  count : Nat
  stride : Nat
  deriving DecidableEq, Repr

/-- One register of the offset tables: its name as the spec writes it, the offset of its first instance, its indices
by falling stride, and its fields at given indices. -/
structure RegRow where
  name : String
  base : Nat
  dims : List Dim
  flds : Nat → Nat → Nat → List Fld

/-- The key of a field in State.regs: its bit address. -/
def Fld.key (f : Fld) : Nat := f.addr * 8 + f.lsb

/-- The base F of the function management set of function f (R485, R488): offset 0x000_0100 of PF0, offset 0x0D_0000 of
a tenant's bed window. -/
def fnBase (f : Nat) : Nat := if f = 0 then 0x100 else 0x1000000 + (f - 1) * 0x400000 + 0xD0000

/-- R73: the reset ramp. -/
def rampReset (k : Nat) : Nat := [2, 22, 60, 116, 187, 271, 363, 462, 562, 661, 753, 837, 908, 964, 1002, 1022].getD k 0

/-- R408: the reset N of kind k; a reserved kind resets to 0. -/
def rakeResetN (k : Nat) : Nat := [0, 3, 16, 3, 1, 64, 1, 2, 2, 1, 1, 1, 0, 0, 0, 0, 0, 1, 0, 0, 0, 0].getD k 0

/-- R408: the reset ACTION of kind k. -/
def rakeResetAction (k : Nat) : Nat := [0, 1, 1, 1, 0, 1, 1, 1, 1, 1, 1, 1, 0, 0, 0, 0, 0, 1, 0, 0, 0, 0].getD k 0

/-- The reset FW of kind k: 1 for kinds 1 to 3, 9, 16 and 18 to 20. -/
def rakeResetFw (k : Nat) : Nat := if (1 ≤ k ∧ k ≤ 3) ∨ k = 9 ∨ k = 16 ∨ (18 ≤ k ∧ k ≤ 20) then 1 else 0

/-- R431: the reset TENANT of kind k. -/
def rakeResetTenant (k : Nat) : Nat := if k = 4 ∨ k = 18 ∨ k = 19 ∨ k = 20 then 1 else 0

/-- R408: the reset WINDOW of kind k, in µs. -/
def rakeResetWindow (k : Nat) : Nat := [0, 1000000, 10000, 1000000, 1, 1000000, 1, 1000000, 1000000, 1, 1, 1, 1000000, 1000000, 1000000, 1000000, 1000000, 1, 1000000, 1000000, 1000000, 1000000].getD k 0

/-- R451: the reset RUN_EN of clock domain d. -/
def clkResetRunEn (d : Nat) : Nat := [0, 1, 1, 1, 1, 1, 1, 1, 1, 1, 1, 1, 1, 1, 1, 1, 1, 1, 1, 1, 1, 1, 1, 1, 0, 1].getD d 0

/-- R451: the reset SLEEP_EN of clock domain d. -/
def clkResetSleepEn (d : Nat) : Nat := [0, 1, 0, 0, 0, 0, 0, 0, 0, 0, 0, 1, 0, 0, 0, 0, 0, 1, 1, 1, 0, 0, 1, 1, 0, 1].getD d 0

/-- R451: the reset DEEP_EN of clock domain d. -/
def clkResetDeepEn (d : Nat) : Nat := [0, 1, 0, 0, 0, 0, 0, 0, 0, 0, 0, 1, 0, 0, 0, 0, 0, 0, 1, 0, 0, 0, 0, 0, 0, 1].getD d 0

/-! LINE_CTRL (02_line_optics.md) -/
def LINE_CTRL.RAMP_COMMIT : Fld := ⟨0x300000, 17, 1, .rw1s, 0⟩
def LINE_CTRL.AUTO_EN : Fld := ⟨0x300000, 16, 1, .rw, 1⟩
def LINE_CTRL.HOLDOFF : Fld := ⟨0x300000, 8, 8, .rw, 50⟩
def LINE_CTRL.FORCE : Fld := ⟨0x300000, 4, 2, .rw, 0⟩

/-! LINE_STATUS (02_line_optics.md) -/
def LINE_STATUS.SWITCH_COUNT : Fld := ⟨0x300004, 16, 16, .ro, 0⟩
def LINE_STATUS.RAMP_ERR : Fld := ⟨0x300004, 5, 1, .w1c, 0⟩
def LINE_STATUS.SWITCHING : Fld := ⟨0x300004, 4, 1, .ro, 0⟩
def LINE_STATUS.LOS_B : Fld := ⟨0x300004, 3, 1, .ro, 1⟩
def LINE_STATUS.LOS_A : Fld := ⟨0x300004, 2, 1, .ro, 1⟩
def LINE_STATUS.CONN : Fld := ⟨0x300004, 0, 2, .ro, 0⟩

/-! LINE_CLK_SRC (02_line_optics.md) -/
def LINE_CLK_SRC.AUTO : Fld := ⟨0x300008, 15, 1, .rw, 1⟩
def LINE_CLK_SRC.FALLBACK : Fld := ⟨0x300008, 14, 1, .ro, 0⟩
def LINE_CLK_SRC.CURRENT : Fld := ⟨0x300008, 8, 6, .ro, 0⟩
def LINE_CLK_SRC.CHANNEL : Fld := ⟨0x300008, 0, 6, .rw, 0⟩

/-! LINE_DIBBER (02_line_optics.md) -/
def LINE_DIBBER.THRESH : Fld := ⟨0x30000c, 0, 8, .rw, 179⟩

/-! LINE_SOA_LIMIT (02_line_optics.md) -/
def LINE_SOA_LIMIT.FLOOR : Fld := ⟨0x300010, 16, 10, .rw, 512⟩
def LINE_SOA_LIMIT.GAIN_CAP : Fld := ⟨0x300010, 0, 10, .rw, 1023⟩

/-! LINE_SPARES (02_line_optics.md) -/
def LINE_SPARES.TX_FREE : Fld := ⟨0x300014, 8, 4, .ro, 4⟩
def LINE_SPARES.RX_FREE : Fld := ⟨0x300014, 0, 4, .ro, 4⟩

/-! LINE_RAMP_k (02_line_optics.md) -/
def LINE_RAMP.LEVEL (k : Nat) : Fld := ⟨0x300100 + 0x4 * k, 0, 10, .rw, rampReset k⟩

/-! LRX_CTRL_k (02_line_optics.md) -/
def LRX_CTRL.DOZE_EN (k : Nat) : Fld := ⟨0x301000 + 0x20 * k, 2, 1, .rw, 1⟩
def LRX_CTRL.ENABLE (k : Nat) : Fld := ⟨0x301000 + 0x20 * k, 0, 1, .rw, 1⟩

/-! LRX_STATUS_k (02_line_optics.md) -/
def LRX_STATUS.FREQ_ERR (k : Nat) : Fld := ⟨0x301004 + 0x20 * k, 16, 8, .ro, 0⟩
def LRX_STATUS.LASER (k : Nat) : Fld := ⟨0x301004 + 0x20 * k, 8, 3, .ro, 0⟩
def LRX_STATUS.GRAFTED (k : Nat) : Fld := ⟨0x301004 + 0x20 * k, 7, 1, .ro, 0⟩
def LRX_STATUS.CLOCK_SRC (k : Nat) : Fld := ⟨0x301004 + 0x20 * k, 6, 1, .ro, 0⟩
def LRX_STATUS.DOZING (k : Nat) : Fld := ⟨0x301004 + 0x20 * k, 5, 1, .ro, 0⟩
def LRX_STATUS.FEC_ALARM (k : Nat) : Fld := ⟨0x301004 + 0x20 * k, 2, 1, .ro, 0⟩
def LRX_STATUS.PREAMBLE_OK (k : Nat) : Fld := ⟨0x301004 + 0x20 * k, 1, 1, .ro, 0⟩

/-! LRX_CORR_k (02_line_optics.md) -/
def LRX_CORR.COUNT (k : Nat) : Fld := ⟨0x301008 + 0x20 * k, 0, 32, .rc, 0⟩

/-! LRX_UNCORR_k (02_line_optics.md) -/
def LRX_UNCORR.COUNT (k : Nat) : Fld := ⟨0x30100c + 0x20 * k, 0, 32, .rc, 0⟩

/-! LRX_DOZE_k (02_line_optics.md) -/
def LRX_DOZE.COUNT (k : Nat) : Fld := ⟨0x301010 + 0x20 * k, 0, 32, .rc, 0⟩

/-! LRX_MISS_k (02_line_optics.md) -/
def LRX_MISS.MISS_DOZE (k : Nat) : Fld := ⟨0x301014 + 0x20 * k, 16, 16, .rc, 0⟩
def LRX_MISS.MISS_AWAKE (k : Nat) : Fld := ⟨0x301014 + 0x20 * k, 0, 16, .rc, 0⟩

/-! LTX_CTRL_k (02_line_optics.md) -/
def LTX_CTRL.ENABLE (k : Nat) : Fld := ⟨0x302000 + 0x10 * k, 0, 1, .rw, 1⟩

/-! LTX_STATUS_k (02_line_optics.md) -/
def LTX_STATUS.FREQ_ERR (k : Nat) : Fld := ⟨0x302004 + 0x10 * k, 16, 8, .ro, 0⟩
def LTX_STATUS.LASER (k : Nat) : Fld := ⟨0x302004 + 0x10 * k, 8, 3, .ro, 0⟩
def LTX_STATUS.GRAFTED (k : Nat) : Fld := ⟨0x302004 + 0x10 * k, 7, 1, .ro, 0⟩
def LTX_STATUS.SOA_ON (k : Nat) : Fld := ⟨0x302004 + 0x10 * k, 6, 1, .ro, 0⟩

/-! FRM_TREE (03_downstream_frame.md) -/
def FRM_TREE.TREE_LOF : Fld := ⟨0x308000, 31, 1, .ro, 1⟩
def FRM_TREE.PROFILE : Fld := ⟨0x308000, 24, 4, .ro, 0⟩
def FRM_TREE.TREE_ID : Fld := ⟨0x308000, 0, 16, .ro, 0⟩

/-! FRM_EXT_REF_LO (03_downstream_frame.md) -/
def FRM_EXT_REF_LO.REF_LO : Fld := ⟨0x308004, 0, 32, .rw, 0⟩

/-! FRM_EXT_REF_HI (03_downstream_frame.md) -/
def FRM_EXT_REF_HI.LOAD : Fld := ⟨0x308008, 31, 1, .rw1s, 0⟩
def FRM_EXT_REF_HI.REF_VALID : Fld := ⟨0x308008, 30, 1, .ro, 0⟩
def FRM_EXT_REF_HI.REF_HI : Fld := ⟨0x308008, 0, 16, .rw, 0⟩

/-! FRM_STATUS_k (03_downstream_frame.md) -/
def FRM_STATUS.EXT_VALID (k : Nat) : Fld := ⟨0x309000 + 0x20 * k, 31, 1, .ro, 0⟩
def FRM_STATUS.SF_INDEX (k : Nat) : Fld := ⟨0x309000 + 0x20 * k, 24, 7, .ro, 0⟩
def FRM_STATUS.EXT_WRAP (k : Nat) : Fld := ⟨0x309000 + 0x20 * k, 11, 1, .w1c, 0⟩
def FRM_STATUS.FC_REGRESS (k : Nat) : Fld := ⟨0x309000 + 0x20 * k, 10, 1, .w1c, 0⟩
def FRM_STATUS.FC_JUMP (k : Nat) : Fld := ⟨0x309000 + 0x20 * k, 9, 1, .w1c, 0⟩
def FRM_STATUS.LOF_EVENT (k : Nat) : Fld := ⟨0x309000 + 0x20 * k, 8, 1, .w1c, 0⟩
def FRM_STATUS.STATE (k : Nat) : Fld := ⟨0x309000 + 0x20 * k, 0, 3, .ro, 0⟩

/-! FRM_EXT_LO_k (03_downstream_frame.md) -/
def FRM_EXT_LO.EXT_LO (k : Nat) : Fld := ⟨0x309004 + 0x20 * k, 0, 32, .ro, 0⟩

/-! FRM_EXT_HI_k (03_downstream_frame.md) -/
def FRM_EXT_HI.EXT_HI (k : Nat) : Fld := ⟨0x309008 + 0x20 * k, 0, 16, .ro, 0⟩

/-! FRM_HDR_k (03_downstream_frame.md) -/
def FRM_HDR.MISMATCH (k : Nat) : Fld := ⟨0x30900c + 0x20 * k, 16, 16, .rc, 0⟩
def FRM_HDR.MISSED (k : Nat) : Fld := ⟨0x30900c + 0x20 * k, 0, 16, .rc, 0⟩

/-! FRM_MAP_k (03_downstream_frame.md) -/
def FRM_MAP.ERRORED (k : Nat) : Fld := ⟨0x309010 + 0x20 * k, 0, 32, .rc, 0⟩

/-! FRM_POD_k (03_downstream_frame.md) -/
def FRM_POD.DELIN (k : Nat) : Fld := ⟨0x309014 + 0x20 * k, 16, 16, .rc, 0⟩
def FRM_POD.ERRORED (k : Nat) : Fld := ⟨0x309014 + 0x20 * k, 0, 16, .rc, 0⟩

/-! FRM_PODX_k (03_downstream_frame.md) -/
def FRM_PODX.TYPE_UNK (k : Nat) : Fld := ⟨0x309018 + 0x20 * k, 16, 16, .rc, 0⟩
def FRM_PODX.INDEX_DUP (k : Nat) : Fld := ⟨0x309018 + 0x20 * k, 0, 16, .rc, 0⟩

/-! TRELLIS_CTRL (03_downstream_frame.md) -/
def TRELLIS_CTRL.READY : Fld := ⟨0xc00000, 1, 1, .rw1s, 0⟩
def TRELLIS_CTRL.ENABLE : Fld := ⟨0xc00000, 0, 1, .rw, 0⟩

/-! TRELLIS_STATUS (03_downstream_frame.md) -/
def TRELLIS_STATUS.PAGE_MISS : Fld := ⟨0xc00004, 3, 1, .w1c, 0⟩
def TRELLIS_STATUS.WR_REFUSED : Fld := ⟨0xc00004, 2, 1, .w1c, 0⟩
def TRELLIS_STATUS.ACTIVE : Fld := ⟨0xc00004, 0, 1, .ro, 0⟩

/-! TRELLIS_DROP (03_downstream_frame.md) -/
def TRELLIS_DROP.NOPORT : Fld := ⟨0xc00008, 16, 16, .rc, 0⟩
def TRELLIS_DROP.DOWN : Fld := ⟨0xc00008, 0, 16, .rc, 0⟩

/-! TRELLIS_AIS_t (03_downstream_frame.md) -/
def TRELLIS_AIS.COUNT (t : Nat) : Fld := ⟨0xc00400 + 0x4 * t, 0, 32, .rc, 0⟩

/-! TRELLIS_CONN_p_o (03_downstream_frame.md) -/
def TRELLIS_CONN.VALID (p o : Nat) : Fld := ⟨0xc10000 + 0x10000 * p + 0x4 * o, 31, 1, .rw, 0⟩
def TRELLIS_CONN.CHANNEL (p o : Nat) : Fld := ⟨0xc10000 + 0x10000 * p + 0x4 * o, 25, 6, .rw, 0⟩
def TRELLIS_CONN.GROUP (p o : Nat) : Fld := ⟨0xc10000 + 0x10000 * p + 0x4 * o, 15, 10, .rw, 0⟩
def TRELLIS_CONN.SLOT (p o : Nat) : Fld := ⟨0xc10000 + 0x10000 * p + 0x4 * o, 5, 10, .rw, 0⟩

/-! TRELLIS_TRIB_p_t (03_downstream_frame.md) -/
def TRELLIS_TRIB.ENABLE (p t : Nat) : Fld := ⟨0xc18000 + 0x10000 * p + 0x4 * t, 31, 1, .rw, 0⟩
def TRELLIS_TRIB.GROW (p t : Nat) : Fld := ⟨0xc18000 + 0x10000 * p + 0x4 * t, 26, 5, .rw, 0⟩
def TRELLIS_TRIB.PORT (p t : Nat) : Fld := ⟨0xc18000 + 0x10000 * p + 0x4 * t, 23, 3, .rw, 0⟩
def TRELLIS_TRIB.TEMPLATE (p t : Nat) : Fld := ⟨0xc18000 + 0x10000 * p + 0x4 * t, 19, 4, .rw, 0⟩
def TRELLIS_TRIB.BASE (p t : Nat) : Fld := ⟨0xc18000 + 0x10000 * p + 0x4 * t, 7, 12, .rw, 0⟩
def TRELLIS_TRIB.COUNT_M1 (p t : Nat) : Fld := ⟨0xc18000 + 0x10000 * p + 0x4 * t, 0, 7, .rw, 0⟩

/-! BURST_CTRL (04_upstream_bursts.md) -/
def BURST_CTRL.POD_MAX : Fld := ⟨0x310000, 8, 8, .rw, 32⟩
def BURST_CTRL.ENABLE : Fld := ⟨0x310000, 0, 1, .rw, 1⟩

/-! BURST_STATUS (04_upstream_bursts.md) -/
def BURST_STATUS.ALLOC_USED : Fld := ⟨0x310004, 16, 9, .ro, 0⟩
def BURST_STATUS.EQD_PENDING : Fld := ⟨0x310004, 2, 1, .ro, 0⟩
def BURST_STATUS.ALLOC_FULL : Fld := ⟨0x310004, 1, 1, .w1c, 0⟩
def BURST_STATUS.UFC_LOCK : Fld := ⟨0x310004, 0, 1, .ro, 0⟩

/-! BURST_EQD (04_upstream_bursts.md) -/
def BURST_EQD.EQD : Fld := ⟨0x310008, 0, 28, .rw, 0⟩

/-! BURST_ALLOC_ADD_LO (04_upstream_bursts.md) -/
def BURST_ALLOC_ADD_LO.OWNER : Fld := ⟨0x31000c, 16, 4, .rw, 0⟩
def BURST_ALLOC_ADD_LO.ID : Fld := ⟨0x31000c, 0, 16, .rw, 0⟩

/-! BURST_ALLOC_ADD_HI (04_upstream_bursts.md) -/
def BURST_ALLOC_ADD_HI.GO : Fld := ⟨0x310010, 31, 1, .rw1s, 0⟩
def BURST_ALLOC_ADD_HI.RESULT : Fld := ⟨0x310010, 28, 3, .ro, 0⟩
def BURST_ALLOC_ADD_HI.SLOT : Fld := ⟨0x310010, 16, 8, .ro, 0⟩
def BURST_ALLOC_ADD_HI.KEY : Fld := ⟨0x310010, 0, 14, .rw, 0⟩

/-! BURST_DROP (04_upstream_bursts.md) -/
def BURST_DROP.NO_ALLOC : Fld := ⟨0x310014, 16, 16, .rc, 0⟩
def BURST_DROP.OWNER : Fld := ⟨0x310014, 0, 16, .rc, 0⟩

/-! BURST_QSEL (04_upstream_bursts.md) -/
def BURST_QSEL.SLOT : Fld := ⟨0x310018, 3, 8, .rw, 0⟩
def BURST_QSEL.QUEUE : Fld := ⟨0x310018, 0, 3, .rw, 0⟩

/-! BURST_QDEPTH (04_upstream_bursts.md) -/
def BURST_QDEPTH.BYTES : Fld := ⟨0x31001c, 0, 32, .ro, 0⟩

/-! BURST_DROPX (04_upstream_bursts.md) -/
def BURST_DROPX.REMOVED : Fld := ⟨0x310020, 0, 16, .rc, 0⟩

/-! ALLOC_n_LO (04_upstream_bursts.md) -/
def ALLOC_LO.VALID (n : Nat) : Fld := ⟨0x311000 + 0x8 * n, 31, 1, .ro, 0⟩
def ALLOC_LO.REMOVE (n : Nat) : Fld := ⟨0x311000 + 0x8 * n, 30, 1, .rw1s, 0⟩
def ALLOC_LO.OWNER (n : Nat) : Fld := ⟨0x311000 + 0x8 * n, 16, 4, .ro, 0⟩
def ALLOC_LO.ID (n : Nat) : Fld := ⟨0x311000 + 0x8 * n, 0, 16, .ro, 0⟩

/-! ALLOC_n_HI (04_upstream_bursts.md) -/
def ALLOC_HI.KEY (n : Nat) : Fld := ⟨0x311004 + 0x8 * n, 0, 14, .rw, 0⟩

/-! BURST_SENT_k (04_upstream_bursts.md) -/
def BURST_SENT.COUNT (k : Nat) : Fld := ⟨0x312000 + 0x10 * k, 0, 32, .rc, 0⟩

/-! BURST_SKIP_k (04_upstream_bursts.md) -/
def BURST_SKIP.LATE (k : Nat) : Fld := ⟨0x312004 + 0x10 * k, 16, 16, .rc, 0⟩
def BURST_SKIP.BAD (k : Nat) : Fld := ⟨0x312004 + 0x10 * k, 0, 16, .rc, 0⟩

/-! BURST_SKIPX_k (04_upstream_bursts.md) -/
def BURST_SKIPX.CONFLICT (k : Nat) : Fld := ⟨0x312008 + 0x10 * k, 16, 16, .rc, 0⟩
def BURST_SKIPX.NOTX (k : Nat) : Fld := ⟨0x312008 + 0x10 * k, 0, 16, .rc, 0⟩

/-! BURST_SKEW_k (04_upstream_bursts.md) -/
def BURST_SKEW.VALID (k : Nat) : Fld := ⟨0x31200c + 0x10 * k, 31, 1, .ro, 0⟩
def BURST_SKEW.SKEW (k : Nat) : Fld := ⟨0x31200c + 0x10 * k, 0, 16, .ro, 0⟩

/-! JOIN_CTRL (05_joining.md) -/
def JOIN_CTRL.MAX_PROFILE : Fld := ⟨0x400000, 4, 2, .rw, 3⟩
def JOIN_CTRL.RELEASE : Fld := ⟨0x400000, 1, 1, .rw1s, 0⟩
def JOIN_CTRL.ENABLE : Fld := ⟨0x400000, 0, 1, .rw, 1⟩

/-! JOIN_STATUS (05_joining.md) -/
def JOIN_STATUS.RTD_VALID : Fld := ⟨0x400004, 24, 4, .ro, 0⟩
def JOIN_STATUS.LAST_EXIT : Fld := ⟨0x400004, 20, 4, .ro, 0⟩
def JOIN_STATUS.CW : Fld := ⟨0x400004, 12, 7, .ro, 1⟩
def JOIN_STATUS.HOLD : Fld := ⟨0x400004, 11, 1, .ro, 0⟩
def JOIN_STATUS.PROFILE_LOW : Fld := ⟨0x400004, 10, 1, .ro, 0⟩
def JOIN_STATUS.WARM : Fld := ⟨0x400004, 9, 1, .ro, 0⟩
def JOIN_STATUS.PROFILE : Fld := ⟨0x400004, 4, 4, .ro, 0⟩
def JOIN_STATUS.STATE : Fld := ⟨0x400004, 0, 3, .ro, 0⟩

/-! JOIN_SERIAL_LO (05_joining.md) -/
def JOIN_SERIAL_LO.UNIT_LO : Fld := ⟨0x400008, 0, 32, .ro, 0⟩

/-! JOIN_SERIAL_HI (05_joining.md) -/
def JOIN_SERIAL_HI.VENDOR : Fld := ⟨0x40000c, 16, 16, .ro, 0⟩
def JOIN_SERIAL_HI.UNIT_HI : Fld := ⟨0x40000c, 0, 16, .ro, 0⟩

/-! JOIN_TID (05_joining.md) -/
def JOIN_TID.VALID : Fld := ⟨0x400010, 31, 1, .ro, 0⟩
def JOIN_TID.DEV_ALLOC : Fld := ⟨0x400010, 12, 16, .ro, 0⟩
def JOIN_TID.TID : Fld := ⟨0x400010, 0, 12, .ro, 0⟩

/-! JOIN_TREE (05_joining.md) -/
def JOIN_TREE.VALID : Fld := ⟨0x400014, 31, 1, .ro, 0⟩
def JOIN_TREE.TREE_ID : Fld := ⟨0x400014, 0, 16, .ro, 0⟩

/-! JOIN_DISC (05_joining.md) -/
def JOIN_DISC.SENT : Fld := ⟨0x400018, 16, 16, .rc, 0⟩
def JOIN_DISC.COLLIDED : Fld := ⟨0x400018, 0, 16, .rc, 0⟩

/-! JOIN_TEND (05_joining.md) -/
def JOIN_TEND.OVERRUN : Fld := ⟨0x40001c, 24, 8, .rc, 0⟩
def JOIN_TEND.REFUSED : Fld := ⟨0x40001c, 16, 8, .rc, 0⟩
def JOIN_TEND.BAD_CRC : Fld := ⟨0x40001c, 8, 8, .rc, 0⟩
def JOIN_TEND.DUP : Fld := ⟨0x40001c, 0, 8, .rc, 0⟩

/-! JOIN_TEND_SLOTS (05_joining.md) -/
def JOIN_TEND_SLOTS.VALID : Fld := ⟨0x400020, 31, 1, .ro, 0⟩
def JOIN_TEND_SLOTS.UP : Fld := ⟨0x400020, 16, 14, .ro, 0⟩
def JOIN_TEND_SLOTS.DOWN : Fld := ⟨0x400020, 0, 14, .ro, 0⟩

/-! JOIN_RTD_n (05_joining.md) -/
def JOIN_RTD.RTD (n : Nat) : Fld := ⟨0x400030 + 0x4 * n, 0, 32, .ro, 0⟩

/-! TIME_STATUS (06_time_engine.md) -/
def TIME_STATUS.REFUSED_RUN : Fld := ⟨0x200000, 24, 4, .ro, 0⟩
def TIME_STATUS.LOST_RUN : Fld := ⟨0x200000, 16, 8, .ro, 0⟩
def TIME_STATUS.STEP_REFUSED : Fld := ⟨0x200000, 6, 1, .w1c, 0⟩
def TIME_STATUS.STEPPED : Fld := ⟨0x200000, 5, 1, .w1c, 0⟩
def TIME_STATUS.HOLD_FREE : Fld := ⟨0x200000, 3, 1, .ro, 0⟩
def TIME_STATUS.HOLDOVER : Fld := ⟨0x200000, 2, 1, .ro, 0⟩
def TIME_STATUS.LOCKED : Fld := ⟨0x200000, 1, 1, .ro, 0⟩
def TIME_STATUS.VALID : Fld := ⟨0x200000, 0, 1, .ro, 0⟩

/-! TIME_NOW_NS (06_time_engine.md) -/
def TIME_NOW_NS.NS : Fld := ⟨0x200004, 0, 32, .ro, 0⟩

/-! TIME_NOW_MID (06_time_engine.md) -/
def TIME_NOW_MID.SEC_LO : Fld := ⟨0x200008, 16, 16, .ro, 0⟩
def TIME_NOW_MID.FRAC : Fld := ⟨0x200008, 0, 16, .ro, 0⟩

/-! TIME_NOW_SEC (06_time_engine.md) -/
def TIME_NOW_SEC.SEC_HI : Fld := ⟨0x20000c, 0, 32, .ro, 0⟩

/-! TIME_NOW_TS (06_time_engine.md) -/
def TIME_NOW_TS.TS : Fld := ⟨0x200010, 0, 32, .ro, 0⟩

/-! TIME_CNT_LO (06_time_engine.md) -/
def TIME_CNT_LO.CNT_LO : Fld := ⟨0x200014, 0, 32, .ro, 0⟩

/-! TIME_CNT_HI (06_time_engine.md) -/
def TIME_CNT_HI.CNT_HI : Fld := ⟨0x200018, 0, 32, .ro, 0⟩

/-! TIME_RATE_LO (06_time_engine.md) -/
def TIME_RATE_LO.RATE_LO : Fld := ⟨0x20001c, 0, 32, .rw, 0⟩

/-! TIME_RATE_HI (06_time_engine.md) -/
def TIME_RATE_HI.RATE_HI : Fld := ⟨0x200020, 0, 8, .rw, 0⟩

/-! TIME_STEP_LO (06_time_engine.md) -/
def TIME_STEP_LO.STEP_LO : Fld := ⟨0x200024, 0, 32, .rw, 0⟩

/-! TIME_STEP_HI (06_time_engine.md) -/
def TIME_STEP_HI.STEP_HI : Fld := ⟨0x200028, 0, 16, .rw, 0⟩

/-! TIME_SET_NS (06_time_engine.md) -/
def TIME_SET_NS.NS : Fld := ⟨0x20002c, 0, 32, .rw, 0⟩

/-! TIME_SET_MID (06_time_engine.md) -/
def TIME_SET_MID.SEC_LO : Fld := ⟨0x200030, 16, 16, .rw, 0⟩
def TIME_SET_MID.FRAC : Fld := ⟨0x200030, 0, 16, .rw, 0⟩

/-! TIME_SET_SEC (06_time_engine.md) -/
def TIME_SET_SEC.SEC : Fld := ⟨0x200034, 0, 32, .rw, 0⟩

/-! TIME_ADJ (06_time_engine.md) -/
def TIME_ADJ.GO_STEP : Fld := ⟨0x200038, 31, 1, .rw1s, 0⟩
def TIME_ADJ.GO_SET : Fld := ⟨0x200038, 30, 1, .rw1s, 0⟩
def TIME_ADJ.FORCE : Fld := ⟨0x200038, 29, 1, .rw, 0⟩
def TIME_ADJ.RESULT : Fld := ⟨0x200038, 24, 2, .ro, 0⟩

/-! TIME_JUMP (06_time_engine.md) -/
def TIME_JUMP.THRESH : Fld := ⟨0x20003c, 0, 32, .rw, 1000⟩

/-! TIME_HOLD (06_time_engine.md) -/
def TIME_HOLD.ELAPSED : Fld := ⟨0x200040, 16, 16, .ro, 0⟩
def TIME_HOLD.LIMIT : Fld := ⟨0x200040, 0, 16, .rw, 100⟩

/-! TIME_OFS_NS (06_time_engine.md) -/
def TIME_OFS_NS.NS : Fld := ⟨0x200044, 0, 32, .ro, 0⟩

/-! TIME_OFS_MID (06_time_engine.md) -/
def TIME_OFS_MID.SEC_LO : Fld := ⟨0x200048, 16, 16, .ro, 0⟩
def TIME_OFS_MID.FRAC : Fld := ⟨0x200048, 0, 16, .ro, 0⟩

/-! TIME_OFS_SEC (06_time_engine.md) -/
def TIME_OFS_SEC.SEC : Fld := ⟨0x20004c, 0, 32, .ro, 0⟩

/-! TIME_BASE_LO (06_time_engine.md) -/
def TIME_BASE_LO.BASE_LO : Fld := ⟨0x200050, 0, 32, .ro, 0⟩

/-! TIME_BASE_HI (06_time_engine.md) -/
def TIME_BASE_HI.BASE_HI : Fld := ⟨0x200054, 0, 32, .ro, 0⟩

/-! TIME_FS_SEL (06_time_engine.md) -/
def TIME_FS_SEL.FRAC : Fld := ⟨0x200060, 16, 16, .ro, 0⟩
def TIME_FS_SEL.VALID : Fld := ⟨0x200060, 15, 1, .ro, 0⟩
def TIME_FS_SEL.IDX : Fld := ⟨0x200060, 0, 7, .rw, 0⟩

/-! TIME_FS_FC (06_time_engine.md) -/
def TIME_FS_FC.FC : Fld := ⟨0x200064, 0, 32, .ro, 0⟩

/-! TIME_FS_TS (06_time_engine.md) -/
def TIME_FS_TS.TS : Fld := ⟨0x200068, 0, 32, .ro, 0⟩

/-! TIME_CAL_IDX (06_time_engine.md) -/
def TIME_CAL_IDX.ENTRY : Fld := ⟨0x200070, 0, 7, .rw, 0⟩

/-! TIME_CAL_VAL (06_time_engine.md) -/
def TIME_CAL_VAL.DELAY : Fld := ⟨0x200074, 0, 32, .rw, 0⟩

/-! TIME_DC_STATUS (06_time_engine.md) -/
def TIME_DC_STATUS.DN_FRAC : Fld := ⟨0x200080, 16, 16, .ro, 0⟩
def TIME_DC_STATUS.VALID : Fld := ⟨0x200080, 15, 1, .ro, 0⟩
def TIME_DC_STATUS.SYM : Fld := ⟨0x200080, 14, 1, .ro, 0⟩
def TIME_DC_STATUS.ERR : Fld := ⟨0x200080, 11, 3, .ro, 0⟩
def TIME_DC_STATUS.CHANNEL : Fld := ⟨0x200080, 0, 6, .ro, 0⟩

/-! TIME_DC_ASYM (06_time_engine.md) -/
def TIME_DC_ASYM.ASYM : Fld := ⟨0x200084, 0, 32, .ro, 0⟩

/-! TIME_DC_DN_NS (06_time_engine.md) -/
def TIME_DC_DN_NS.DN_NS : Fld := ⟨0x200088, 0, 32, .ro, 0⟩

/-! TIME_PPS_A (06_time_engine.md) -/
def TIME_PPS_A.ENABLE : Fld := ⟨0x2000a0, 31, 1, .rw, 0⟩
def TIME_PPS_A.ADV : Fld := ⟨0x2000a0, 12, 12, .rw, 0⟩
def TIME_PPS_A.WIDTH : Fld := ⟨0x2000a0, 0, 12, .rw, 1000⟩

/-! TIME_PPS_B (06_time_engine.md) -/
def TIME_PPS_B.ENABLE : Fld := ⟨0x2000a4, 31, 1, .rw, 0⟩
def TIME_PPS_B.ADV : Fld := ⟨0x2000a4, 12, 12, .rw, 0⟩
def TIME_PPS_B.WIDTH : Fld := ⟨0x2000a4, 0, 12, .rw, 1000⟩

/-! TIME_CAP_x_NS (06_time_engine.md) -/
def TIME_CAP_NS.NS (x : Nat) : Fld := ⟨0x200100 + 0x10 * x, 0, 32, .ro, 0⟩

/-! TIME_CAP_x_MID (06_time_engine.md) -/
def TIME_CAP_MID.SEC_LO (x : Nat) : Fld := ⟨0x200104 + 0x10 * x, 16, 16, .ro, 0⟩
def TIME_CAP_MID.FRAC (x : Nat) : Fld := ⟨0x200104 + 0x10 * x, 0, 16, .ro, 0⟩

/-! TIME_CAP_x_SEC (06_time_engine.md) -/
def TIME_CAP_SEC.SEC (x : Nat) : Fld := ⟨0x200108 + 0x10 * x, 0, 32, .ro, 0⟩

/-! TIME_CAP_x_CTRL (06_time_engine.md) -/
def TIME_CAP_CTRL.OVERRUN (x : Nat) : Fld := ⟨0x20010c + 0x10 * x, 2, 1, .w1c, 0⟩
def TIME_CAP_CTRL.NEW (x : Nat) : Fld := ⟨0x20010c + 0x10 * x, 1, 1, .w1c, 0⟩
def TIME_CAP_CTRL.ENABLE (x : Nat) : Fld := ⟨0x20010c + 0x10 * x, 0, 1, .rw, 0⟩

/-! TIME_TRIG_n_NS (06_time_engine.md) -/
def TIME_TRIG_NS.NS (n : Nat) : Fld := ⟨0x201000 + 0x20 * n, 0, 32, .rw, 0⟩

/-! TIME_TRIG_n_MID (06_time_engine.md) -/
def TIME_TRIG_MID.SEC_LO (n : Nat) : Fld := ⟨0x201004 + 0x20 * n, 16, 16, .rw, 0⟩
def TIME_TRIG_MID.FRAC (n : Nat) : Fld := ⟨0x201004 + 0x20 * n, 0, 16, .rw, 0⟩

/-! TIME_TRIG_n_SEC (06_time_engine.md) -/
def TIME_TRIG_SEC.SEC (n : Nat) : Fld := ⟨0x201008 + 0x20 * n, 0, 32, .rw, 0⟩

/-! TIME_TRIG_n_PERIOD (06_time_engine.md) -/
def TIME_TRIG_PERIOD.PERIOD (n : Nat) : Fld := ⟨0x20100c + 0x20 * n, 0, 32, .rw, 0⟩

/-! TIME_TRIG_n_CTRL (06_time_engine.md) -/
def TIME_TRIG_CTRL.ARM (n : Nat) : Fld := ⟨0x201010 + 0x20 * n, 31, 1, .rw, 0⟩
def TIME_TRIG_CTRL.FIRED (n : Nat) : Fld := ⟨0x201010 + 0x20 * n, 30, 1, .w1c, 0⟩
def TIME_TRIG_CTRL.SKIPPED (n : Nat) : Fld := ⟨0x201010 + 0x20 * n, 16, 8, .rc, 0⟩
def TIME_TRIG_CTRL.ACTION (n : Nat) : Fld := ⟨0x201010 + 0x20 * n, 12, 4, .rw, 0⟩
def TIME_TRIG_CTRL.ARG (n : Nat) : Fld := ⟨0x201010 + 0x20 * n, 0, 10, .rw, 0⟩

/-! SPR_CTRL (07_time_service.md) -/
def SPR_CTRL.ENABLE : Fld := ⟨0x240000, 31, 1, .rw, 1⟩
def SPR_CTRL.SDO : Fld := ⟨0x240000, 24, 4, .rw, 0⟩
def SPR_CTRL.DOMAIN : Fld := ⟨0x240000, 16, 8, .rw, 0⟩
def SPR_CTRL.TIME_SOURCE : Fld := ⟨0x240000, 8, 8, .rw, 144⟩
def SPR_CTRL.MAX_DUR : Fld := ⟨0x240000, 0, 8, .rw, 60⟩

/-! SPR_STATUS (07_time_service.md) -/
def SPR_STATUS.PORT_REFUSED : Fld := ⟨0x240004, 23, 1, .w1c, 0⟩
def SPR_STATUS.COND : Fld := ⟨0x240004, 21, 2, .ro, 0⟩
def SPR_STATUS.ENTRIES : Fld := ⟨0x240004, 0, 18, .ro, 0⟩

/-! SPR_CLKID_LO (07_time_service.md) -/
def SPR_CLKID_LO.V : Fld := ⟨0x240008, 0, 32, .rw, 0⟩

/-! SPR_CLKID_HI (07_time_service.md) -/
def SPR_CLKID_HI.V : Fld := ⟨0x24000c, 0, 32, .rw, 0⟩

/-! SPR_GM_LO (07_time_service.md) -/
def SPR_GM_LO.V : Fld := ⟨0x240010, 0, 32, .rw, 0⟩

/-! SPR_GM_HI (07_time_service.md) -/
def SPR_GM_HI.V : Fld := ⟨0x240014, 0, 32, .rw, 0⟩

/-! SPR_GM_CFG (07_time_service.md) -/
def SPR_GM_CFG.PRIO1 : Fld := ⟨0x240018, 24, 8, .rw, 128⟩
def SPR_GM_CFG.PRIO2 : Fld := ⟨0x240018, 16, 8, .rw, 128⟩
def SPR_GM_CFG.STEPS : Fld := ⟨0x240018, 0, 16, .rw, 1⟩

/-! SPR_UTC (07_time_service.md) -/
def SPR_UTC.VALID : Fld := ⟨0x24001c, 31, 1, .ro, 0⟩
def SPR_UTC.LEAP61 : Fld := ⟨0x24001c, 30, 1, .ro, 0⟩
def SPR_UTC.LEAP59 : Fld := ⟨0x24001c, 29, 1, .ro, 0⟩
def SPR_UTC.OFFSET : Fld := ⟨0x24001c, 0, 16, .ro, 0⟩

/-! SPR_QUAL_c (07_time_service.md) -/
def SPR_QUAL.CLASS (c : Nat) : Fld := ⟨0x240020 + 0x4 * c, 24, 8, .rw, (if c = 2 then 0x07 else if c = 3 then 0x06 else 0xF8)⟩
def SPR_QUAL.ACCURACY (c : Nat) : Fld := ⟨0x240020 + 0x4 * c, 16, 8, .rw, (if c = 2 then 0x20 else if c = 3 then 0x1F else 0xFE)⟩
def SPR_QUAL.VARIANCE (c : Nat) : Fld := ⟨0x240020 + 0x4 * c, 0, 16, .rw, (if c = 2 then 0x4E5D else if c = 3 then 0x4100 else 0xFFFF)⟩

/-! SPR_CMD (07_time_service.md) -/
def SPR_CMD.GO : Fld := ⟨0x240030, 31, 1, .rw1s, 0⟩
def SPR_CMD.OP : Fld := ⟨0x240030, 28, 3, .rw, 0⟩
def SPR_CMD.RESULT : Fld := ⟨0x240030, 25, 3, .ro, 0⟩
def SPR_CMD.INDEX : Fld := ⟨0x240030, 0, 18, .rw, 0⟩

/-! SPR_DATA_w (07_time_service.md) -/
def SPR_DATA.V (w : Nat) : Fld := ⟨0x240040 + 0x4 * w, 0, 32, .rw, 0⟩

/-! SPR_DROP (07_time_service.md) -/
def SPR_DROP.NO_CLIENT : Fld := ⟨0x240080, 16, 16, .rc, 0⟩
def SPR_DROP.RATE : Fld := ⟨0x240080, 0, 16, .rc, 0⟩

/-! SPR_DROPX (07_time_service.md) -/
def SPR_DROPX.SIG_OVF : Fld := ⟨0x240084, 16, 16, .rc, 0⟩
def SPR_DROPX.FOREIGN : Fld := ⟨0x240084, 0, 16, .rc, 0⟩

/-! SPR_ROW_LOAD_g (07_time_service.md) -/
def SPR_ROW_LOAD.LOAD (g : Nat) : Fld := ⟨0x241000 + 0x4 * g, 0, 26, .ro, 0⟩

/-! SPR_PORT_p (07_time_service.md) -/
def SPR_PORT.ENABLE (p : Nat) : Fld := ⟨0x242000 + 0x20 * p, 31, 1, .rw, 0⟩
def SPR_PORT.MCAST_EN (p : Nat) : Fld := ⟨0x242000 + 0x20 * p, 30, 1, .rw, 0⟩
def SPR_PORT.TWO_STEP (p : Nat) : Fld := ⟨0x242000 + 0x20 * p, 29, 1, .rw, 0⟩
def SPR_PORT.TRANSPORT (p : Nat) : Fld := ⟨0x242000 + 0x20 * p, 27, 2, .rw, 0⟩
def SPR_PORT.DRESP_UNICAST (p : Nat) : Fld := ⟨0x242000 + 0x20 * p, 26, 1, .rw, 0⟩
def SPR_PORT.LOG_ANN (p : Nat) : Fld := ⟨0x242000 + 0x20 * p, 16, 8, .rw, 1⟩
def SPR_PORT.LOG_SYNC (p : Nat) : Fld := ⟨0x242000 + 0x20 * p, 8, 8, .rw, 0⟩
def SPR_PORT.TC (p : Nat) : Fld := ⟨0x242000 + 0x20 * p, 0, 3, .rw, 7⟩

/-! SPR_PORT_ADJ_p (07_time_service.md) -/
def SPR_PORT_ADJ.EGRESS_ADJ (p : Nat) : Fld := ⟨0x242004 + 0x20 * p, 16, 16, .rw, 0⟩
def SPR_PORT_ADJ.INGRESS_ADJ (p : Nat) : Fld := ⟨0x242004 + 0x20 * p, 0, 16, .rw, 0⟩

/-! SPR_PORT_MAC_LO_p (07_time_service.md) -/
def SPR_PORT_MAC_LO.MAC_LO (p : Nat) : Fld := ⟨0x242008 + 0x20 * p, 0, 32, .rw, 0⟩

/-! SPR_PORT_MAC_HI_p (07_time_service.md) -/
def SPR_PORT_MAC_HI.MAC_HI (p : Nat) : Fld := ⟨0x24200c + 0x20 * p, 0, 16, .rw, 0⟩

/-! SPR_PORT_IP4_p (07_time_service.md) -/
def SPR_PORT_IP4.IP4 (p : Nat) : Fld := ⟨0x242010 + 0x20 * p, 0, 32, .rw, 0⟩

/-! SPR_PORT_IP6_p_w (07_time_service.md) -/
def SPR_PORT_IP6.V (p w : Nat) : Fld := ⟨0x248000 + 0x10 * p + 0x4 * w, 0, 32, .rw, 0⟩

/-! SIEVE_VER (08_sieve.md) -/
def SIEVE_VER.RETIRED : Fld := ⟨0x500000, 16, 16, .ro, 65535⟩
def SIEVE_VER.REFUSED : Fld := ⟨0x500000, 8, 8, .rc, 0⟩
def SIEVE_VER.PENDING : Fld := ⟨0x500000, 4, 1, .ro, 0⟩
def SIEVE_VER.CUR : Fld := ⟨0x500000, 0, 4, .ro, 0⟩

/-! SIEVE_COMMIT (08_sieve.md) -/
def SIEVE_COMMIT.GO : Fld := ⟨0x500004, 31, 1, .rw1s, 0⟩
def SIEVE_COMMIT.ABORT : Fld := ⟨0x500004, 30, 1, .rw1s, 0⟩
def SIEVE_COMMIT.RESULT : Fld := ⟨0x500004, 24, 2, .ro, 0⟩

/-! SIEVE_LOCK (08_sieve.md) -/
def SIEVE_LOCK.DENIED : Fld := ⟨0x500008, 16, 16, .rc, 0⟩
def SIEVE_LOCK.OWNER : Fld := ⟨0x500008, 4, 2, .ro, 0⟩
def SIEVE_LOCK.FORCE_RELEASE : Fld := ⟨0x500008, 2, 1, .wo, 0⟩
def SIEVE_LOCK.RELEASE : Fld := ⟨0x500008, 1, 1, .wo, 0⟩
def SIEVE_LOCK.ACQUIRE : Fld := ⟨0x500008, 0, 1, .wo, 0⟩

/-! SIEVE_STATUS (08_sieve.md) -/
def SIEVE_STATUS.BATCH_REFUSED : Fld := ⟨0x50000c, 31, 1, .ro, 0⟩
def SIEVE_STATUS.REJ_NEXT : Fld := ⟨0x50000c, 20, 4, .ro, 0⟩
def SIEVE_STATUS.USED : Fld := ⟨0x50000c, 0, 18, .ro, 0⟩

/-! SIEVE_OP_STATUS (08_sieve.md) -/
def SIEVE_OP_STATUS.OVERFLOW : Fld := ⟨0x500010, 24, 8, .rc, 0⟩
def SIEVE_OP_STATUS.FREE : Fld := ⟨0x500010, 16, 7, .ro, 64⟩
def SIEVE_OP_STATUS.STAGED : Fld := ⟨0x500010, 0, 13, .ro, 0⟩

/-! SIEVE_OP_RES (08_sieve.md) -/
def SIEVE_OP_RES.RESULT : Fld := ⟨0x500014, 29, 3, .ro, 0⟩
def SIEVE_OP_RES.INDEX : Fld := ⟨0x500014, 0, 18, .ro, 0⟩

/-! SIEVE_NOBED (08_sieve.md) -/
def SIEVE_NOBED.COUNT : Fld := ⟨0x500018, 0, 32, .rc, 0⟩

/-! SIEVE_OP_w (08_sieve.md) -/
def SIEVE_OP.V (w : Nat) : Fld := ⟨0x500020 + 0x4 * w, 0, 32, .rw, 0⟩

/-! SIEVE_REJ_i (08_sieve.md) -/
def SIEVE_REJ.RESULT (i : Nat) : Fld := ⟨0x500040 + 0x4 * i, 29, 3, .ro, 0⟩
def SIEVE_REJ.BED (i : Nat) : Fld := ⟨0x500040 + 0x4 * i, 26, 3, .ro, 0⟩
def SIEVE_REJ.DIR (i : Nat) : Fld := ⟨0x500040 + 0x4 * i, 25, 1, .ro, 0⟩
def SIEVE_REJ.KT (i : Nat) : Fld := ⟨0x500040 + 0x4 * i, 22, 3, .ro, 0⟩
def SIEVE_REJ.TAG (i : Nat) : Fld := ⟨0x500040 + 0x4 * i, 0, 16, .ro, 0⟩

/-! SIEVE_BED_b_DN_CFG (08_sieve.md) -/
def SIEVE_BED_DN_CFG.KT (b : Nat) : Fld := ⟨0x500100 + 0x20 * b, 29, 3, .rw, 0⟩
def SIEVE_BED_DN_CFG.NOMATCH (b : Nat) : Fld := ⟨0x500100 + 0x20 * b, 27, 2, .rw, 0⟩
def SIEVE_BED_DN_CFG.PARSEFAIL (b : Nat) : Fld := ⟨0x500100 + 0x20 * b, 25, 2, .rw, 0⟩
def SIEVE_BED_DN_CFG.PVID (b : Nat) : Fld := ⟨0x500100 + 0x20 * b, 0, 12, .rw, 1⟩

/-! SIEVE_BED_b_DN_DEF (08_sieve.md) -/
def SIEVE_BED_DN_DEF.GPORT (b : Nat) : Fld := ⟨0x500104 + 0x20 * b, 24, 8, .rw, 0⟩
def SIEVE_BED_DN_DEF.QUEUE (b : Nat) : Fld := ⟨0x500104 + 0x20 * b, 21, 3, .rw, 0⟩

/-! SIEVE_BED_b_UP_CFG (08_sieve.md) -/
def SIEVE_BED_UP_CFG.KT (b : Nat) : Fld := ⟨0x500108 + 0x20 * b, 29, 3, .rw, 0⟩
def SIEVE_BED_UP_CFG.NOMATCH (b : Nat) : Fld := ⟨0x500108 + 0x20 * b, 27, 2, .rw, 0⟩
def SIEVE_BED_UP_CFG.PARSEFAIL (b : Nat) : Fld := ⟨0x500108 + 0x20 * b, 25, 2, .rw, 0⟩
def SIEVE_BED_UP_CFG.PVID (b : Nat) : Fld := ⟨0x500108 + 0x20 * b, 0, 12, .rw, 1⟩

/-! SIEVE_BED_b_UP_DEF (08_sieve.md) -/
def SIEVE_BED_UP_DEF.ALLOC (b : Nat) : Fld := ⟨0x50010c + 0x20 * b, 24, 8, .rw, 0⟩
def SIEVE_BED_UP_DEF.CLASS (b : Nat) : Fld := ⟨0x50010c + 0x20 * b, 21, 3, .rw, 0⟩

/-! SIEVE_CNT_b_DN (08_sieve.md) -/
def SIEVE_CNT_DN.NOMATCH (b : Nat) : Fld := ⟨0x500110 + 0x20 * b, 16, 16, .rc, 0⟩
def SIEVE_CNT_DN.PARSEFAIL (b : Nat) : Fld := ⟨0x500110 + 0x20 * b, 0, 16, .rc, 0⟩

/-! SIEVE_CNT_b_UP (08_sieve.md) -/
def SIEVE_CNT_UP.NOMATCH (b : Nat) : Fld := ⟨0x500114 + 0x20 * b, 16, 16, .rc, 0⟩
def SIEVE_CNT_UP.PARSEFAIL (b : Nat) : Fld := ⟨0x500114 + 0x20 * b, 0, 16, .rc, 0⟩

/-! SIEVE_CNTX_b (08_sieve.md) -/
def SIEVE_CNTX.OVERSIZE_DN (b : Nat) : Fld := ⟨0x500118 + 0x20 * b, 16, 16, .rc, 0⟩
def SIEVE_CNTX.OVERSIZE_UP (b : Nat) : Fld := ⟨0x500118 + 0x20 * b, 0, 16, .rc, 0⟩

/-! SIEVE_FOX_b_d_w_A (08_sieve.md) -/
def SIEVE_FOX_A.OFFSET (b d w : Nat) : Fld := ⟨0x500400 + 0x40 * b + 0x20 * d + 0x8 * w, 24, 8, .rw, 0⟩
def SIEVE_FOX_A.MASK_HI (b d w : Nat) : Fld := ⟨0x500400 + 0x40 * b + 0x20 * d + 0x8 * w, 0, 16, .rw, 0⟩

/-! SIEVE_FOX_b_d_w_B (08_sieve.md) -/
def SIEVE_FOX_B.MASK_LO (b d w : Nat) : Fld := ⟨0x500404 + 0x40 * b + 0x20 * d + 0x8 * w, 0, 32, .rw, 0⟩

/-! SIEVE_OVR_g (08_sieve.md) -/
def SIEVE_OVR.COUNT (g : Nat) : Fld := ⟨0x500800 + 0x4 * g, 0, 32, .rc, 0⟩

/-! SIEVE_SLOTBED_i (08_sieve.md) -/
def SIEVE_SLOTBED.BEDS (i : Nat) : Fld := ⟨0x501000 + 0x4 * i, 0, 32, .rw, 4294967295⟩

/-! SCHED_CTRL (09_buffers_scheduling.md) -/
def SCHED_CTRL.HOLD_MASK : Fld := ⟨0x600000, 24, 8, .rw, 127⟩
def SCHED_CTRL.TRIM_FACTOR : Fld := ⟨0x600000, 20, 4, .rw, 8⟩
def SCHED_CTRL.LEDGER_EN : Fld := ⟨0x600000, 0, 1, .rw, 1⟩

/-! SCHED_STATUS (09_buffers_scheduling.md) -/
def SCHED_STATUS.TRIM : Fld := ⟨0x600004, 16, 1, .ro, 0⟩
def SCHED_STATUS.A_SUM : Fld := ⟨0x600004, 0, 9, .ro, 0⟩

/-! SCHED_UP_USE (09_buffers_scheduling.md) -/
def SCHED_UP_USE.USED : Fld := ⟨0x600008, 0, 20, .ro, 0⟩

/-! SCHED_DN_USE (09_buffers_scheduling.md) -/
def SCHED_DN_USE.USED : Fld := ⟨0x60000c, 0, 20, .ro, 0⟩

/-! SCHED_POOL (09_buffers_scheduling.md) -/
def SCHED_POOL.POOL : Fld := ⟨0x600010, 0, 20, .ro, 786432⟩

/-! SCHED_LEDGER_b (09_buffers_scheduling.md) -/
def SCHED_LEDGER.MULT (b : Nat) : Fld := ⟨0x600040 + 0x4 * b, 28, 4, .rw, 1⟩
def SCHED_LEDGER.ACTIVE (b : Nat) : Fld := ⟨0x600040 + 0x4 * b, 20, 3, .ro, 0⟩
def SCHED_LEDGER.ROW_SHARE (b : Nat) : Fld := ⟨0x600040 + 0x4 * b, 0, 20, .ro, 0⟩

/-! SCHED_ROW_g (09_buffers_scheduling.md) -/
def SCHED_ROW.NOPORT (g : Nat) : Fld := ⟨0x600100 + 0x4 * g, 16, 16, .rc, 0⟩
def SCHED_ROW.UP_WEIGHT (g : Nat) : Fld := ⟨0x600100 + 0x4 * g, 0, 8, .rw, 1⟩

/-! SCHED_UP_PORT_p_CFG (09_buffers_scheduling.md) -/
def SCHED_UP_PORT_CFG.FC_MODE (p : Nat) : Fld := ⟨0x601000 + 0x20 * p, 30, 2, .rw, 2⟩
def SCHED_UP_PORT_CFG.PFC_EN (p : Nat) : Fld := ⟨0x601000 + 0x20 * p, 16, 8, .rw, 255⟩

/-! SCHED_UP_PORT_p_WM (09_buffers_scheduling.md) -/
def SCHED_UP_PORT_WM.HIGH_CAP (p : Nat) : Fld := ⟨0x601004 + 0x20 * p, 16, 14, .rw, 16383⟩
def SCHED_UP_PORT_WM.HYST (p : Nat) : Fld := ⟨0x601004 + 0x20 * p, 0, 14, .rw, 24⟩

/-! SCHED_UP_PORT_p_HEAD (09_buffers_scheduling.md) -/
def SCHED_UP_PORT_HEAD.QUANTA (p : Nat) : Fld := ⟨0x601008 + 0x20 * p, 16, 16, .rw, 65535⟩
def SCHED_UP_PORT_HEAD.HEADROOM (p : Nat) : Fld := ⟨0x601008 + 0x20 * p, 0, 16, .rw, 3125⟩

/-! SCHED_UP_PORT_p_USE (09_buffers_scheduling.md) -/
def SCHED_UP_PORT_USE.ASSERTED (p : Nat) : Fld := ⟨0x60100c + 0x20 * p, 31, 1, .ro, 0⟩
def SCHED_UP_PORT_USE.USED (p : Nat) : Fld := ⟨0x60100c + 0x20 * p, 0, 20, .ro, 0⟩

/-! SCHED_UP_PORT_p_DROP (09_buffers_scheduling.md) -/
def SCHED_UP_PORT_DROP.OVER (p : Nat) : Fld := ⟨0x601010 + 0x20 * p, 16, 16, .rc, 0⟩
def SCHED_UP_PORT_DROP.FULL (p : Nat) : Fld := ⟨0x601010 + 0x20 * p, 0, 16, .rc, 0⟩

/-! SCHED_DN_PORT_p_CFG (09_buffers_scheduling.md) -/
def SCHED_DN_PORT_CFG.TRIB_PRIO (p : Nat) : Fld := ⟨0x604000 + 0x20 * p, 24, 3, .rw, 7⟩
def SCHED_DN_PORT_CFG.PORT_MAX (p : Nat) : Fld := ⟨0x604000 + 0x20 * p, 0, 20, .rw, 8192⟩

/-! SCHED_DN_PORT_p_STAT (09_buffers_scheduling.md) -/
def SCHED_DN_PORT_STAT.PAUSED (p : Nat) : Fld := ⟨0x604004 + 0x20 * p, 24, 8, .ro, 0⟩
def SCHED_DN_PORT_STAT.LINK_PAUSED (p : Nat) : Fld := ⟨0x604004 + 0x20 * p, 23, 1, .ro, 0⟩
def SCHED_DN_PORT_STAT.USED (p : Nat) : Fld := ⟨0x604004 + 0x20 * p, 0, 20, .ro, 0⟩

/-! SCHED_DN_PORT_p_DROP (09_buffers_scheduling.md) -/
def SCHED_DN_PORT_DROP.DOWN (p : Nat) : Fld := ⟨0x604008 + 0x20 * p, 16, 16, .rc, 0⟩
def SCHED_DN_PORT_DROP.TRIB_REPL (p : Nat) : Fld := ⟨0x604008 + 0x20 * p, 0, 16, .rc, 0⟩

/-! SCHED_DN_Q_p_q (09_buffers_scheduling.md) -/
def SCHED_DN_Q.SP (p q : Nat) : Fld := ⟨0x608000 + 0x40 * p + 0x8 * q, 31, 1, .rw, 0⟩
def SCHED_DN_Q.WEIGHT (p q : Nat) : Fld := ⟨0x608000 + 0x40 * p + 0x8 * q, 16, 8, .rw, 1⟩
def SCHED_DN_Q.QMAX (p q : Nat) : Fld := ⟨0x608000 + 0x40 * p + 0x8 * q, 0, 16, .rw, 1024⟩

/-! SCHED_DN_QDROP_p_q (09_buffers_scheduling.md) -/
def SCHED_DN_QDROP.TAIL (p q : Nat) : Fld := ⟨0x608004 + 0x40 * p + 0x8 * q, 16, 16, .rc, 0⟩
def SCHED_DN_QDROP.GATE_OVER (p q : Nat) : Fld := ⟨0x608004 + 0x40 * p + 0x8 * q, 0, 16, .rc, 0⟩

/-! SCHED_GATE_g_CTRL (09_buffers_scheduling.md) -/
def SCHED_GATE_CTRL.GATE_EN (g : Nat) : Fld := ⟨0x60c000 + 0x40 * g, 31, 1, .rw, 0⟩
def SCHED_GATE_CTRL.ARM (g : Nat) : Fld := ⟨0x60c000 + 0x40 * g, 30, 1, .rw1s, 0⟩
def SCHED_GATE_CTRL.PENDING (g : Nat) : Fld := ⟨0x60c000 + 0x40 * g, 29, 1, .ro, 0⟩
def SCHED_GATE_CTRL.OPER (g : Nat) : Fld := ⟨0x60c000 + 0x40 * g, 28, 1, .ro, 0⟩
def SCHED_GATE_CTRL.STEP_SEEN (g : Nat) : Fld := ⟨0x60c000 + 0x40 * g, 3, 1, .w1c, 0⟩
def SCHED_GATE_CTRL.UNARMED (g : Nat) : Fld := ⟨0x60c000 + 0x40 * g, 2, 1, .w1c, 0⟩
def SCHED_GATE_CTRL.WR_REFUSED (g : Nat) : Fld := ⟨0x60c000 + 0x40 * g, 1, 1, .w1c, 0⟩

/-! SCHED_GATE_g_l_BASE_NS (09_buffers_scheduling.md) -/
def SCHED_GATE_BASE_NS.NS (g l : Nat) : Fld := ⟨0x60c010 + 0x40 * g + 0x10 * l, 0, 32, .rw, 0⟩

/-! SCHED_GATE_g_l_BASE_SEC (09_buffers_scheduling.md) -/
def SCHED_GATE_BASE_SEC.SEC_LO (g l : Nat) : Fld := ⟨0x60c014 + 0x40 * g + 0x10 * l, 0, 32, .rw, 0⟩

/-! SCHED_GATE_g_l_CFG (09_buffers_scheduling.md) -/
def SCHED_GATE_CFG.SEC_HI (g l : Nat) : Fld := ⟨0x60c018 + 0x40 * g + 0x10 * l, 16, 16, .rw, 0⟩
def SCHED_GATE_CFG.LEN (g l : Nat) : Fld := ⟨0x60c018 + 0x40 * g + 0x10 * l, 0, 9, .rw, 1⟩

/-! SCHED_GATE_g_l_CYCLE (09_buffers_scheduling.md) -/
def SCHED_GATE_CYCLE.CYCLE (g l : Nat) : Fld := ⟨0x60c01c + 0x40 * g + 0x10 * l, 0, 30, .rw, 1000000⟩

/-! SCHED_GCL_g_l_e (09_buffers_scheduling.md) -/
def SCHED_GCL.GATES (g l e : Nat) : Fld := ⟨0x610000 + 0x800 * g + 0x400 * l + 0x4 * e, 24, 8, .rw, 255⟩
def SCHED_GCL.INTERVAL (g l e : Nat) : Fld := ⟨0x610000 + 0x800 * g + 0x400 * l + 0x4 * e, 0, 24, .rw, 0⟩

/-! METER_m_POL_RATE (09_buffers_scheduling.md) -/
def METER_POL_RATE.RATE (m : Nat) : Fld := ⟨0x620000 + 0x20 * m, 0, 32, .rw, 0⟩

/-! METER_m_SHP_RATE (09_buffers_scheduling.md) -/
def METER_SHP_RATE.RATE (m : Nat) : Fld := ⟨0x620004 + 0x20 * m, 0, 32, .rw, 0⟩

/-! METER_m_CFG (09_buffers_scheduling.md) -/
def METER_CFG.POL_EN (m : Nat) : Fld := ⟨0x620008 + 0x20 * m, 31, 1, .rw, 0⟩
def METER_CFG.SHP_EN (m : Nat) : Fld := ⟨0x620008 + 0x20 * m, 30, 1, .rw, 0⟩
def METER_CFG.LEN_MODE (m : Nat) : Fld := ⟨0x620008 + 0x20 * m, 29, 1, .rw, 0⟩
def METER_CFG.POL_BURST (m : Nat) : Fld := ⟨0x620008 + 0x20 * m, 0, 24, .rw, 9620⟩

/-! METER_m_SHPB (09_buffers_scheduling.md) -/
def METER_SHPB.SHP_BURST (m : Nat) : Fld := ⟨0x62000c + 0x20 * m, 0, 24, .rw, 9620⟩

/-! METER_m_CNT (09_buffers_scheduling.md) -/
def METER_CNT.POL_DROP (m : Nat) : Fld := ⟨0x620010 + 0x20 * m, 16, 16, .rc, 0⟩
def METER_CNT.SHP_CLAMP (m : Nat) : Fld := ⟨0x620010 + 0x20 * m, 0, 16, .rc, 0⟩

/-! CIPHER_CTRL (10_cipher.md) -/
def CIPHER_CTRL.SEAL_EVT : Fld := ⟨0x700000, 8, 6, .rw, 0⟩
def CIPHER_CTRL.SEAL_EVT_EN : Fld := ⟨0x700000, 0, 1, .rw, 0⟩

/-! CIPHER_STATUS (10_cipher.md) -/
def CIPHER_STATUS.KEK_VALID : Fld := ⟨0x700004, 31, 1, .ro, 0⟩
def CIPHER_STATUS.SPARES_FREE : Fld := ⟨0x700004, 16, 3, .ro, 4⟩
def CIPHER_STATUS.LOADED : Fld := ⟨0x700004, 0, 15, .ro, 0⟩

/-! CIPHER_INV_LIMIT_LO (10_cipher.md) -/
def CIPHER_INV_LIMIT_LO.LIMIT_LO : Fld := ⟨0x700008, 0, 32, .rw, 4294967295⟩

/-! CIPHER_INV_LIMIT_HI (10_cipher.md) -/
def CIPHER_INV_LIMIT_HI.LIMIT_HI : Fld := ⟨0x70000c, 0, 16, .rw, 65535⟩

/-! CIPHER_LOAD_CTRL (10_cipher.md) -/
def CIPHER_LOAD_CTRL.GO : Fld := ⟨0x700010, 31, 1, .rw1s, 0⟩
def CIPHER_LOAD_CTRL.STATUS : Fld := ⟨0x700010, 24, 4, .ro, 0⟩
def CIPHER_LOAD_CTRL.USE : Fld := ⟨0x700010, 16, 2, .rw, 0⟩
def CIPHER_LOAD_CTRL.SLOT : Fld := ⟨0x700010, 0, 14, .rw, 0⟩

/-! CIPHER_LOAD_W_i (10_cipher.md) -/
def CIPHER_LOAD_W.WRAPPED (i : Nat) : Fld := ⟨0x700020 + 0x4 * i, 0, 32, .wo, 0⟩

/-! CIPHER_SLOT_SEL (10_cipher.md) -/
def CIPHER_SLOT_SEL.SLOT : Fld := ⟨0x700050, 0, 14, .rw, 0⟩

/-! CIPHER_SLOT_STATE (10_cipher.md) -/
def CIPHER_SLOT_STATE.STATE : Fld := ⟨0x700054, 30, 2, .ro, 0⟩
def CIPHER_SLOT_STATE.PENDING : Fld := ⟨0x700054, 29, 1, .ro, 0⟩
def CIPHER_SLOT_STATE.TENDING : Fld := ⟨0x700054, 28, 1, .ro, 0⟩
def CIPHER_SLOT_STATE.USE : Fld := ⟨0x700054, 26, 2, .ro, 0⟩
def CIPHER_SLOT_STATE.SEAL_CAUSE : Fld := ⟨0x700054, 24, 2, .ro, 0⟩

/-! CIPHER_SLOT_INV_LO (10_cipher.md) -/
def CIPHER_SLOT_INV_LO.INV_LO : Fld := ⟨0x700058, 0, 32, .ro, 0⟩

/-! CIPHER_SLOT_INV_HI (10_cipher.md) -/
def CIPHER_SLOT_INV_HI.INV_HI : Fld := ⟨0x70005c, 0, 16, .ro, 0⟩

/-! CIPHER_SLOT_MASK_LO (10_cipher.md) -/
def CIPHER_SLOT_MASK_LO.MASK_LO : Fld := ⟨0x700060, 0, 32, .ro, 0⟩

/-! CIPHER_SLOT_MASK_HI (10_cipher.md) -/
def CIPHER_SLOT_MASK_HI.MASK_HI : Fld := ⟨0x700064, 0, 32, .ro, 0⟩

/-! CIPHER_SLOT_CMD (10_cipher.md) -/
def CIPHER_SLOT_CMD.ERASE : Fld := ⟨0x700068, 1, 1, .wo, 0⟩
def CIPHER_SLOT_CMD.SEAL : Fld := ⟨0x700068, 0, 1, .wo, 0⟩

/-! CIPHER_SEAL_POP (10_cipher.md) -/
def CIPHER_SEAL_POP.VALID : Fld := ⟨0x700070, 31, 1, .rc, 0⟩
def CIPHER_SEAL_POP.CAUSE : Fld := ⟨0x700070, 16, 2, .rc, 0⟩
def CIPHER_SEAL_POP.SLOT : Fld := ⟨0x700070, 0, 14, .rc, 0⟩

/-! CIPHER_SEAL_STAT (10_cipher.md) -/
def CIPHER_SEAL_STAT.LOST : Fld := ⟨0x700074, 16, 16, .rc, 0⟩
def CIPHER_SEAL_STAT.SEALED : Fld := ⟨0x700074, 0, 15, .ro, 0⟩

/-! CIPHER_DN_g (10_cipher.md) -/
def CIPHER_DN.AUTH_FAIL (g : Nat) : Fld := ⟨0x701000 + 0x10 * g, 16, 16, .rc, 0⟩
def CIPHER_DN.NO_KEY (g : Nat) : Fld := ⟨0x701000 + 0x10 * g, 0, 16, .rc, 0⟩

/-! CIPHER_DNX_g (10_cipher.md) -/
def CIPHER_DNX.SHORT (g : Nat) : Fld := ⟨0x701004 + 0x10 * g, 16, 16, .rc, 0⟩
def CIPHER_DNX.NO_EXT (g : Nat) : Fld := ⟨0x701004 + 0x10 * g, 0, 16, .rc, 0⟩

/-! CIPHER_UP_g (10_cipher.md) -/
def CIPHER_UP.SEAL_LOST (g : Nat) : Fld := ⟨0x701008 + 0x10 * g, 16, 16, .rc, 0⟩
def CIPHER_UP.REFUSED (g : Nat) : Fld := ⟨0x701008 + 0x10 * g, 0, 16, .rc, 0⟩

/-! TROWEL_STATUS (11_trowel_cores.md) -/
def TROWEL_STATUS.CORES : Fld := ⟨0x800000, 16, 4, .ro, 12⟩
def TROWEL_STATUS.SPARES_FREE : Fld := ⟨0x800000, 0, 3, .ro, 2⟩

/-! TROWEL_EVT (11_trowel_cores.md) -/
def TROWEL_EVT.GO : Fld := ⟨0x800004, 31, 1, .rw1s, 0⟩
def TROWEL_EVT.EVENT : Fld := ⟨0x800004, 0, 6, .rw, 0⟩

/-! TROWEL_MEM_ADDR (11_trowel_cores.md) -/
def TROWEL_MEM_ADDR.CORE : Fld := ⟨0x800008, 28, 4, .rw, 0⟩
def TROWEL_MEM_ADDR.SPACE : Fld := ⟨0x800008, 27, 1, .rw, 0⟩
def TROWEL_MEM_ADDR.OFFSET : Fld := ⟨0x800008, 2, 17, .rw, 0⟩

/-! TROWEL_MEM_DATA (11_trowel_cores.md) -/
def TROWEL_MEM_DATA.DATA : Fld := ⟨0x80000c, 0, 32, .rw, 0⟩

/-! TROWEL_CORE_n_CTRL (11_trowel_cores.md) -/
def TROWEL_CORE_CTRL.HALT (n : Nat) : Fld := ⟨0x800100 + 0x10 * n, 31, 1, .rw, 0⟩
def TROWEL_CORE_CTRL.RESTART (n : Nat) : Fld := ⟨0x800100 + 0x10 * n, 30, 1, .rw1s, 0⟩
def TROWEL_CORE_CTRL.DEBUG (n : Nat) : Fld := ⟨0x800100 + 0x10 * n, 29, 1, .rw, 0⟩

/-! TROWEL_CORE_n_STATUS (11_trowel_cores.md) -/
def TROWEL_CORE_STATUS.STATE (n : Nat) : Fld := ⟨0x800104 + 0x10 * n, 29, 3, .ro, 0⟩
def TROWEL_CORE_STATUS.HALT_CAUSE (n : Nat) : Fld := ⟨0x800104 + 0x10 * n, 25, 4, .ro, 0⟩
def TROWEL_CORE_STATUS.GRAFTED (n : Nat) : Fld := ⟨0x800104 + 0x10 * n, 24, 1, .ro, 0⟩
def TROWEL_CORE_STATUS.MEM_REFUSED (n : Nat) : Fld := ⟨0x800104 + 0x10 * n, 23, 1, .w1c, 0⟩
def TROWEL_CORE_STATUS.TRAP (n : Nat) : Fld := ⟨0x800104 + 0x10 * n, 22, 1, .ro, 0⟩
def TROWEL_CORE_STATUS.CWP (n : Nat) : Fld := ⟨0x800104 + 0x10 * n, 19, 3, .ro, 0⟩
def TROWEL_CORE_STATUS.DEPTH (n : Nat) : Fld := ⟨0x800104 + 0x10 * n, 16, 3, .ro, 0⟩

/-! TROWEL_CORE_n_PC (11_trowel_cores.md) -/
def TROWEL_CORE_PC.PC (n : Nat) : Fld := ⟨0x800108 + 0x10 * n, 0, 32, .ro, 0⟩

/-! TROWEL_CORE_n_CNT (11_trowel_cores.md) -/
def TROWEL_CORE_CNT.COLLAPSES (n : Nat) : Fld := ⟨0x80010c + 0x10 * n, 16, 16, .rc, 0⟩
def TROWEL_CORE_CNT.ACCESS_FAULTS (n : Nat) : Fld := ⟨0x80010c + 0x10 * n, 0, 16, .rc, 0⟩

/-! MOVER_STATUS (12_block_mover.md) -/
def MOVER_STATUS.LAST_CH : Fld := ⟨0x900000, 16, 4, .ro, 0⟩
def MOVER_STATUS.ACTIVE : Fld := ⟨0x900000, 0, 16, .ro, 0⟩

/-! MOVER_HOST_BASE_LO (12_block_mover.md) -/
def MOVER_HOST_BASE_LO.BASE_LO : Fld := ⟨0x900008, 12, 20, .rw, 0⟩

/-! MOVER_HOST_BASE_HI (12_block_mover.md) -/
def MOVER_HOST_BASE_HI.BASE_HI : Fld := ⟨0x90000c, 0, 28, .rw, 0⟩

/-! MOVER_HOST_LIMIT_LO (12_block_mover.md) -/
def MOVER_HOST_LIMIT_LO.BASE_LO : Fld := ⟨0x900010, 12, 20, .rw, 0⟩

/-! MOVER_HOST_LIMIT_HI (12_block_mover.md) -/
def MOVER_HOST_LIMIT_HI.BASE_HI : Fld := ⟨0x900014, 0, 28, .rw, 0⟩

/-! MV_CH_n_CTRL (12_block_mover.md) -/
def MV_CH_CTRL.START (n : Nat) : Fld := ⟨0x901000 + 0x20 * n, 31, 1, .rw1s, 0⟩
def MV_CH_CTRL.STOP (n : Nat) : Fld := ⟨0x901000 + 0x20 * n, 30, 1, .rw1s, 0⟩

/-! MV_CH_n_BASE_LO (12_block_mover.md) -/
def MV_CH_BASE_LO.BASE_LO (n : Nat) : Fld := ⟨0x901004 + 0x20 * n, 6, 26, .rw, 0⟩

/-! MV_CH_n_BASE_HI (12_block_mover.md) -/
def MV_CH_BASE_HI.BASE_HI (n : Nat) : Fld := ⟨0x901008 + 0x20 * n, 0, 32, .rw, 0⟩

/-! MV_CH_n_HEAD (12_block_mover.md) -/
def MV_CH_HEAD.OFFSET (n : Nat) : Fld := ⟨0x90100c + 0x20 * n, 6, 26, .rw, 0⟩

/-! MV_CH_n_DB (12_block_mover.md) -/
def MV_CH_DB.RING (n : Nat) : Fld := ⟨0x901010 + 0x20 * n, 0, 32, .wo, 0⟩

/-! MV_CH_n_STATUS (12_block_mover.md) -/
def MV_CH_STATUS.STATE (n : Nat) : Fld := ⟨0x901014 + 0x20 * n, 29, 3, .ro, 0⟩
def MV_CH_STATUS.ERR (n : Nat) : Fld := ⟨0x901014 + 0x20 * n, 26, 3, .ro, 0⟩
def MV_CH_STATUS.STARTER (n : Nat) : Fld := ⟨0x901014 + 0x20 * n, 24, 2, .ro, 0⟩
def MV_CH_STATUS.DB_PEND (n : Nat) : Fld := ⟨0x901014 + 0x20 * n, 16, 8, .ro, 0⟩
def MV_CH_STATUS.START_REFUSED (n : Nat) : Fld := ⟨0x901014 + 0x20 * n, 2, 1, .w1c, 0⟩
def MV_CH_STATUS.DB_IDLE (n : Nat) : Fld := ⟨0x901014 + 0x20 * n, 1, 1, .w1c, 0⟩
def MV_CH_STATUS.WR_REFUSED (n : Nat) : Fld := ⟨0x901014 + 0x20 * n, 0, 1, .w1c, 0⟩

/-! MV_CH_n_CUR (12_block_mover.md) -/
def MV_CH_CUR.OFFSET (n : Nat) : Fld := ⟨0x901018 + 0x20 * n, 6, 26, .ro, 0⟩

/-! MV_CH_n_CNT (12_block_mover.md) -/
def MV_CH_CNT.DONE (n : Nat) : Fld := ⟨0x90101c + 0x20 * n, 16, 16, .rc, 0⟩
def MV_CH_CNT.EMPTY_DB (n : Nat) : Fld := ⟨0x90101c + 0x20 * n, 0, 16, .rc, 0⟩

/-! RAKE_CTRL (13_faults_spares.md) -/
def RAKE_CTRL.ACT_EN : Fld := ⟨0xa00000, 0, 1, .rw, 1⟩

/-! RAKE_STATUS (13_faults_spares.md) -/
def RAKE_STATUS.REC_LOST : Fld := ⟨0xa00004, 16, 16, .rc, 0⟩
def RAKE_STATUS.BANKS_FREE : Fld := ⟨0xa00004, 8, 4, .ro, 8⟩
def RAKE_STATUS.GRAFTING : Fld := ⟨0xa00004, 0, 1, .ro, 0⟩

/-! RAKE_STICKY (13_faults_spares.md) -/
def RAKE_STICKY.KINDS : Fld := ⟨0xa00008, 1, 31, .w1c, 0⟩

/-! RAKE_ACTIVE (13_faults_spares.md) -/
def RAKE_ACTIVE.KINDS : Fld := ⟨0xa0000c, 1, 31, .ro, 0⟩

/-! RAKE_DEG_ROW (13_faults_spares.md) -/
def RAKE_DEG_ROW.ROWS : Fld := ⟨0xa00010, 0, 32, .ro, 0⟩

/-! RAKE_DEG_DEV (13_faults_spares.md) -/
def RAKE_DEG_DEV.BANK : Fld := ⟨0xa00014, 4, 1, .ro, 0⟩
def RAKE_DEG_DEV.TROWEL : Fld := ⟨0xa00014, 3, 1, .ro, 0⟩
def RAKE_DEG_DEV.CIPHER : Fld := ⟨0xa00014, 2, 1, .ro, 0⟩
def RAKE_DEG_DEV.LTX : Fld := ⟨0xa00014, 1, 1, .ro, 0⟩
def RAKE_DEG_DEV.LRX : Fld := ⟨0xa00014, 0, 1, .ro, 0⟩

/-! RAKE_RETURN (13_faults_spares.md) -/
def RAKE_RETURN.GO : Fld := ⟨0xa00018, 31, 1, .rw1s, 0⟩
def RAKE_RETURN.RESULT : Fld := ⟨0xa00018, 28, 3, .ro, 0⟩
def RAKE_RETURN.LOC : Fld := ⟨0xa00018, 0, 20, .rw, 0⟩

/-! RAKE_INJECT (13_faults_spares.md) -/
def RAKE_INJECT.GO : Fld := ⟨0xa0001c, 31, 1, .rw1s, 0⟩
def RAKE_INJECT.DRY : Fld := ⟨0xa0001c, 30, 1, .rw, 0⟩
def RAKE_INJECT.RESULT : Fld := ⟨0xa0001c, 27, 3, .ro, 0⟩
def RAKE_INJECT.COUNT : Fld := ⟨0xa0001c, 16, 8, .rw, 1⟩
def RAKE_INJECT.KIND : Fld := ⟨0xa0001c, 0, 5, .rw, 0⟩

/-! RAKE_INJECT_TGT (13_faults_spares.md) -/
def RAKE_INJECT_TGT.SCOPE : Fld := ⟨0xa00020, 12, 2, .rw, 0⟩
def RAKE_INJECT_TGT.BED : Fld := ⟨0xa00020, 9, 3, .rw, 0⟩
def RAKE_INJECT_TGT.ROW : Fld := ⟨0xa00020, 7, 2, .rw, 0⟩
def RAKE_INJECT_TGT.ARG : Fld := ⟨0xa00020, 0, 6, .rw, 0⟩

/-! RAKE_POP_i (13_faults_spares.md) -/
def RAKE_POP.V (i : Nat) : Fld := ⟨0xa00030 + 0x4 * i, 0, 32, .ro, 0⟩

/-! RAKE_RING_STAT (13_faults_spares.md) -/
def RAKE_RING_STAT.OVERFLOW : Fld := ⟨0xa00040, 16, 16, .rc, 0⟩
def RAKE_RING_STAT.COUNT : Fld := ⟨0xa00040, 0, 11, .ro, 0⟩

/-! RAKE_FW_POP_i (13_faults_spares.md) -/
def RAKE_FW_POP.V (i : Nat) : Fld := ⟨0xa00050 + 0x4 * i, 0, 32, .ro, 0⟩

/-! RAKE_FW_STAT (13_faults_spares.md) -/
def RAKE_FW_STAT.OVERFLOW : Fld := ⟨0xa00060, 16, 16, .rc, 0⟩
def RAKE_FW_STAT.COUNT : Fld := ⟨0xa00060, 0, 11, .ro, 0⟩

/-! RAKE_KIND_k (13_faults_spares.md) -/
def RAKE_KIND.N (k : Nat) : Fld := ⟨0xa00100 + 0x4 * k, 24, 8, .rw, rakeResetN k⟩
def RAKE_KIND.ACTION (k : Nat) : Fld := ⟨0xa00100 + 0x4 * k, 22, 2, .rw, rakeResetAction k⟩
def RAKE_KIND.FW (k : Nat) : Fld := ⟨0xa00100 + 0x4 * k, 21, 1, .rw, rakeResetFw k⟩
def RAKE_KIND.TENANT (k : Nat) : Fld := ⟨0xa00100 + 0x4 * k, 20, 1, .rw, rakeResetTenant k⟩
def RAKE_KIND.WINDOW (k : Nat) : Fld := ⟨0xa00100 + 0x4 * k, 0, 20, .rw, rakeResetWindow k⟩

/-! MODE_CTRL (14_power_clocks.md) -/
def MODE_CTRL.GO : Fld := ⟨0x100000, 31, 1, .rw1s, 0⟩
def MODE_CTRL.DEV_RESET : Fld := ⟨0x100000, 30, 1, .wo, 0⟩
def MODE_CTRL.TARGET : Fld := ⟨0x100000, 0, 3, .rw, 0⟩

/-! MODE_STATUS (14_power_clocks.md) -/
def MODE_STATUS.MODE : Fld := ⟨0x100004, 29, 3, .ro, 2⟩
def MODE_STATUS.REFUSED : Fld := ⟨0x100004, 28, 1, .w1c, 0⟩
def MODE_STATUS.PENDING : Fld := ⟨0x100004, 27, 1, .ro, 0⟩
def MODE_STATUS.WAKE_CAUSE : Fld := ⟨0x100004, 20, 4, .ro, 0⟩

/-! MODE_WAKE (14_power_clocks.md) -/
def MODE_WAKE.EN : Fld := ⟨0x100008, 31, 1, .rw, 1⟩
def MODE_WAKE.ADDR : Fld := ⟨0x100008, 0, 7, .rw, 92⟩

/-! MODE_SENTRY (14_power_clocks.md) -/
def MODE_SENTRY.PERIOD : Fld := ⟨0x10000c, 16, 16, .rw, 3277⟩
def MODE_SENTRY.SETTLE : Fld := ⟨0x10000c, 8, 8, .rw, 64⟩
def MODE_SENTRY.CONSEC : Fld := ⟨0x10000c, 4, 4, .rw, 2⟩
def MODE_SENTRY.TEMP_EN : Fld := ⟨0x10000c, 3, 1, .rw, 0⟩
def MODE_SENTRY.DARK_EN : Fld := ⟨0x10000c, 2, 1, .rw, 0⟩
def MODE_SENTRY.LIGHT_EN : Fld := ⟨0x10000c, 1, 1, .rw, 1⟩

/-! MODE_SENTRY_THR (14_power_clocks.md) -/
def MODE_SENTRY_THR.LIGHT_DBM : Fld := ⟨0x100010, 24, 8, .rw, 226⟩
def MODE_SENTRY_THR.TEMP : Fld := ⟨0x100010, 0, 16, .rw, 1280⟩

/-! MODE_PAD (14_power_clocks.md) -/
def MODE_PAD.HOLD : Fld := ⟨0x100014, 0, 8, .ro, 255⟩

/-! CLK_STATUS (14_power_clocks.md) -/
def CLK_STATUS.STOCK_SRC : Fld := ⟨0x100020, 30, 2, .ro, 3⟩
def CLK_STATUS.STOCK_LOCK : Fld := ⟨0x100020, 29, 1, .ro, 0⟩
def CLK_STATUS.REFCLK_OK : Fld := ⟨0x100020, 28, 1, .ro, 0⟩
def CLK_STATUS.AON_OK : Fld := ⟨0x100020, 27, 1, .ro, 0⟩
def CLK_STATUS.SRC_CH : Fld := ⟨0x100020, 0, 6, .ro, 0⟩

/-! CLK_JUDGE (14_power_clocks.md) -/
def CLK_JUDGE.REFCLK_DEV : Fld := ⟨0x100024, 16, 16, .ro, 0⟩
def CLK_JUDGE.FAILS : Fld := ⟨0x100024, 8, 8, .rc, 0⟩

/-! CLK_DOM_d (14_power_clocks.md) -/
def CLK_DOM.STATE (d : Nat) : Fld := ⟨0x100100 + 0x4 * d, 30, 2, .ro, 0⟩
def CLK_DOM.DEEP_EN (d : Nat) : Fld := ⟨0x100100 + 0x4 * d, 2, 1, .rw, clkResetDeepEn d⟩
def CLK_DOM.SLEEP_EN (d : Nat) : Fld := ⟨0x100100 + 0x4 * d, 1, 1, .rw, clkResetSleepEn d⟩
def CLK_DOM.RUN_EN (d : Nat) : Fld := ⟨0x100100 + 0x4 * d, 0, 1, (if d = 24 then .rw else .ro), clkResetRunEn d⟩

/-! PWR_AVS (14_power_clocks.md) -/
def PWR_AVS.FROZEN : Fld := ⟨0x100200, 31, 1, .ro, 0⟩
def PWR_AVS.ACK_MV : Fld := ⟨0x100200, 16, 10, .ro, 720⟩
def PWR_AVS.TARGET_MV : Fld := ⟨0x100200, 0, 10, .ro, 720⟩

/-! PWR_SUPPLY (14_power_clocks.md) -/
def PWR_SUPPLY.WARN : Fld := ⟨0x100204, 31, 1, .ro, 0⟩
def PWR_SUPPLY.VSENSE_MV : Fld := ⟨0x100204, 16, 10, .ro, 0⟩
def PWR_SUPPLY.TIMEOUTS : Fld := ⟨0x100204, 8, 8, .rc, 0⟩
def PWR_SUPPLY.WARNS : Fld := ⟨0x100204, 0, 8, .rc, 0⟩

/-! PWR_THERM (14_power_clocks.md) -/
def PWR_THERM.STATE : Fld := ⟨0x100208, 30, 2, .ro, 0⟩
def PWR_THERM.SURGE_S : Fld := ⟨0x100208, 20, 8, .ro, 0⟩
def PWR_THERM.TJ : Fld := ⟨0x100208, 0, 16, .ro, 0⟩

/-! PWR_TRIM (14_power_clocks.md) -/
def PWR_TRIM.TRIM_TJ : Fld := ⟨0x10020c, 24, 8, .rw, 100⟩
def PWR_TRIM.SOA_STEP : Fld := ⟨0x10020c, 20, 4, .rw, 4⟩
def PWR_TRIM.SOA_SAVED : Fld := ⟨0x10020c, 0, 10, .ro, 1023⟩

/-! PWR_METER (14_power_clocks.md) -/
def PWR_METER.P1_W : Fld := ⟨0x100210, 16, 16, .ro, 0⟩
def PWR_METER.IOUT_A : Fld := ⟨0x100210, 0, 16, .ro, 0⟩

/-! PWR_WEAR_SEL (14_power_clocks.md) -/
def PWR_WEAR_SEL.DIR : Fld := ⟨0x100220, 7, 1, .rw, 0⟩
def PWR_WEAR_SEL.SPARE : Fld := ⟨0x100220, 6, 1, .rw, 0⟩
def PWR_WEAR_SEL.INDEX : Fld := ⟨0x100220, 0, 6, .rw, 0⟩

/-! PWR_WEAR (14_power_clocks.md) -/
def PWR_WEAR.WARN : Fld := ⟨0x100224, 31, 1, .ro, 0⟩
def PWR_WEAR.PERMILLE : Fld := ⟨0x100224, 0, 16, .ro, 0⟩

/-! PMB_STATUS (14_power_clocks.md) -/
def PMB_STATUS.NACK : Fld := ⟨0xd04000, 16, 16, .rc, 0⟩
def PMB_STATUS.PEC_ERR : Fld := ⟨0xd04000, 0, 16, .rc, 0⟩

/-! PMB_RAIL_r (14_power_clocks.md) -/
def PMB_RAIL.EN (r : Nat) : Fld := ⟨0xd04010 + 0x4 * r, 31, 1, .rw, 0⟩
def PMB_RAIL.CORE (r : Nat) : Fld := ⟨0xd04010 + 0x4 * r, 30, 1, .rw, 0⟩
def PMB_RAIL.DISABLED (r : Nat) : Fld := ⟨0xd04010 + 0x4 * r, 29, 1, .ro, 0⟩
def PMB_RAIL.ADDR (r : Nat) : Fld := ⟨0xd04010 + 0x4 * r, 16, 7, .rw, 0⟩
def PMB_RAIL.PAGE (r : Nat) : Fld := ⟨0xd04010 + 0x4 * r, 8, 8, .rw, 0⟩

/-! BOOT_STATUS (15_seed_image.md) -/
def BOOT_STATUS.STATE : Fld := ⟨0xd08000, 29, 3, .ro, 0⟩
def BOOT_STATUS.RUN_BANK : Fld := ⟨0xd08000, 28, 1, .ro, 0⟩
def BOOT_STATUS.DIR_COPY : Fld := ⟨0xd08000, 27, 1, .ro, 0⟩
def BOOT_STATUS.DIR_VALID : Fld := ⟨0xd08000, 26, 1, .ro, 0⟩
def BOOT_STATUS.RESULT_B : Fld := ⟨0xd08000, 4, 4, .ro, 0⟩
def BOOT_STATUS.RESULT_A : Fld := ⟨0xd08000, 0, 4, .ro, 0⟩

/-! BOOT_IMAGE (15_seed_image.md) -/
def BOOT_IMAGE.STEP_MIN : Fld := ⟨0xd08004, 24, 8, .ro, 0⟩
def BOOT_IMAGE.VARIANTS : Fld := ⟨0xd08004, 16, 8, .ro, 0⟩
def BOOT_IMAGE.ROLLBACK : Fld := ⟨0xd08004, 8, 5, .ro, 0⟩
def BOOT_IMAGE.JOIN_PERMIT : Fld := ⟨0xd08004, 2, 1, .ro, 0⟩
def BOOT_IMAGE.KEY_INDEX : Fld := ⟨0xd08004, 0, 2, .ro, 0⟩

/-! BOOT_BUILD_LO (15_seed_image.md) -/
def BOOT_BUILD_LO.V : Fld := ⟨0xd08008, 0, 32, .ro, 0⟩

/-! BOOT_BUILD_HI (15_seed_image.md) -/
def BOOT_BUILD_HI.V : Fld := ⟨0xd0800c, 0, 32, .ro, 0⟩

/-! BOOT_FUSE (15_seed_image.md) -/
def BOOT_FUSE.ADVANCE : Fld := ⟨0xd08010, 31, 1, .rw1s, 0⟩
def BOOT_FUSE.REVOKE : Fld := ⟨0xd08010, 30, 1, .rw1s, 0⟩
def BOOT_FUSE.RESULT : Fld := ⟨0xd08010, 28, 2, .ro, 0⟩
def BOOT_FUSE.KEY : Fld := ⟨0xd08010, 26, 2, .rw, 0⟩
def BOOT_FUSE.FLOOR : Fld := ⟨0xd08010, 12, 5, .ro, 0⟩
def BOOT_FUSE.REVOKED : Fld := ⟨0xd08010, 8, 4, .ro, 0⟩
def BOOT_FUSE.LOADED : Fld := ⟨0xd08010, 0, 4, .ro, 0⟩

/-! BOOT_LIVE (15_seed_image.md) -/
def BOOT_LIVE.GO : Fld := ⟨0xd08014, 31, 1, .rw1s, 0⟩
def BOOT_LIVE.RESULT : Fld := ⟨0xd08014, 28, 3, .ro, 0⟩
def BOOT_LIVE.BANK : Fld := ⟨0xd08014, 0, 1, .rw, 0⟩

/-! BOOT_FLASH_CMD (15_seed_image.md) -/
def BOOT_FLASH_CMD.GO : Fld := ⟨0xd08018, 31, 1, .rw1s, 0⟩
def BOOT_FLASH_CMD.RESULT : Fld := ⟨0xd08018, 28, 3, .ro, 0⟩
def BOOT_FLASH_CMD.OP : Fld := ⟨0xd08018, 16, 3, .rw, 0⟩
def BOOT_FLASH_CMD.LEN : Fld := ⟨0xd08018, 0, 9, .rw, 0⟩

/-! BOOT_FLASH_ADDR (15_seed_image.md) -/
def BOOT_FLASH_ADDR.ADDR : Fld := ⟨0xd0801c, 0, 26, .rw, 0⟩

/-! BOOT_LOAD (15_seed_image.md) -/
def BOOT_LOAD.SIEVE_REFUSED : Fld := ⟨0xd08020, 16, 16, .ro, 0⟩
def BOOT_LOAD.TIME_MS : Fld := ⟨0xd08020, 0, 16, .ro, 0⟩

/-! BOOT_FLASH_DATA_i (15_seed_image.md) -/
def BOOT_FLASH_DATA.V (i : Nat) : Fld := ⟨0xd08100 + 0x4 * i, 0, 32, .rw, 0⟩

/-! DEV_FEATURES_i (16_management.md) -/
def DEV_FEATURES.V (f i : Nat) : Fld := ⟨fnBase f + 0x0 + 0x4 * i, 0, 32, .ro, 0⟩

/-! DRV_FEATURES_i (16_management.md) -/
def DRV_FEATURES.V (f i : Nat) : Fld := ⟨fnBase f + 0x10 + 0x4 * i, 0, 32, .rw, 0⟩

/-! NEGOTIATED_i (16_management.md) -/
def NEGOTIATED.V (f i : Nat) : Fld := ⟨fnBase f + 0x20 + 0x4 * i, 0, 32, .ro, 0⟩

/-! FEAT_CTRL (16_management.md) -/
def FEAT_CTRL.COMMIT (f : Nat) : Fld := ⟨fnBase f + 0x30, 31, 1, .rw1s, 0⟩
def FEAT_CTRL.RESULT (f : Nat) : Fld := ⟨fnBase f + 0x30, 28, 3, .ro, 0⟩

/-! NQ_BASE_LO (16_management.md) -/
def NQ_BASE_LO.BASE_LO (f : Nat) : Fld := ⟨fnBase f + 0x40, 12, 20, .rw, 0⟩

/-! NQ_BASE_HI (16_management.md) -/
def NQ_BASE_HI.BASE_HI (f : Nat) : Fld := ⟨fnBase f + 0x44, 0, 32, .rw, 0⟩

/-! NQ_CFG (16_management.md) -/
def NQ_CFG.EN (f : Nat) : Fld := ⟨fnBase f + 0x48, 31, 1, .rw, 0⟩
def NQ_CFG.LOG_SIZE (f : Nat) : Fld := ⟨fnBase f + 0x48, 24, 4, .rw, 4⟩
def NQ_CFG.COAL_N (f : Nat) : Fld := ⟨fnBase f + 0x48, 16, 8, .rw, 1⟩
def NQ_CFG.COAL_US (f : Nat) : Fld := ⟨fnBase f + 0x48, 0, 16, .rw, 0⟩

/-! NQ_HEAD (16_management.md) -/
def NQ_HEAD.HEAD (f : Nat) : Fld := ⟨fnBase f + 0x4c, 0, 12, .rw, 0⟩

/-! NQ_STATUS (16_management.md) -/
def NQ_STATUS.ERR (f : Nat) : Fld := ⟨fnBase f + 0x50, 31, 1, .ro, 0⟩
def NQ_STATUS.PHASE (f : Nat) : Fld := ⟨fnBase f + 0x50, 30, 1, .ro, 1⟩
def NQ_STATUS.TAIL (f : Nat) : Fld := ⟨fnBase f + 0x50, 16, 12, .ro, 0⟩
def NQ_STATUS.LOST (f : Nat) : Fld := ⟨fnBase f + 0x50, 0, 16, .rc, 0⟩

/-! MBX_CTRL (16_management.md) -/
def MBX_CTRL.GO (f : Nat) : Fld := ⟨fnBase f + 0x60, 31, 1, .rw1s, 0⟩
def MBX_CTRL.BUSY (f : Nat) : Fld := ⟨fnBase f + 0x60, 30, 1, .ro, 0⟩
def MBX_CTRL.STATUS (f : Nat) : Fld := ⟨fnBase f + 0x60, 27, 3, .ro, 0⟩
def MBX_CTRL.RESP_WORDS (f : Nat) : Fld := ⟨fnBase f + 0x60, 8, 7, .ro, 0⟩
def MBX_CTRL.REQ_WORDS (f : Nat) : Fld := ⟨fnBase f + 0x60, 0, 7, .rw, 1⟩

/-! FN_STATUS (16_management.md) -/
def FN_STATUS.HOLES (f : Nat) : Fld := ⟨fnBase f + 0x64, 16, 16, .rc, 0⟩
def FN_STATUS.MBX_REFUSED (f : Nat) : Fld := ⟨fnBase f + 0x64, 8, 8, .rc, 0⟩

/-! MBX_REQ_w (16_management.md) -/
def MBX_REQ.V (f w : Nat) : Fld := ⟨fnBase f + 0x100 + 0x4 * w, 0, 32, .rw, 0⟩

/-! MBX_RESP_w (16_management.md) -/
def MBX_RESP.V (f w : Nat) : Fld := ⟨fnBase f + 0x200 + 0x4 * w, 0, 32, .ro, 0⟩

/-! BEDM_CTRL (16_management.md) -/
def BEDM_CTRL.BED_RESET (f : Nat) : Fld := ⟨fnBase f + 0x300, 31, 1, .rw1s, 0⟩
def BEDM_CTRL.BUSY (f : Nat) : Fld := ⟨fnBase f + 0x300, 30, 1, .ro, 0⟩

/-! MGMT_BED_b (16_management.md) -/
def MGMT_BED.RESET (b : Nat) : Fld := ⟨0xd00040 + 0x4 * b, 31, 1, .rw1s, 0⟩
def MGMT_BED.BUSY (b : Nat) : Fld := ⟨0xd00040 + 0x4 * b, 30, 1, .ro, 0⟩
def MGMT_BED.TENANT_RESET_EN (b : Nat) : Fld := ⟨0xd00040 + 0x4 * b, 29, 1, .rw, 0⟩
def MGMT_BED.RESETS (b : Nat) : Fld := ⟨0xd00040 + 0x4 * b, 0, 16, .rc, 0⟩

/-! MGMT_PCIE (16_management.md) -/
def MGMT_PCIE.LINK_UP : Fld := ⟨0xd00000, 31, 1, .ro, 0⟩
def MGMT_PCIE.SPEED : Fld := ⟨0xd00000, 28, 3, .ro, 0⟩
def MGMT_PCIE.WIDTH : Fld := ⟨0xd00000, 24, 4, .ro, 0⟩
def MGMT_PCIE.PERST : Fld := ⟨0xd00000, 0, 16, .rc, 0⟩

/-! MBXF_f_CTRL (16_management.md) -/
def MBXF_CTRL.PEND (f : Nat) : Fld := ⟨0xd0c000 + 0x400 * f, 31, 1, .ro, 0⟩
def MBXF_CTRL.DONE (f : Nat) : Fld := ⟨0xd0c000 + 0x400 * f, 30, 1, .rw1s, 0⟩
def MBXF_CTRL.ENABLE (f : Nat) : Fld := ⟨0xd0c000 + 0x400 * f, 29, 1, .rw, 0⟩
def MBXF_CTRL.REQ_WORDS (f : Nat) : Fld := ⟨0xd0c000 + 0x400 * f, 22, 7, .ro, 0⟩
def MBXF_CTRL.TIMEOUT_MS (f : Nat) : Fld := ⟨0xd0c000 + 0x400 * f, 14, 8, .rw, 100⟩
def MBXF_CTRL.EVT (f : Nat) : Fld := ⟨0xd0c000 + 0x400 * f, 8, 6, .rw, 0⟩
def MBXF_CTRL.RESP_WORDS (f : Nat) : Fld := ⟨0xd0c000 + 0x400 * f, 0, 7, .rw, 0⟩

/-! UART_CTRL (16_management.md) -/
def UART_CTRL.EN : Fld := ⟨0xd01000, 31, 1, .rw, 1⟩
def UART_CTRL.RX_OWNER : Fld := ⟨0xd01000, 30, 1, .rw, 1⟩
def UART_CTRL.DIV : Fld := ⟨0xd01000, 0, 20, .rw, 34722⟩

/-! UART_STATUS (16_management.md) -/
def UART_STATUS.RX_LEVEL : Fld := ⟨0xd01004, 16, 7, .ro, 0⟩
def UART_STATUS.TX_FREE : Fld := ⟨0xd01004, 8, 7, .ro, 64⟩
def UART_STATUS.TX_IDLE : Fld := ⟨0xd01004, 1, 1, .ro, 1⟩
def UART_STATUS.RX_AVAIL : Fld := ⟨0xd01004, 0, 1, .ro, 0⟩

/-! UART_DATA (16_management.md) -/
def UART_DATA.VALID : Fld := ⟨0xd01008, 8, 1, .ro, 0⟩
def UART_DATA.DATA : Fld := ⟨0xd01008, 0, 8, .rw, 0⟩

/-! UART_ERR (16_management.md) -/
def UART_ERR.FRAMING : Fld := ⟨0xd0100c, 16, 16, .rc, 0⟩
def UART_ERR.OVERRUN : Fld := ⟨0xd0100c, 8, 8, .rc, 0⟩
def UART_ERR.TX_DROP : Fld := ⟨0xd0100c, 0, 8, .rc, 0⟩

/-! HL_OSSP (17_host_lanes.md) -/
def HL_OSSP.OUI : Fld := ⟨0xb00000, 0, 24, .ro, 0⟩

/-! HL_TPL_t_DA_LO (17_host_lanes.md) -/
def HL_TPL_DA_LO.DA_LO (t : Nat) : Fld := ⟨0xb00100 + 0x10 * t, 0, 32, .rw, 0⟩

/-! HL_TPL_t_DA_HI (17_host_lanes.md) -/
def HL_TPL_DA_HI.ETYPE (t : Nat) : Fld := ⟨0xb00104 + 0x10 * t, 16, 16, .rw, 0⟩
def HL_TPL_DA_HI.DA_HI (t : Nat) : Fld := ⟨0xb00104 + 0x10 * t, 0, 16, .rw, 0⟩

/-! HL_TPL_t_TAG (17_host_lanes.md) -/
def HL_TPL_TAG.VLAN_EN (t : Nat) : Fld := ⟨0xb00108 + 0x10 * t, 31, 1, .rw, 0⟩
def HL_TPL_TAG.PCP (t : Nat) : Fld := ⟨0xb00108 + 0x10 * t, 13, 3, .rw, 0⟩
def HL_TPL_TAG.VID (t : Nat) : Fld := ⟨0xb00108 + 0x10 * t, 0, 12, .rw, 0⟩

/-! HL_BED_b (17_host_lanes.md) -/
def HL_BED.HS_EN (b : Nat) : Fld := ⟨0xb01000 + 0x10 * b, 31, 1, .rw, 1⟩
def HL_BED.TX_DOZE_EN (b : Nat) : Fld := ⟨0xb01000 + 0x10 * b, 30, 1, .rw, 0⟩
def HL_BED.RX_DOZE_EN (b : Nat) : Fld := ⟨0xb01000 + 0x10 * b, 29, 1, .rw, 0⟩
def HL_BED.PARTNER_RXDOZE (b : Nat) : Fld := ⟨0xb01000 + 0x10 * b, 11, 1, .ro, 0⟩
def HL_BED.PARTNER_HS (b : Nat) : Fld := ⟨0xb01000 + 0x10 * b, 10, 1, .ro, 0⟩
def HL_BED.GRAFTING (b : Nat) : Fld := ⟨0xb01000 + 0x10 * b, 9, 1, .ro, 0⟩
def HL_BED.SPARES_FREE (b : Nat) : Fld := ⟨0xb01000 + 0x10 * b, 0, 2, .ro, 2⟩

/-! HL_BED_b_MSG (17_host_lanes.md) -/
def HL_BED_MSG.ABORTS (b : Nat) : Fld := ⟨0xb01004 + 0x10 * b, 24, 8, .rc, 0⟩
def HL_BED_MSG.OFFERS (b : Nat) : Fld := ⟨0xb01004 + 0x10 * b, 16, 8, .rc, 0⟩
def HL_BED_MSG.FAULT_RPT (b : Nat) : Fld := ⟨0xb01004 + 0x10 * b, 8, 8, .rc, 0⟩
def HL_BED_MSG.BAD (b : Nat) : Fld := ⟨0xb01004 + 0x10 * b, 0, 8, .rc, 0⟩

/-! HL_ROW_g (17_host_lanes.md) -/
def HL_ROW.AUTO_REFORM (g : Nat) : Fld := ⟨0xb02000 + 0x4 * g, 31, 1, .rw, 1⟩
def HL_ROW.PENDING (g : Nat) : Fld := ⟨0xb02000 + 0x4 * g, 30, 1, .ro, 0⟩
def HL_ROW.MODE (g : Nat) : Fld := ⟨0xb02000 + 0x4 * g, 0, 2, .rw, 0⟩

/-! HL_PORT_p (17_host_lanes.md) -/
def HL_PORT.STATE (p : Nat) : Fld := ⟨0xb04000 + 0x10 * p, 30, 2, .ro, 3⟩
def HL_PORT.REFORMED (p : Nat) : Fld := ⟨0xb04000 + 0x10 * p, 29, 1, .ro, 0⟩
def HL_PORT.RF (p : Nat) : Fld := ⟨0xb04000 + 0x10 * p, 28, 1, .ro, 0⟩
def HL_PORT.TX_DOZING (p : Nat) : Fld := ⟨0xb04000 + 0x10 * p, 27, 1, .ro, 0⟩
def HL_PORT.RX_DOZING (p : Nat) : Fld := ⟨0xb04000 + 0x10 * p, 26, 1, .ro, 0⟩
def HL_PORT.WIDTH (p : Nat) : Fld := ⟨0xb04000 + 0x10 * p, 8, 4, .ro, 0⟩
def HL_PORT.FIRST (p : Nat) : Fld := ⟨0xb04000 + 0x10 * p, 0, 3, .ro, 0⟩

/-! HL_PORT_p_ERR (17_host_lanes.md) -/
def HL_PORT_ERR.FCS (p : Nat) : Fld := ⟨0xb04004 + 0x10 * p, 16, 16, .rc, 0⟩
def HL_PORT_ERR.LEN (p : Nat) : Fld := ⟨0xb04004 + 0x10 * p, 8, 8, .rc, 0⟩
def HL_PORT_ERR.CODE (p : Nat) : Fld := ⟨0xb04004 + 0x10 * p, 0, 8, .rc, 0⟩

/-! HL_PORT_p_FEC (17_host_lanes.md) -/
def HL_PORT_FEC.CORR (p : Nat) : Fld := ⟨0xb04008 + 0x10 * p, 16, 16, .rc, 0⟩
def HL_PORT_FEC.UNCORR (p : Nat) : Fld := ⟨0xb04008 + 0x10 * p, 0, 16, .rc, 0⟩

/-! HL_LANE_b_l_CTRL (17_host_lanes.md) -/
def HL_LANE_CTRL.ENABLE (b l : Nat) : Fld := ⟨0xb10000 + 0x1000 * b + 0x20 * l, 31, 1, .rw, 1⟩
def HL_LANE_CTRL.TX_PRECODE (b l : Nat) : Fld := ⟨0xb10000 + 0x1000 * b + 0x20 * l, 30, 1, .rw, 1⟩
def HL_LANE_CTRL.RX_PRECODE (b l : Nat) : Fld := ⟨0xb10000 + 0x1000 * b + 0x20 * l, 29, 1, .rw, 1⟩
def HL_LANE_CTRL.ADAPT_FREEZE (b l : Nat) : Fld := ⟨0xb10000 + 0x1000 * b + 0x20 * l, 28, 1, .rw, 0⟩
def HL_LANE_CTRL.LOOPBACK (b l : Nat) : Fld := ⟨0xb10000 + 0x1000 * b + 0x20 * l, 26, 2, .rw, 0⟩
def HL_LANE_CTRL.PRBS_TX (b l : Nat) : Fld := ⟨0xb10000 + 0x1000 * b + 0x20 * l, 24, 2, .rw, 0⟩
def HL_LANE_CTRL.PRBS_RX (b l : Nat) : Fld := ⟨0xb10000 + 0x1000 * b + 0x20 * l, 22, 2, .rw, 0⟩
def HL_LANE_CTRL.SER_THR (b l : Nat) : Fld := ⟨0xb10000 + 0x1000 * b + 0x20 * l, 0, 20, .rw, 42500⟩

/-! HL_LANE_b_l_TXEQ (17_host_lanes.md) -/
def HL_LANE_TXEQ.C_M2 (b l : Nat) : Fld := ⟨0xb10004 + 0x1000 * b + 0x20 * l, 24, 8, .rw, 4⟩
def HL_LANE_TXEQ.C_M1 (b l : Nat) : Fld := ⟨0xb10004 + 0x1000 * b + 0x20 * l, 16, 8, .rw, 240⟩
def HL_LANE_TXEQ.C_0 (b l : Nat) : Fld := ⟨0xb10004 + 0x1000 * b + 0x20 * l, 8, 8, .rw, 104⟩
def HL_LANE_TXEQ.C_P1 (b l : Nat) : Fld := ⟨0xb10004 + 0x1000 * b + 0x20 * l, 0, 8, .rw, 252⟩

/-! HL_LANE_b_l_STAT (17_host_lanes.md) -/
def HL_LANE_STAT.STATE (b l : Nat) : Fld := ⟨0xb10008 + 0x1000 * b + 0x20 * l, 29, 3, .ro, 0⟩
def HL_LANE_STAT.LB_ERR (b l : Nat) : Fld := ⟨0xb10008 + 0x1000 * b + 0x20 * l, 28, 1, .w1c, 0⟩
def HL_LANE_STAT.TXEQ_ERR (b l : Nat) : Fld := ⟨0xb10008 + 0x1000 * b + 0x20 * l, 27, 1, .w1c, 0⟩
def HL_LANE_STAT.TX_DOZE (b l : Nat) : Fld := ⟨0xb10008 + 0x1000 * b + 0x20 * l, 26, 1, .ro, 0⟩
def HL_LANE_STAT.RX_DOZE (b l : Nat) : Fld := ⟨0xb10008 + 0x1000 * b + 0x20 * l, 25, 1, .ro, 0⟩
def HL_LANE_STAT.GRAFTED (b l : Nat) : Fld := ⟨0xb10008 + 0x1000 * b + 0x20 * l, 24, 1, .ro, 0⟩
def HL_LANE_STAT.SNR (b l : Nat) : Fld := ⟨0xb10008 + 0x1000 * b + 0x20 * l, 16, 8, .ro, 0⟩
def HL_LANE_STAT.SLOT (b l : Nat) : Fld := ⟨0xb10008 + 0x1000 * b + 0x20 * l, 0, 6, .ro, (if l < 32 then l else 0x3F)⟩

/-! HL_LANE_b_l_ERR (17_host_lanes.md) -/
def HL_LANE_ERR.PRBS_ERR (b l : Nat) : Fld := ⟨0xb1000c + 0x1000 * b + 0x20 * l, 16, 16, .rc, 0⟩
def HL_LANE_ERR.SER_MS (b l : Nat) : Fld := ⟨0xb1000c + 0x1000 * b + 0x20 * l, 0, 16, .ro, 0⟩

/-! SENS_CTRL (18_package_electrical.md) -/
def SENS_CTRL.AUTO : Fld := ⟨0xe00000, 31, 1, .rw, 1⟩

/-! SENS_STATUS (18_package_electrical.md) -/
def SENS_STATUS.PG_DROP : Fld := ⟨0xe00004, 24, 8, .rc, 0⟩
def SENS_STATUS.PG_RETRY : Fld := ⟨0xe00004, 16, 8, .rc, 0⟩
def SENS_STATUS.HOT : Fld := ⟨0xe00004, 0, 5, .ro, 0⟩

/-! SENS_TEMP_i (18_package_electrical.md) -/
def SENS_TEMP.VALID (i : Nat) : Fld := ⟨0xe00100 + 0x4 * i, 31, 1, .ro, 0⟩
def SENS_TEMP.TEMP (i : Nat) : Fld := ⟨0xe00100 + 0x4 * i, 0, 16, .ro, 0⟩

/-! SENS_VOLT_m (18_package_electrical.md) -/
def SENS_VOLT.VALID (m : Nat) : Fld := ⟨0xe00200 + 0x4 * m, 31, 1, .ro, 0⟩
def SENS_VOLT.MV (m : Nat) : Fld := ⟨0xe00200 + 0x4 * m, 0, 13, .ro, 0⟩

/-! DEV_IDENT (16_management.md) -/
def DEV_IDENT.DEVICE : Fld := ⟨0x0, 16, 16, .ro, 30496⟩
def DEV_IDENT.VENDOR : Fld := ⟨0x0, 10, 6, .ro, 0⟩
def DEV_IDENT.VARIANT : Fld := ⟨0x0, 8, 2, .ro, 0⟩
def DEV_IDENT.STEPPING : Fld := ⟨0x0, 0, 8, .ro, 177⟩

/-! MBXF_f_REQ_w (16_management.md) -/
def MBXF_REQ.V (f w : Nat) : Fld := ⟨0xd0c100 + 0x400 * f + 0x4 * w, 0, 32, .ro, 0⟩

/-! MBXF_f_RESP_w (16_management.md) -/
def MBXF_RESP.V (f w : Nat) : Fld := ⟨0xd0c200 + 0x400 * f + 0x4 * w, 0, 32, .rw, 0⟩

/-- Registers 0 to 39 of the spec's offset tables. -/
def regRows0 : List RegRow := [
  ⟨"LINE_CTRL", 0x300000, [], fun _ _ _ => [LINE_CTRL.RAMP_COMMIT, LINE_CTRL.AUTO_EN, LINE_CTRL.HOLDOFF, LINE_CTRL.FORCE]⟩,
  ⟨"LINE_STATUS", 0x300004, [], fun _ _ _ => [LINE_STATUS.SWITCH_COUNT, LINE_STATUS.RAMP_ERR, LINE_STATUS.SWITCHING, LINE_STATUS.LOS_B, LINE_STATUS.LOS_A, LINE_STATUS.CONN]⟩,
  ⟨"LINE_CLK_SRC", 0x300008, [], fun _ _ _ => [LINE_CLK_SRC.AUTO, LINE_CLK_SRC.FALLBACK, LINE_CLK_SRC.CURRENT, LINE_CLK_SRC.CHANNEL]⟩,
  ⟨"LINE_DIBBER", 0x30000c, [], fun _ _ _ => [LINE_DIBBER.THRESH]⟩,
  ⟨"LINE_SOA_LIMIT", 0x300010, [], fun _ _ _ => [LINE_SOA_LIMIT.FLOOR, LINE_SOA_LIMIT.GAIN_CAP]⟩,
  ⟨"LINE_SPARES", 0x300014, [], fun _ _ _ => [LINE_SPARES.TX_FREE, LINE_SPARES.RX_FREE]⟩,
  ⟨"LINE_RAMP_k", 0x300100, [⟨.plain, 16, 0x4⟩], fun k _ _ => [LINE_RAMP.LEVEL k]⟩,
  ⟨"LRX_CTRL_k", 0x301000, [⟨.chan, 64, 0x20⟩], fun k _ _ => [LRX_CTRL.DOZE_EN k, LRX_CTRL.ENABLE k]⟩,
  ⟨"LRX_STATUS_k", 0x301004, [⟨.chan, 64, 0x20⟩], fun k _ _ => [LRX_STATUS.FREQ_ERR k, LRX_STATUS.LASER k, LRX_STATUS.GRAFTED k, LRX_STATUS.CLOCK_SRC k, LRX_STATUS.DOZING k, LRX_STATUS.FEC_ALARM k, LRX_STATUS.PREAMBLE_OK k]⟩,
  ⟨"LRX_CORR_k", 0x301008, [⟨.chan, 64, 0x20⟩], fun k _ _ => [LRX_CORR.COUNT k]⟩,
  ⟨"LRX_UNCORR_k", 0x30100c, [⟨.chan, 64, 0x20⟩], fun k _ _ => [LRX_UNCORR.COUNT k]⟩,
  ⟨"LRX_DOZE_k", 0x301010, [⟨.chan, 64, 0x20⟩], fun k _ _ => [LRX_DOZE.COUNT k]⟩,
  ⟨"LRX_MISS_k", 0x301014, [⟨.chan, 64, 0x20⟩], fun k _ _ => [LRX_MISS.MISS_DOZE k, LRX_MISS.MISS_AWAKE k]⟩,
  ⟨"LTX_CTRL_k", 0x302000, [⟨.chan, 64, 0x10⟩], fun k _ _ => [LTX_CTRL.ENABLE k]⟩,
  ⟨"LTX_STATUS_k", 0x302004, [⟨.chan, 64, 0x10⟩], fun k _ _ => [LTX_STATUS.FREQ_ERR k, LTX_STATUS.LASER k, LTX_STATUS.GRAFTED k, LTX_STATUS.SOA_ON k]⟩,
  ⟨"FRM_TREE", 0x308000, [], fun _ _ _ => [FRM_TREE.TREE_LOF, FRM_TREE.PROFILE, FRM_TREE.TREE_ID]⟩,
  ⟨"FRM_EXT_REF_LO", 0x308004, [], fun _ _ _ => [FRM_EXT_REF_LO.REF_LO]⟩,
  ⟨"FRM_EXT_REF_HI", 0x308008, [], fun _ _ _ => [FRM_EXT_REF_HI.LOAD, FRM_EXT_REF_HI.REF_VALID, FRM_EXT_REF_HI.REF_HI]⟩,
  ⟨"FRM_STATUS_k", 0x309000, [⟨.chan, 64, 0x20⟩], fun k _ _ => [FRM_STATUS.EXT_VALID k, FRM_STATUS.SF_INDEX k, FRM_STATUS.EXT_WRAP k, FRM_STATUS.FC_REGRESS k, FRM_STATUS.FC_JUMP k, FRM_STATUS.LOF_EVENT k, FRM_STATUS.STATE k]⟩,
  ⟨"FRM_EXT_LO_k", 0x309004, [⟨.chan, 64, 0x20⟩], fun k _ _ => [FRM_EXT_LO.EXT_LO k]⟩,
  ⟨"FRM_EXT_HI_k", 0x309008, [⟨.chan, 64, 0x20⟩], fun k _ _ => [FRM_EXT_HI.EXT_HI k]⟩,
  ⟨"FRM_HDR_k", 0x30900c, [⟨.chan, 64, 0x20⟩], fun k _ _ => [FRM_HDR.MISMATCH k, FRM_HDR.MISSED k]⟩,
  ⟨"FRM_MAP_k", 0x309010, [⟨.chan, 64, 0x20⟩], fun k _ _ => [FRM_MAP.ERRORED k]⟩,
  ⟨"FRM_POD_k", 0x309014, [⟨.chan, 64, 0x20⟩], fun k _ _ => [FRM_POD.DELIN k, FRM_POD.ERRORED k]⟩,
  ⟨"FRM_PODX_k", 0x309018, [⟨.chan, 64, 0x20⟩], fun k _ _ => [FRM_PODX.TYPE_UNK k, FRM_PODX.INDEX_DUP k]⟩,
  ⟨"TRELLIS_CTRL", 0xc00000, [], fun _ _ _ => [TRELLIS_CTRL.READY, TRELLIS_CTRL.ENABLE]⟩,
  ⟨"TRELLIS_STATUS", 0xc00004, [], fun _ _ _ => [TRELLIS_STATUS.PAGE_MISS, TRELLIS_STATUS.WR_REFUSED, TRELLIS_STATUS.ACTIVE]⟩,
  ⟨"TRELLIS_DROP", 0xc00008, [], fun _ _ _ => [TRELLIS_DROP.NOPORT, TRELLIS_DROP.DOWN]⟩,
  ⟨"TRELLIS_AIS_t", 0xc00400, [⟨.plain, 256, 0x4⟩], fun t _ _ => [TRELLIS_AIS.COUNT t]⟩,
  ⟨"TRELLIS_CONN_p_o", 0xc10000, [⟨.plain, 2, 0x10000⟩, ⟨.plain, 4096, 0x4⟩], fun p o _ => [TRELLIS_CONN.VALID p o, TRELLIS_CONN.CHANNEL p o, TRELLIS_CONN.GROUP p o, TRELLIS_CONN.SLOT p o]⟩,
  ⟨"TRELLIS_TRIB_p_t", 0xc18000, [⟨.plain, 2, 0x10000⟩, ⟨.plain, 256, 0x4⟩], fun p t _ => [TRELLIS_TRIB.ENABLE p t, TRELLIS_TRIB.GROW p t, TRELLIS_TRIB.PORT p t, TRELLIS_TRIB.TEMPLATE p t, TRELLIS_TRIB.BASE p t, TRELLIS_TRIB.COUNT_M1 p t]⟩,
  ⟨"BURST_CTRL", 0x310000, [], fun _ _ _ => [BURST_CTRL.POD_MAX, BURST_CTRL.ENABLE]⟩,
  ⟨"BURST_STATUS", 0x310004, [], fun _ _ _ => [BURST_STATUS.ALLOC_USED, BURST_STATUS.EQD_PENDING, BURST_STATUS.ALLOC_FULL, BURST_STATUS.UFC_LOCK]⟩,
  ⟨"BURST_EQD", 0x310008, [], fun _ _ _ => [BURST_EQD.EQD]⟩,
  ⟨"BURST_ALLOC_ADD_LO", 0x31000c, [], fun _ _ _ => [BURST_ALLOC_ADD_LO.OWNER, BURST_ALLOC_ADD_LO.ID]⟩,
  ⟨"BURST_ALLOC_ADD_HI", 0x310010, [], fun _ _ _ => [BURST_ALLOC_ADD_HI.GO, BURST_ALLOC_ADD_HI.RESULT, BURST_ALLOC_ADD_HI.SLOT, BURST_ALLOC_ADD_HI.KEY]⟩,
  ⟨"BURST_DROP", 0x310014, [], fun _ _ _ => [BURST_DROP.NO_ALLOC, BURST_DROP.OWNER]⟩,
  ⟨"BURST_QSEL", 0x310018, [], fun _ _ _ => [BURST_QSEL.SLOT, BURST_QSEL.QUEUE]⟩,
  ⟨"BURST_QDEPTH", 0x31001c, [], fun _ _ _ => [BURST_QDEPTH.BYTES]⟩,
  ⟨"BURST_DROPX", 0x310020, [], fun _ _ _ => [BURST_DROPX.REMOVED]⟩]

/-- Registers 40 to 79 of the spec's offset tables. -/
def regRows1 : List RegRow := [
  ⟨"ALLOC_n_LO", 0x311000, [⟨.plain, 256, 0x8⟩], fun n _ _ => [ALLOC_LO.VALID n, ALLOC_LO.REMOVE n, ALLOC_LO.OWNER n, ALLOC_LO.ID n]⟩,
  ⟨"ALLOC_n_HI", 0x311004, [⟨.plain, 256, 0x8⟩], fun n _ _ => [ALLOC_HI.KEY n]⟩,
  ⟨"BURST_SENT_k", 0x312000, [⟨.chan, 64, 0x10⟩], fun k _ _ => [BURST_SENT.COUNT k]⟩,
  ⟨"BURST_SKIP_k", 0x312004, [⟨.chan, 64, 0x10⟩], fun k _ _ => [BURST_SKIP.LATE k, BURST_SKIP.BAD k]⟩,
  ⟨"BURST_SKIPX_k", 0x312008, [⟨.chan, 64, 0x10⟩], fun k _ _ => [BURST_SKIPX.CONFLICT k, BURST_SKIPX.NOTX k]⟩,
  ⟨"BURST_SKEW_k", 0x31200c, [⟨.chan, 64, 0x10⟩], fun k _ _ => [BURST_SKEW.VALID k, BURST_SKEW.SKEW k]⟩,
  ⟨"JOIN_CTRL", 0x400000, [], fun _ _ _ => [JOIN_CTRL.MAX_PROFILE, JOIN_CTRL.RELEASE, JOIN_CTRL.ENABLE]⟩,
  ⟨"JOIN_STATUS", 0x400004, [], fun _ _ _ => [JOIN_STATUS.RTD_VALID, JOIN_STATUS.LAST_EXIT, JOIN_STATUS.CW, JOIN_STATUS.HOLD, JOIN_STATUS.PROFILE_LOW, JOIN_STATUS.WARM, JOIN_STATUS.PROFILE, JOIN_STATUS.STATE]⟩,
  ⟨"JOIN_SERIAL_LO", 0x400008, [], fun _ _ _ => [JOIN_SERIAL_LO.UNIT_LO]⟩,
  ⟨"JOIN_SERIAL_HI", 0x40000c, [], fun _ _ _ => [JOIN_SERIAL_HI.VENDOR, JOIN_SERIAL_HI.UNIT_HI]⟩,
  ⟨"JOIN_TID", 0x400010, [], fun _ _ _ => [JOIN_TID.VALID, JOIN_TID.DEV_ALLOC, JOIN_TID.TID]⟩,
  ⟨"JOIN_TREE", 0x400014, [], fun _ _ _ => [JOIN_TREE.VALID, JOIN_TREE.TREE_ID]⟩,
  ⟨"JOIN_DISC", 0x400018, [], fun _ _ _ => [JOIN_DISC.SENT, JOIN_DISC.COLLIDED]⟩,
  ⟨"JOIN_TEND", 0x40001c, [], fun _ _ _ => [JOIN_TEND.OVERRUN, JOIN_TEND.REFUSED, JOIN_TEND.BAD_CRC, JOIN_TEND.DUP]⟩,
  ⟨"JOIN_TEND_SLOTS", 0x400020, [], fun _ _ _ => [JOIN_TEND_SLOTS.VALID, JOIN_TEND_SLOTS.UP, JOIN_TEND_SLOTS.DOWN]⟩,
  ⟨"JOIN_RTD_n", 0x400030, [⟨.plain, 4, 0x4⟩], fun n _ _ => [JOIN_RTD.RTD n]⟩,
  ⟨"TIME_STATUS", 0x200000, [], fun _ _ _ => [TIME_STATUS.REFUSED_RUN, TIME_STATUS.LOST_RUN, TIME_STATUS.STEP_REFUSED, TIME_STATUS.STEPPED, TIME_STATUS.HOLD_FREE, TIME_STATUS.HOLDOVER, TIME_STATUS.LOCKED, TIME_STATUS.VALID]⟩,
  ⟨"TIME_NOW_NS", 0x200004, [], fun _ _ _ => [TIME_NOW_NS.NS]⟩,
  ⟨"TIME_NOW_MID", 0x200008, [], fun _ _ _ => [TIME_NOW_MID.SEC_LO, TIME_NOW_MID.FRAC]⟩,
  ⟨"TIME_NOW_SEC", 0x20000c, [], fun _ _ _ => [TIME_NOW_SEC.SEC_HI]⟩,
  ⟨"TIME_NOW_TS", 0x200010, [], fun _ _ _ => [TIME_NOW_TS.TS]⟩,
  ⟨"TIME_CNT_LO", 0x200014, [], fun _ _ _ => [TIME_CNT_LO.CNT_LO]⟩,
  ⟨"TIME_CNT_HI", 0x200018, [], fun _ _ _ => [TIME_CNT_HI.CNT_HI]⟩,
  ⟨"TIME_RATE_LO", 0x20001c, [], fun _ _ _ => [TIME_RATE_LO.RATE_LO]⟩,
  ⟨"TIME_RATE_HI", 0x200020, [], fun _ _ _ => [TIME_RATE_HI.RATE_HI]⟩,
  ⟨"TIME_STEP_LO", 0x200024, [], fun _ _ _ => [TIME_STEP_LO.STEP_LO]⟩,
  ⟨"TIME_STEP_HI", 0x200028, [], fun _ _ _ => [TIME_STEP_HI.STEP_HI]⟩,
  ⟨"TIME_SET_NS", 0x20002c, [], fun _ _ _ => [TIME_SET_NS.NS]⟩,
  ⟨"TIME_SET_MID", 0x200030, [], fun _ _ _ => [TIME_SET_MID.SEC_LO, TIME_SET_MID.FRAC]⟩,
  ⟨"TIME_SET_SEC", 0x200034, [], fun _ _ _ => [TIME_SET_SEC.SEC]⟩,
  ⟨"TIME_ADJ", 0x200038, [], fun _ _ _ => [TIME_ADJ.GO_STEP, TIME_ADJ.GO_SET, TIME_ADJ.FORCE, TIME_ADJ.RESULT]⟩,
  ⟨"TIME_JUMP", 0x20003c, [], fun _ _ _ => [TIME_JUMP.THRESH]⟩,
  ⟨"TIME_HOLD", 0x200040, [], fun _ _ _ => [TIME_HOLD.ELAPSED, TIME_HOLD.LIMIT]⟩,
  ⟨"TIME_OFS_NS", 0x200044, [], fun _ _ _ => [TIME_OFS_NS.NS]⟩,
  ⟨"TIME_OFS_MID", 0x200048, [], fun _ _ _ => [TIME_OFS_MID.SEC_LO, TIME_OFS_MID.FRAC]⟩,
  ⟨"TIME_OFS_SEC", 0x20004c, [], fun _ _ _ => [TIME_OFS_SEC.SEC]⟩,
  ⟨"TIME_BASE_LO", 0x200050, [], fun _ _ _ => [TIME_BASE_LO.BASE_LO]⟩,
  ⟨"TIME_BASE_HI", 0x200054, [], fun _ _ _ => [TIME_BASE_HI.BASE_HI]⟩,
  ⟨"TIME_FS_SEL", 0x200060, [], fun _ _ _ => [TIME_FS_SEL.FRAC, TIME_FS_SEL.VALID, TIME_FS_SEL.IDX]⟩,
  ⟨"TIME_FS_FC", 0x200064, [], fun _ _ _ => [TIME_FS_FC.FC]⟩]

/-- Registers 80 to 119 of the spec's offset tables. -/
def regRows2 : List RegRow := [
  ⟨"TIME_FS_TS", 0x200068, [], fun _ _ _ => [TIME_FS_TS.TS]⟩,
  ⟨"TIME_CAL_IDX", 0x200070, [], fun _ _ _ => [TIME_CAL_IDX.ENTRY]⟩,
  ⟨"TIME_CAL_VAL", 0x200074, [], fun _ _ _ => [TIME_CAL_VAL.DELAY]⟩,
  ⟨"TIME_DC_STATUS", 0x200080, [], fun _ _ _ => [TIME_DC_STATUS.DN_FRAC, TIME_DC_STATUS.VALID, TIME_DC_STATUS.SYM, TIME_DC_STATUS.ERR, TIME_DC_STATUS.CHANNEL]⟩,
  ⟨"TIME_DC_ASYM", 0x200084, [], fun _ _ _ => [TIME_DC_ASYM.ASYM]⟩,
  ⟨"TIME_DC_DN_NS", 0x200088, [], fun _ _ _ => [TIME_DC_DN_NS.DN_NS]⟩,
  ⟨"TIME_PPS_A", 0x2000a0, [], fun _ _ _ => [TIME_PPS_A.ENABLE, TIME_PPS_A.ADV, TIME_PPS_A.WIDTH]⟩,
  ⟨"TIME_PPS_B", 0x2000a4, [], fun _ _ _ => [TIME_PPS_B.ENABLE, TIME_PPS_B.ADV, TIME_PPS_B.WIDTH]⟩,
  ⟨"TIME_CAP_x_NS", 0x200100, [⟨.plain, 2, 0x10⟩], fun x _ _ => [TIME_CAP_NS.NS x]⟩,
  ⟨"TIME_CAP_x_MID", 0x200104, [⟨.plain, 2, 0x10⟩], fun x _ _ => [TIME_CAP_MID.SEC_LO x, TIME_CAP_MID.FRAC x]⟩,
  ⟨"TIME_CAP_x_SEC", 0x200108, [⟨.plain, 2, 0x10⟩], fun x _ _ => [TIME_CAP_SEC.SEC x]⟩,
  ⟨"TIME_CAP_x_CTRL", 0x20010c, [⟨.plain, 2, 0x10⟩], fun x _ _ => [TIME_CAP_CTRL.OVERRUN x, TIME_CAP_CTRL.NEW x, TIME_CAP_CTRL.ENABLE x]⟩,
  ⟨"TIME_TRIG_n_NS", 0x201000, [⟨.plain, 64, 0x20⟩], fun n _ _ => [TIME_TRIG_NS.NS n]⟩,
  ⟨"TIME_TRIG_n_MID", 0x201004, [⟨.plain, 64, 0x20⟩], fun n _ _ => [TIME_TRIG_MID.SEC_LO n, TIME_TRIG_MID.FRAC n]⟩,
  ⟨"TIME_TRIG_n_SEC", 0x201008, [⟨.plain, 64, 0x20⟩], fun n _ _ => [TIME_TRIG_SEC.SEC n]⟩,
  ⟨"TIME_TRIG_n_PERIOD", 0x20100c, [⟨.plain, 64, 0x20⟩], fun n _ _ => [TIME_TRIG_PERIOD.PERIOD n]⟩,
  ⟨"TIME_TRIG_n_CTRL", 0x201010, [⟨.plain, 64, 0x20⟩], fun n _ _ => [TIME_TRIG_CTRL.ARM n, TIME_TRIG_CTRL.FIRED n, TIME_TRIG_CTRL.SKIPPED n, TIME_TRIG_CTRL.ACTION n, TIME_TRIG_CTRL.ARG n]⟩,
  ⟨"SPR_CTRL", 0x240000, [], fun _ _ _ => [SPR_CTRL.ENABLE, SPR_CTRL.SDO, SPR_CTRL.DOMAIN, SPR_CTRL.TIME_SOURCE, SPR_CTRL.MAX_DUR]⟩,
  ⟨"SPR_STATUS", 0x240004, [], fun _ _ _ => [SPR_STATUS.PORT_REFUSED, SPR_STATUS.COND, SPR_STATUS.ENTRIES]⟩,
  ⟨"SPR_CLKID_LO", 0x240008, [], fun _ _ _ => [SPR_CLKID_LO.V]⟩,
  ⟨"SPR_CLKID_HI", 0x24000c, [], fun _ _ _ => [SPR_CLKID_HI.V]⟩,
  ⟨"SPR_GM_LO", 0x240010, [], fun _ _ _ => [SPR_GM_LO.V]⟩,
  ⟨"SPR_GM_HI", 0x240014, [], fun _ _ _ => [SPR_GM_HI.V]⟩,
  ⟨"SPR_GM_CFG", 0x240018, [], fun _ _ _ => [SPR_GM_CFG.PRIO1, SPR_GM_CFG.PRIO2, SPR_GM_CFG.STEPS]⟩,
  ⟨"SPR_UTC", 0x24001c, [], fun _ _ _ => [SPR_UTC.VALID, SPR_UTC.LEAP61, SPR_UTC.LEAP59, SPR_UTC.OFFSET]⟩,
  ⟨"SPR_QUAL_c", 0x240020, [⟨.plain, 4, 0x4⟩], fun c _ _ => [SPR_QUAL.CLASS c, SPR_QUAL.ACCURACY c, SPR_QUAL.VARIANCE c]⟩,
  ⟨"SPR_CMD", 0x240030, [], fun _ _ _ => [SPR_CMD.GO, SPR_CMD.OP, SPR_CMD.RESULT, SPR_CMD.INDEX]⟩,
  ⟨"SPR_DATA_w", 0x240040, [⟨.plain, 16, 0x4⟩], fun w _ _ => [SPR_DATA.V w]⟩,
  ⟨"SPR_DROP", 0x240080, [], fun _ _ _ => [SPR_DROP.NO_CLIENT, SPR_DROP.RATE]⟩,
  ⟨"SPR_DROPX", 0x240084, [], fun _ _ _ => [SPR_DROPX.SIG_OVF, SPR_DROPX.FOREIGN]⟩,
  ⟨"SPR_ROW_LOAD_g", 0x241000, [⟨.row, 32, 0x4⟩], fun g _ _ => [SPR_ROW_LOAD.LOAD g]⟩,
  ⟨"SPR_PORT_p", 0x242000, [⟨.port, 256, 0x20⟩], fun p _ _ => [SPR_PORT.ENABLE p, SPR_PORT.MCAST_EN p, SPR_PORT.TWO_STEP p, SPR_PORT.TRANSPORT p, SPR_PORT.DRESP_UNICAST p, SPR_PORT.LOG_ANN p, SPR_PORT.LOG_SYNC p, SPR_PORT.TC p]⟩,
  ⟨"SPR_PORT_ADJ_p", 0x242004, [⟨.port, 256, 0x20⟩], fun p _ _ => [SPR_PORT_ADJ.EGRESS_ADJ p, SPR_PORT_ADJ.INGRESS_ADJ p]⟩,
  ⟨"SPR_PORT_MAC_LO_p", 0x242008, [⟨.port, 256, 0x20⟩], fun p _ _ => [SPR_PORT_MAC_LO.MAC_LO p]⟩,
  ⟨"SPR_PORT_MAC_HI_p", 0x24200c, [⟨.port, 256, 0x20⟩], fun p _ _ => [SPR_PORT_MAC_HI.MAC_HI p]⟩,
  ⟨"SPR_PORT_IP4_p", 0x242010, [⟨.port, 256, 0x20⟩], fun p _ _ => [SPR_PORT_IP4.IP4 p]⟩,
  ⟨"SPR_PORT_IP6_p_w", 0x248000, [⟨.port, 256, 0x10⟩, ⟨.plain, 4, 0x4⟩], fun p w _ => [SPR_PORT_IP6.V p w]⟩,
  ⟨"SIEVE_VER", 0x500000, [], fun _ _ _ => [SIEVE_VER.RETIRED, SIEVE_VER.REFUSED, SIEVE_VER.PENDING, SIEVE_VER.CUR]⟩,
  ⟨"SIEVE_COMMIT", 0x500004, [], fun _ _ _ => [SIEVE_COMMIT.GO, SIEVE_COMMIT.ABORT, SIEVE_COMMIT.RESULT]⟩,
  ⟨"SIEVE_LOCK", 0x500008, [], fun _ _ _ => [SIEVE_LOCK.DENIED, SIEVE_LOCK.OWNER, SIEVE_LOCK.FORCE_RELEASE, SIEVE_LOCK.RELEASE, SIEVE_LOCK.ACQUIRE]⟩]

/-- Registers 120 to 159 of the spec's offset tables. -/
def regRows3 : List RegRow := [
  ⟨"SIEVE_STATUS", 0x50000c, [], fun _ _ _ => [SIEVE_STATUS.BATCH_REFUSED, SIEVE_STATUS.REJ_NEXT, SIEVE_STATUS.USED]⟩,
  ⟨"SIEVE_OP_STATUS", 0x500010, [], fun _ _ _ => [SIEVE_OP_STATUS.OVERFLOW, SIEVE_OP_STATUS.FREE, SIEVE_OP_STATUS.STAGED]⟩,
  ⟨"SIEVE_OP_RES", 0x500014, [], fun _ _ _ => [SIEVE_OP_RES.RESULT, SIEVE_OP_RES.INDEX]⟩,
  ⟨"SIEVE_NOBED", 0x500018, [], fun _ _ _ => [SIEVE_NOBED.COUNT]⟩,
  ⟨"SIEVE_OP_w", 0x500020, [⟨.plain, 8, 0x4⟩], fun w _ _ => [SIEVE_OP.V w]⟩,
  ⟨"SIEVE_REJ_i", 0x500040, [⟨.plain, 16, 0x4⟩], fun i _ _ => [SIEVE_REJ.RESULT i, SIEVE_REJ.BED i, SIEVE_REJ.DIR i, SIEVE_REJ.KT i, SIEVE_REJ.TAG i]⟩,
  ⟨"SIEVE_BED_b_DN_CFG", 0x500100, [⟨.bed, 8, 0x20⟩], fun b _ _ => [SIEVE_BED_DN_CFG.KT b, SIEVE_BED_DN_CFG.NOMATCH b, SIEVE_BED_DN_CFG.PARSEFAIL b, SIEVE_BED_DN_CFG.PVID b]⟩,
  ⟨"SIEVE_BED_b_DN_DEF", 0x500104, [⟨.bed, 8, 0x20⟩], fun b _ _ => [SIEVE_BED_DN_DEF.GPORT b, SIEVE_BED_DN_DEF.QUEUE b]⟩,
  ⟨"SIEVE_BED_b_UP_CFG", 0x500108, [⟨.bed, 8, 0x20⟩], fun b _ _ => [SIEVE_BED_UP_CFG.KT b, SIEVE_BED_UP_CFG.NOMATCH b, SIEVE_BED_UP_CFG.PARSEFAIL b, SIEVE_BED_UP_CFG.PVID b]⟩,
  ⟨"SIEVE_BED_b_UP_DEF", 0x50010c, [⟨.bed, 8, 0x20⟩], fun b _ _ => [SIEVE_BED_UP_DEF.ALLOC b, SIEVE_BED_UP_DEF.CLASS b]⟩,
  ⟨"SIEVE_CNT_b_DN", 0x500110, [⟨.bed, 8, 0x20⟩], fun b _ _ => [SIEVE_CNT_DN.NOMATCH b, SIEVE_CNT_DN.PARSEFAIL b]⟩,
  ⟨"SIEVE_CNT_b_UP", 0x500114, [⟨.bed, 8, 0x20⟩], fun b _ _ => [SIEVE_CNT_UP.NOMATCH b, SIEVE_CNT_UP.PARSEFAIL b]⟩,
  ⟨"SIEVE_CNTX_b", 0x500118, [⟨.bed, 8, 0x20⟩], fun b _ _ => [SIEVE_CNTX.OVERSIZE_DN b, SIEVE_CNTX.OVERSIZE_UP b]⟩,
  ⟨"SIEVE_FOX_b_d_w_A", 0x500400, [⟨.bed, 8, 0x40⟩, ⟨.plain, 2, 0x20⟩, ⟨.plain, 3, 0x8⟩], fun b d w => [SIEVE_FOX_A.OFFSET b d w, SIEVE_FOX_A.MASK_HI b d w]⟩,
  ⟨"SIEVE_FOX_b_d_w_B", 0x500404, [⟨.bed, 8, 0x40⟩, ⟨.plain, 2, 0x20⟩, ⟨.plain, 3, 0x8⟩], fun b d w => [SIEVE_FOX_B.MASK_LO b d w]⟩,
  ⟨"SIEVE_OVR_g", 0x500800, [⟨.row, 32, 0x4⟩], fun g _ _ => [SIEVE_OVR.COUNT g]⟩,
  ⟨"SIEVE_SLOTBED_i", 0x501000, [⟨.plain, 2048, 0x4⟩], fun i _ _ => [SIEVE_SLOTBED.BEDS i]⟩,
  ⟨"SCHED_CTRL", 0x600000, [], fun _ _ _ => [SCHED_CTRL.HOLD_MASK, SCHED_CTRL.TRIM_FACTOR, SCHED_CTRL.LEDGER_EN]⟩,
  ⟨"SCHED_STATUS", 0x600004, [], fun _ _ _ => [SCHED_STATUS.TRIM, SCHED_STATUS.A_SUM]⟩,
  ⟨"SCHED_UP_USE", 0x600008, [], fun _ _ _ => [SCHED_UP_USE.USED]⟩,
  ⟨"SCHED_DN_USE", 0x60000c, [], fun _ _ _ => [SCHED_DN_USE.USED]⟩,
  ⟨"SCHED_POOL", 0x600010, [], fun _ _ _ => [SCHED_POOL.POOL]⟩,
  ⟨"SCHED_LEDGER_b", 0x600040, [⟨.bed, 8, 0x4⟩], fun b _ _ => [SCHED_LEDGER.MULT b, SCHED_LEDGER.ACTIVE b, SCHED_LEDGER.ROW_SHARE b]⟩,
  ⟨"SCHED_ROW_g", 0x600100, [⟨.row, 32, 0x4⟩], fun g _ _ => [SCHED_ROW.NOPORT g, SCHED_ROW.UP_WEIGHT g]⟩,
  ⟨"SCHED_UP_PORT_p_CFG", 0x601000, [⟨.port, 256, 0x20⟩], fun p _ _ => [SCHED_UP_PORT_CFG.FC_MODE p, SCHED_UP_PORT_CFG.PFC_EN p]⟩,
  ⟨"SCHED_UP_PORT_p_WM", 0x601004, [⟨.port, 256, 0x20⟩], fun p _ _ => [SCHED_UP_PORT_WM.HIGH_CAP p, SCHED_UP_PORT_WM.HYST p]⟩,
  ⟨"SCHED_UP_PORT_p_HEAD", 0x601008, [⟨.port, 256, 0x20⟩], fun p _ _ => [SCHED_UP_PORT_HEAD.QUANTA p, SCHED_UP_PORT_HEAD.HEADROOM p]⟩,
  ⟨"SCHED_UP_PORT_p_USE", 0x60100c, [⟨.port, 256, 0x20⟩], fun p _ _ => [SCHED_UP_PORT_USE.ASSERTED p, SCHED_UP_PORT_USE.USED p]⟩,
  ⟨"SCHED_UP_PORT_p_DROP", 0x601010, [⟨.port, 256, 0x20⟩], fun p _ _ => [SCHED_UP_PORT_DROP.OVER p, SCHED_UP_PORT_DROP.FULL p]⟩,
  ⟨"SCHED_DN_PORT_p_CFG", 0x604000, [⟨.port, 256, 0x20⟩], fun p _ _ => [SCHED_DN_PORT_CFG.TRIB_PRIO p, SCHED_DN_PORT_CFG.PORT_MAX p]⟩,
  ⟨"SCHED_DN_PORT_p_STAT", 0x604004, [⟨.port, 256, 0x20⟩], fun p _ _ => [SCHED_DN_PORT_STAT.PAUSED p, SCHED_DN_PORT_STAT.LINK_PAUSED p, SCHED_DN_PORT_STAT.USED p]⟩,
  ⟨"SCHED_DN_PORT_p_DROP", 0x604008, [⟨.port, 256, 0x20⟩], fun p _ _ => [SCHED_DN_PORT_DROP.DOWN p, SCHED_DN_PORT_DROP.TRIB_REPL p]⟩,
  ⟨"SCHED_DN_Q_p_q", 0x608000, [⟨.port, 256, 0x40⟩, ⟨.plain, 8, 0x8⟩], fun p q _ => [SCHED_DN_Q.SP p q, SCHED_DN_Q.WEIGHT p q, SCHED_DN_Q.QMAX p q]⟩,
  ⟨"SCHED_DN_QDROP_p_q", 0x608004, [⟨.port, 256, 0x40⟩, ⟨.plain, 8, 0x8⟩], fun p q _ => [SCHED_DN_QDROP.TAIL p q, SCHED_DN_QDROP.GATE_OVER p q]⟩,
  ⟨"SCHED_GATE_g_CTRL", 0x60c000, [⟨.row, 32, 0x40⟩], fun g _ _ => [SCHED_GATE_CTRL.GATE_EN g, SCHED_GATE_CTRL.ARM g, SCHED_GATE_CTRL.PENDING g, SCHED_GATE_CTRL.OPER g, SCHED_GATE_CTRL.STEP_SEEN g, SCHED_GATE_CTRL.UNARMED g, SCHED_GATE_CTRL.WR_REFUSED g]⟩,
  ⟨"SCHED_GATE_g_l_BASE_NS", 0x60c010, [⟨.row, 32, 0x40⟩, ⟨.plain, 2, 0x10⟩], fun g l _ => [SCHED_GATE_BASE_NS.NS g l]⟩,
  ⟨"SCHED_GATE_g_l_BASE_SEC", 0x60c014, [⟨.row, 32, 0x40⟩, ⟨.plain, 2, 0x10⟩], fun g l _ => [SCHED_GATE_BASE_SEC.SEC_LO g l]⟩,
  ⟨"SCHED_GATE_g_l_CFG", 0x60c018, [⟨.row, 32, 0x40⟩, ⟨.plain, 2, 0x10⟩], fun g l _ => [SCHED_GATE_CFG.SEC_HI g l, SCHED_GATE_CFG.LEN g l]⟩,
  ⟨"SCHED_GATE_g_l_CYCLE", 0x60c01c, [⟨.row, 32, 0x40⟩, ⟨.plain, 2, 0x10⟩], fun g l _ => [SCHED_GATE_CYCLE.CYCLE g l]⟩,
  ⟨"SCHED_GCL_g_l_e", 0x610000, [⟨.row, 32, 0x800⟩, ⟨.plain, 2, 0x400⟩, ⟨.plain, 256, 0x4⟩], fun g l e => [SCHED_GCL.GATES g l e, SCHED_GCL.INTERVAL g l e]⟩]

/-- Registers 160 to 199 of the spec's offset tables. -/
def regRows4 : List RegRow := [
  ⟨"METER_m_POL_RATE", 0x620000, [⟨.plain, 4096, 0x20⟩], fun m _ _ => [METER_POL_RATE.RATE m]⟩,
  ⟨"METER_m_SHP_RATE", 0x620004, [⟨.plain, 4096, 0x20⟩], fun m _ _ => [METER_SHP_RATE.RATE m]⟩,
  ⟨"METER_m_CFG", 0x620008, [⟨.plain, 4096, 0x20⟩], fun m _ _ => [METER_CFG.POL_EN m, METER_CFG.SHP_EN m, METER_CFG.LEN_MODE m, METER_CFG.POL_BURST m]⟩,
  ⟨"METER_m_SHPB", 0x62000c, [⟨.plain, 4096, 0x20⟩], fun m _ _ => [METER_SHPB.SHP_BURST m]⟩,
  ⟨"METER_m_CNT", 0x620010, [⟨.plain, 4096, 0x20⟩], fun m _ _ => [METER_CNT.POL_DROP m, METER_CNT.SHP_CLAMP m]⟩,
  ⟨"CIPHER_CTRL", 0x700000, [], fun _ _ _ => [CIPHER_CTRL.SEAL_EVT, CIPHER_CTRL.SEAL_EVT_EN]⟩,
  ⟨"CIPHER_STATUS", 0x700004, [], fun _ _ _ => [CIPHER_STATUS.KEK_VALID, CIPHER_STATUS.SPARES_FREE, CIPHER_STATUS.LOADED]⟩,
  ⟨"CIPHER_INV_LIMIT_LO", 0x700008, [], fun _ _ _ => [CIPHER_INV_LIMIT_LO.LIMIT_LO]⟩,
  ⟨"CIPHER_INV_LIMIT_HI", 0x70000c, [], fun _ _ _ => [CIPHER_INV_LIMIT_HI.LIMIT_HI]⟩,
  ⟨"CIPHER_LOAD_CTRL", 0x700010, [], fun _ _ _ => [CIPHER_LOAD_CTRL.GO, CIPHER_LOAD_CTRL.STATUS, CIPHER_LOAD_CTRL.USE, CIPHER_LOAD_CTRL.SLOT]⟩,
  ⟨"CIPHER_LOAD_W_i", 0x700020, [⟨.plain, 10, 0x4⟩], fun i _ _ => [CIPHER_LOAD_W.WRAPPED i]⟩,
  ⟨"CIPHER_SLOT_SEL", 0x700050, [], fun _ _ _ => [CIPHER_SLOT_SEL.SLOT]⟩,
  ⟨"CIPHER_SLOT_STATE", 0x700054, [], fun _ _ _ => [CIPHER_SLOT_STATE.STATE, CIPHER_SLOT_STATE.PENDING, CIPHER_SLOT_STATE.TENDING, CIPHER_SLOT_STATE.USE, CIPHER_SLOT_STATE.SEAL_CAUSE]⟩,
  ⟨"CIPHER_SLOT_INV_LO", 0x700058, [], fun _ _ _ => [CIPHER_SLOT_INV_LO.INV_LO]⟩,
  ⟨"CIPHER_SLOT_INV_HI", 0x70005c, [], fun _ _ _ => [CIPHER_SLOT_INV_HI.INV_HI]⟩,
  ⟨"CIPHER_SLOT_MASK_LO", 0x700060, [], fun _ _ _ => [CIPHER_SLOT_MASK_LO.MASK_LO]⟩,
  ⟨"CIPHER_SLOT_MASK_HI", 0x700064, [], fun _ _ _ => [CIPHER_SLOT_MASK_HI.MASK_HI]⟩,
  ⟨"CIPHER_SLOT_CMD", 0x700068, [], fun _ _ _ => [CIPHER_SLOT_CMD.ERASE, CIPHER_SLOT_CMD.SEAL]⟩,
  ⟨"CIPHER_SEAL_POP", 0x700070, [], fun _ _ _ => [CIPHER_SEAL_POP.VALID, CIPHER_SEAL_POP.CAUSE, CIPHER_SEAL_POP.SLOT]⟩,
  ⟨"CIPHER_SEAL_STAT", 0x700074, [], fun _ _ _ => [CIPHER_SEAL_STAT.LOST, CIPHER_SEAL_STAT.SEALED]⟩,
  ⟨"CIPHER_DN_g", 0x701000, [⟨.row, 32, 0x10⟩], fun g _ _ => [CIPHER_DN.AUTH_FAIL g, CIPHER_DN.NO_KEY g]⟩,
  ⟨"CIPHER_DNX_g", 0x701004, [⟨.row, 32, 0x10⟩], fun g _ _ => [CIPHER_DNX.SHORT g, CIPHER_DNX.NO_EXT g]⟩,
  ⟨"CIPHER_UP_g", 0x701008, [⟨.row, 32, 0x10⟩], fun g _ _ => [CIPHER_UP.SEAL_LOST g, CIPHER_UP.REFUSED g]⟩,
  ⟨"TROWEL_STATUS", 0x800000, [], fun _ _ _ => [TROWEL_STATUS.CORES, TROWEL_STATUS.SPARES_FREE]⟩,
  ⟨"TROWEL_EVT", 0x800004, [], fun _ _ _ => [TROWEL_EVT.GO, TROWEL_EVT.EVENT]⟩,
  ⟨"TROWEL_MEM_ADDR", 0x800008, [], fun _ _ _ => [TROWEL_MEM_ADDR.CORE, TROWEL_MEM_ADDR.SPACE, TROWEL_MEM_ADDR.OFFSET]⟩,
  ⟨"TROWEL_MEM_DATA", 0x80000c, [], fun _ _ _ => [TROWEL_MEM_DATA.DATA]⟩,
  ⟨"TROWEL_CORE_n_CTRL", 0x800100, [⟨.core, 12, 0x10⟩], fun n _ _ => [TROWEL_CORE_CTRL.HALT n, TROWEL_CORE_CTRL.RESTART n, TROWEL_CORE_CTRL.DEBUG n]⟩,
  ⟨"TROWEL_CORE_n_STATUS", 0x800104, [⟨.core, 12, 0x10⟩], fun n _ _ => [TROWEL_CORE_STATUS.STATE n, TROWEL_CORE_STATUS.HALT_CAUSE n, TROWEL_CORE_STATUS.GRAFTED n, TROWEL_CORE_STATUS.MEM_REFUSED n, TROWEL_CORE_STATUS.TRAP n, TROWEL_CORE_STATUS.CWP n, TROWEL_CORE_STATUS.DEPTH n]⟩,
  ⟨"TROWEL_CORE_n_PC", 0x800108, [⟨.core, 12, 0x10⟩], fun n _ _ => [TROWEL_CORE_PC.PC n]⟩,
  ⟨"TROWEL_CORE_n_CNT", 0x80010c, [⟨.core, 12, 0x10⟩], fun n _ _ => [TROWEL_CORE_CNT.COLLAPSES n, TROWEL_CORE_CNT.ACCESS_FAULTS n]⟩,
  ⟨"MOVER_STATUS", 0x900000, [], fun _ _ _ => [MOVER_STATUS.LAST_CH, MOVER_STATUS.ACTIVE]⟩,
  ⟨"MOVER_HOST_BASE_LO", 0x900008, [], fun _ _ _ => [MOVER_HOST_BASE_LO.BASE_LO]⟩,
  ⟨"MOVER_HOST_BASE_HI", 0x90000c, [], fun _ _ _ => [MOVER_HOST_BASE_HI.BASE_HI]⟩,
  ⟨"MOVER_HOST_LIMIT_LO", 0x900010, [], fun _ _ _ => [MOVER_HOST_LIMIT_LO.BASE_LO]⟩,
  ⟨"MOVER_HOST_LIMIT_HI", 0x900014, [], fun _ _ _ => [MOVER_HOST_LIMIT_HI.BASE_HI]⟩,
  ⟨"MV_CH_n_CTRL", 0x901000, [⟨.plain, 16, 0x20⟩], fun n _ _ => [MV_CH_CTRL.START n, MV_CH_CTRL.STOP n]⟩,
  ⟨"MV_CH_n_BASE_LO", 0x901004, [⟨.plain, 16, 0x20⟩], fun n _ _ => [MV_CH_BASE_LO.BASE_LO n]⟩,
  ⟨"MV_CH_n_BASE_HI", 0x901008, [⟨.plain, 16, 0x20⟩], fun n _ _ => [MV_CH_BASE_HI.BASE_HI n]⟩,
  ⟨"MV_CH_n_HEAD", 0x90100c, [⟨.plain, 16, 0x20⟩], fun n _ _ => [MV_CH_HEAD.OFFSET n]⟩]

/-- Registers 200 to 239 of the spec's offset tables. -/
def regRows5 : List RegRow := [
  ⟨"MV_CH_n_DB", 0x901010, [⟨.plain, 16, 0x20⟩], fun n _ _ => [MV_CH_DB.RING n]⟩,
  ⟨"MV_CH_n_STATUS", 0x901014, [⟨.plain, 16, 0x20⟩], fun n _ _ => [MV_CH_STATUS.STATE n, MV_CH_STATUS.ERR n, MV_CH_STATUS.STARTER n, MV_CH_STATUS.DB_PEND n, MV_CH_STATUS.START_REFUSED n, MV_CH_STATUS.DB_IDLE n, MV_CH_STATUS.WR_REFUSED n]⟩,
  ⟨"MV_CH_n_CUR", 0x901018, [⟨.plain, 16, 0x20⟩], fun n _ _ => [MV_CH_CUR.OFFSET n]⟩,
  ⟨"MV_CH_n_CNT", 0x90101c, [⟨.plain, 16, 0x20⟩], fun n _ _ => [MV_CH_CNT.DONE n, MV_CH_CNT.EMPTY_DB n]⟩,
  ⟨"RAKE_CTRL", 0xa00000, [], fun _ _ _ => [RAKE_CTRL.ACT_EN]⟩,
  ⟨"RAKE_STATUS", 0xa00004, [], fun _ _ _ => [RAKE_STATUS.REC_LOST, RAKE_STATUS.BANKS_FREE, RAKE_STATUS.GRAFTING]⟩,
  ⟨"RAKE_STICKY", 0xa00008, [], fun _ _ _ => [RAKE_STICKY.KINDS]⟩,
  ⟨"RAKE_ACTIVE", 0xa0000c, [], fun _ _ _ => [RAKE_ACTIVE.KINDS]⟩,
  ⟨"RAKE_DEG_ROW", 0xa00010, [], fun _ _ _ => [RAKE_DEG_ROW.ROWS]⟩,
  ⟨"RAKE_DEG_DEV", 0xa00014, [], fun _ _ _ => [RAKE_DEG_DEV.BANK, RAKE_DEG_DEV.TROWEL, RAKE_DEG_DEV.CIPHER, RAKE_DEG_DEV.LTX, RAKE_DEG_DEV.LRX]⟩,
  ⟨"RAKE_RETURN", 0xa00018, [], fun _ _ _ => [RAKE_RETURN.GO, RAKE_RETURN.RESULT, RAKE_RETURN.LOC]⟩,
  ⟨"RAKE_INJECT", 0xa0001c, [], fun _ _ _ => [RAKE_INJECT.GO, RAKE_INJECT.DRY, RAKE_INJECT.RESULT, RAKE_INJECT.COUNT, RAKE_INJECT.KIND]⟩,
  ⟨"RAKE_INJECT_TGT", 0xa00020, [], fun _ _ _ => [RAKE_INJECT_TGT.SCOPE, RAKE_INJECT_TGT.BED, RAKE_INJECT_TGT.ROW, RAKE_INJECT_TGT.ARG]⟩,
  ⟨"RAKE_POP_i", 0xa00030, [⟨.plain, 4, 0x4⟩], fun i _ _ => [RAKE_POP.V i]⟩,
  ⟨"RAKE_RING_STAT", 0xa00040, [], fun _ _ _ => [RAKE_RING_STAT.OVERFLOW, RAKE_RING_STAT.COUNT]⟩,
  ⟨"RAKE_FW_POP_i", 0xa00050, [⟨.plain, 4, 0x4⟩], fun i _ _ => [RAKE_FW_POP.V i]⟩,
  ⟨"RAKE_FW_STAT", 0xa00060, [], fun _ _ _ => [RAKE_FW_STAT.OVERFLOW, RAKE_FW_STAT.COUNT]⟩,
  ⟨"RAKE_KIND_k", 0xa00100, [⟨.plain, 32, 0x4⟩], fun k _ _ => [RAKE_KIND.N k, RAKE_KIND.ACTION k, RAKE_KIND.FW k, RAKE_KIND.TENANT k, RAKE_KIND.WINDOW k]⟩,
  ⟨"MODE_CTRL", 0x100000, [], fun _ _ _ => [ MODE_CTRL.GO, MODE_CTRL.DEV_RESET, MODE_CTRL.TARGET]⟩,
  ⟨"MODE_STATUS", 0x100004, [], fun _ _ _ => [ MODE_STATUS.MODE, MODE_STATUS.REFUSED, MODE_STATUS.PENDING, MODE_STATUS.WAKE_CAUSE]⟩,
  ⟨"MODE_WAKE", 0x100008, [], fun _ _ _ => [ MODE_WAKE.EN, MODE_WAKE.ADDR]⟩,
  ⟨"MODE_SENTRY", 0x10000c, [], fun _ _ _ => [ MODE_SENTRY.PERIOD, MODE_SENTRY.SETTLE, MODE_SENTRY.CONSEC, MODE_SENTRY.TEMP_EN, MODE_SENTRY.DARK_EN, MODE_SENTRY.LIGHT_EN]⟩,
  ⟨"MODE_SENTRY_THR", 0x100010, [], fun _ _ _ => [ MODE_SENTRY_THR.LIGHT_DBM, MODE_SENTRY_THR.TEMP]⟩,
  ⟨"MODE_PAD", 0x100014, [], fun _ _ _ => [ MODE_PAD.HOLD]⟩,
  ⟨"CLK_STATUS", 0x100020, [], fun _ _ _ => [CLK_STATUS.STOCK_SRC, CLK_STATUS.STOCK_LOCK, CLK_STATUS.REFCLK_OK, CLK_STATUS.AON_OK, CLK_STATUS.SRC_CH]⟩,
  ⟨"CLK_JUDGE", 0x100024, [], fun _ _ _ => [CLK_JUDGE.REFCLK_DEV, CLK_JUDGE.FAILS]⟩,
  ⟨"CLK_DOM_d", 0x100104, [⟨.plain, 25, 0x4⟩], fun d _ _ => [CLK_DOM.STATE (d + 1), CLK_DOM.DEEP_EN (d + 1), CLK_DOM.SLEEP_EN (d + 1), CLK_DOM.RUN_EN (d + 1)]⟩,
  ⟨"PWR_AVS", 0x100200, [], fun _ _ _ => [PWR_AVS.FROZEN, PWR_AVS.ACK_MV, PWR_AVS.TARGET_MV]⟩,
  ⟨"PWR_SUPPLY", 0x100204, [], fun _ _ _ => [PWR_SUPPLY.WARN, PWR_SUPPLY.VSENSE_MV, PWR_SUPPLY.TIMEOUTS, PWR_SUPPLY.WARNS]⟩,
  ⟨"PWR_THERM", 0x100208, [], fun _ _ _ => [PWR_THERM.STATE, PWR_THERM.SURGE_S, PWR_THERM.TJ]⟩,
  ⟨"PWR_TRIM", 0x10020c, [], fun _ _ _ => [PWR_TRIM.TRIM_TJ, PWR_TRIM.SOA_STEP, PWR_TRIM.SOA_SAVED]⟩,
  ⟨"PWR_METER", 0x100210, [], fun _ _ _ => [PWR_METER.P1_W, PWR_METER.IOUT_A]⟩,
  ⟨"PWR_WEAR_SEL", 0x100220, [], fun _ _ _ => [PWR_WEAR_SEL.DIR, PWR_WEAR_SEL.SPARE, PWR_WEAR_SEL.INDEX]⟩,
  ⟨"PWR_WEAR", 0x100224, [], fun _ _ _ => [PWR_WEAR.WARN, PWR_WEAR.PERMILLE]⟩,
  ⟨"PMB_STATUS", 0xd04000, [], fun _ _ _ => [PMB_STATUS.NACK, PMB_STATUS.PEC_ERR]⟩,
  ⟨"PMB_RAIL_r", 0xd04010, [⟨.plain, 8, 0x4⟩], fun r _ _ => [PMB_RAIL.EN r, PMB_RAIL.CORE r, PMB_RAIL.DISABLED r, PMB_RAIL.ADDR r, PMB_RAIL.PAGE r]⟩,
  ⟨"BOOT_STATUS", 0xd08000, [], fun _ _ _ => [BOOT_STATUS.STATE, BOOT_STATUS.RUN_BANK, BOOT_STATUS.DIR_COPY, BOOT_STATUS.DIR_VALID, BOOT_STATUS.RESULT_B, BOOT_STATUS.RESULT_A]⟩,
  ⟨"BOOT_IMAGE", 0xd08004, [], fun _ _ _ => [BOOT_IMAGE.STEP_MIN, BOOT_IMAGE.VARIANTS, BOOT_IMAGE.ROLLBACK, BOOT_IMAGE.JOIN_PERMIT, BOOT_IMAGE.KEY_INDEX]⟩,
  ⟨"BOOT_BUILD_LO", 0xd08008, [], fun _ _ _ => [BOOT_BUILD_LO.V]⟩,
  ⟨"BOOT_BUILD_HI", 0xd0800c, [], fun _ _ _ => [BOOT_BUILD_HI.V]⟩]

/-- Registers 240 to 279 of the spec's offset tables. -/
def regRows6 : List RegRow := [
  ⟨"BOOT_FUSE", 0xd08010, [], fun _ _ _ => [BOOT_FUSE.ADVANCE, BOOT_FUSE.REVOKE, BOOT_FUSE.RESULT, BOOT_FUSE.KEY, BOOT_FUSE.FLOOR, BOOT_FUSE.REVOKED, BOOT_FUSE.LOADED]⟩,
  ⟨"BOOT_LIVE", 0xd08014, [], fun _ _ _ => [BOOT_LIVE.GO, BOOT_LIVE.RESULT, BOOT_LIVE.BANK]⟩,
  ⟨"BOOT_FLASH_CMD", 0xd08018, [], fun _ _ _ => [BOOT_FLASH_CMD.GO, BOOT_FLASH_CMD.RESULT, BOOT_FLASH_CMD.OP, BOOT_FLASH_CMD.LEN]⟩,
  ⟨"BOOT_FLASH_ADDR", 0xd0801c, [], fun _ _ _ => [BOOT_FLASH_ADDR.ADDR]⟩,
  ⟨"BOOT_LOAD", 0xd08020, [], fun _ _ _ => [BOOT_LOAD.SIEVE_REFUSED, BOOT_LOAD.TIME_MS]⟩,
  ⟨"BOOT_FLASH_DATA_i", 0xd08100, [⟨.plain, 64, 0x4⟩], fun i _ _ => [BOOT_FLASH_DATA.V i]⟩,
  ⟨"DEV_FEATURES_i", 0x100, [⟨.plain, 4, 0x4⟩], fun i _ _ => [DEV_FEATURES.V 0 i]⟩,
  ⟨"DEV_FEATURES_i", 0x10d0000, [⟨.bed, 8, 0x400000⟩, ⟨.plain, 4, 0x4⟩], fun f i _ => [DEV_FEATURES.V (f + 1) i]⟩,
  ⟨"DRV_FEATURES_i", 0x110, [⟨.plain, 4, 0x4⟩], fun i _ _ => [DRV_FEATURES.V 0 i]⟩,
  ⟨"DRV_FEATURES_i", 0x10d0010, [⟨.bed, 8, 0x400000⟩, ⟨.plain, 4, 0x4⟩], fun f i _ => [DRV_FEATURES.V (f + 1) i]⟩,
  ⟨"NEGOTIATED_i", 0x120, [⟨.plain, 4, 0x4⟩], fun i _ _ => [NEGOTIATED.V 0 i]⟩,
  ⟨"NEGOTIATED_i", 0x10d0020, [⟨.bed, 8, 0x400000⟩, ⟨.plain, 4, 0x4⟩], fun f i _ => [NEGOTIATED.V (f + 1) i]⟩,
  ⟨"FEAT_CTRL", 0x130, [], fun _ _ _ => [FEAT_CTRL.COMMIT 0, FEAT_CTRL.RESULT 0]⟩,
  ⟨"FEAT_CTRL", 0x10d0030, [⟨.bed, 8, 0x400000⟩], fun f _ _ => [FEAT_CTRL.COMMIT (f + 1), FEAT_CTRL.RESULT (f + 1)]⟩,
  ⟨"NQ_BASE_LO", 0x140, [], fun _ _ _ => [NQ_BASE_LO.BASE_LO 0]⟩,
  ⟨"NQ_BASE_LO", 0x10d0040, [⟨.bed, 8, 0x400000⟩], fun f _ _ => [NQ_BASE_LO.BASE_LO (f + 1)]⟩,
  ⟨"NQ_BASE_HI", 0x144, [], fun _ _ _ => [NQ_BASE_HI.BASE_HI 0]⟩,
  ⟨"NQ_BASE_HI", 0x10d0044, [⟨.bed, 8, 0x400000⟩], fun f _ _ => [NQ_BASE_HI.BASE_HI (f + 1)]⟩,
  ⟨"NQ_CFG", 0x148, [], fun _ _ _ => [NQ_CFG.EN 0, NQ_CFG.LOG_SIZE 0, NQ_CFG.COAL_N 0, NQ_CFG.COAL_US 0]⟩,
  ⟨"NQ_CFG", 0x10d0048, [⟨.bed, 8, 0x400000⟩], fun f _ _ => [NQ_CFG.EN (f + 1), NQ_CFG.LOG_SIZE (f + 1), NQ_CFG.COAL_N (f + 1), NQ_CFG.COAL_US (f + 1)]⟩,
  ⟨"NQ_HEAD", 0x14c, [], fun _ _ _ => [NQ_HEAD.HEAD 0]⟩,
  ⟨"NQ_HEAD", 0x10d004c, [⟨.bed, 8, 0x400000⟩], fun f _ _ => [NQ_HEAD.HEAD (f + 1)]⟩,
  ⟨"NQ_STATUS", 0x150, [], fun _ _ _ => [NQ_STATUS.ERR 0, NQ_STATUS.PHASE 0, NQ_STATUS.TAIL 0, NQ_STATUS.LOST 0]⟩,
  ⟨"NQ_STATUS", 0x10d0050, [⟨.bed, 8, 0x400000⟩], fun f _ _ => [NQ_STATUS.ERR (f + 1), NQ_STATUS.PHASE (f + 1), NQ_STATUS.TAIL (f + 1), NQ_STATUS.LOST (f + 1)]⟩,
  ⟨"MBX_CTRL", 0x160, [], fun _ _ _ => [MBX_CTRL.GO 0, MBX_CTRL.BUSY 0, MBX_CTRL.STATUS 0, MBX_CTRL.RESP_WORDS 0, MBX_CTRL.REQ_WORDS 0]⟩,
  ⟨"MBX_CTRL", 0x10d0060, [⟨.bed, 8, 0x400000⟩], fun f _ _ => [MBX_CTRL.GO (f + 1), MBX_CTRL.BUSY (f + 1), MBX_CTRL.STATUS (f + 1), MBX_CTRL.RESP_WORDS (f + 1), MBX_CTRL.REQ_WORDS (f + 1)]⟩,
  ⟨"FN_STATUS", 0x164, [], fun _ _ _ => [FN_STATUS.HOLES 0, FN_STATUS.MBX_REFUSED 0]⟩,
  ⟨"FN_STATUS", 0x10d0064, [⟨.bed, 8, 0x400000⟩], fun f _ _ => [FN_STATUS.HOLES (f + 1), FN_STATUS.MBX_REFUSED (f + 1)]⟩,
  ⟨"MBX_REQ_w", 0x200, [⟨.plain, 64, 0x4⟩], fun w _ _ => [MBX_REQ.V 0 w]⟩,
  ⟨"MBX_REQ_w", 0x10d0100, [⟨.bed, 8, 0x400000⟩, ⟨.plain, 64, 0x4⟩], fun f w _ => [MBX_REQ.V (f + 1) w]⟩,
  ⟨"MBX_RESP_w", 0x300, [⟨.plain, 64, 0x4⟩], fun w _ _ => [MBX_RESP.V 0 w]⟩,
  ⟨"MBX_RESP_w", 0x10d0200, [⟨.bed, 8, 0x400000⟩, ⟨.plain, 64, 0x4⟩], fun f w _ => [MBX_RESP.V (f + 1) w]⟩,
  ⟨"BEDM_CTRL", 0x10d0300, [⟨.bed, 8, 0x400000⟩], fun f _ _ => [BEDM_CTRL.BED_RESET (f + 1), BEDM_CTRL.BUSY (f + 1)]⟩,
  ⟨"MGMT_BED_b", 0xd00040, [⟨.bed, 8, 0x4⟩], fun b _ _ => [MGMT_BED.RESET b, MGMT_BED.BUSY b, MGMT_BED.TENANT_RESET_EN b, MGMT_BED.RESETS b]⟩,
  ⟨"MGMT_PCIE", 0xd00000, [], fun _ _ _ => [MGMT_PCIE.LINK_UP, MGMT_PCIE.SPEED, MGMT_PCIE.WIDTH, MGMT_PCIE.PERST]⟩,
  ⟨"MBXF_f_CTRL", 0xd0c000, [⟨.fn, 9, 0x400⟩], fun f _ _ => [MBXF_CTRL.PEND f, MBXF_CTRL.DONE f, MBXF_CTRL.ENABLE f, MBXF_CTRL.REQ_WORDS f, MBXF_CTRL.TIMEOUT_MS f, MBXF_CTRL.EVT f, MBXF_CTRL.RESP_WORDS f]⟩,
  ⟨"UART_CTRL", 0xd01000, [], fun _ _ _ => [UART_CTRL.EN, UART_CTRL.RX_OWNER, UART_CTRL.DIV]⟩,
  ⟨"UART_STATUS", 0xd01004, [], fun _ _ _ => [UART_STATUS.RX_LEVEL, UART_STATUS.TX_FREE, UART_STATUS.TX_IDLE, UART_STATUS.RX_AVAIL]⟩,
  ⟨"UART_DATA", 0xd01008, [], fun _ _ _ => [UART_DATA.VALID, UART_DATA.DATA]⟩,
  ⟨"UART_ERR", 0xd0100c, [], fun _ _ _ => [UART_ERR.FRAMING, UART_ERR.OVERRUN, UART_ERR.TX_DROP]⟩]

/-- Registers 280 to 300 of the spec's offset tables. -/
def regRows7 : List RegRow := [
  ⟨"HL_OSSP", 0xb00000, [], fun _ _ _ => [HL_OSSP.OUI]⟩,
  ⟨"HL_TPL_t_DA_LO", 0xb00100, [⟨.plain, 16, 0x10⟩], fun t _ _ => [HL_TPL_DA_LO.DA_LO t]⟩,
  ⟨"HL_TPL_t_DA_HI", 0xb00104, [⟨.plain, 16, 0x10⟩], fun t _ _ => [HL_TPL_DA_HI.ETYPE t, HL_TPL_DA_HI.DA_HI t]⟩,
  ⟨"HL_TPL_t_TAG", 0xb00108, [⟨.plain, 16, 0x10⟩], fun t _ _ => [HL_TPL_TAG.VLAN_EN t, HL_TPL_TAG.PCP t, HL_TPL_TAG.VID t]⟩,
  ⟨"HL_BED_b", 0xb01000, [⟨.bed, 8, 0x10⟩], fun b _ _ => [HL_BED.HS_EN b, HL_BED.TX_DOZE_EN b, HL_BED.RX_DOZE_EN b, HL_BED.PARTNER_RXDOZE b, HL_BED.PARTNER_HS b, HL_BED.GRAFTING b, HL_BED.SPARES_FREE b]⟩,
  ⟨"HL_BED_b_MSG", 0xb01004, [⟨.bed, 8, 0x10⟩], fun b _ _ => [HL_BED_MSG.ABORTS b, HL_BED_MSG.OFFERS b, HL_BED_MSG.FAULT_RPT b, HL_BED_MSG.BAD b]⟩,
  ⟨"HL_ROW_g", 0xb02000, [⟨.row, 32, 0x4⟩], fun g _ _ => [HL_ROW.AUTO_REFORM g, HL_ROW.PENDING g, HL_ROW.MODE g]⟩,
  ⟨"HL_PORT_p", 0xb04000, [⟨.port, 256, 0x10⟩], fun p _ _ => [HL_PORT.STATE p, HL_PORT.REFORMED p, HL_PORT.RF p, HL_PORT.TX_DOZING p, HL_PORT.RX_DOZING p, HL_PORT.WIDTH p, HL_PORT.FIRST p]⟩,
  ⟨"HL_PORT_p_ERR", 0xb04004, [⟨.port, 256, 0x10⟩], fun p _ _ => [HL_PORT_ERR.FCS p, HL_PORT_ERR.LEN p, HL_PORT_ERR.CODE p]⟩,
  ⟨"HL_PORT_p_FEC", 0xb04008, [⟨.port, 256, 0x10⟩], fun p _ _ => [HL_PORT_FEC.CORR p, HL_PORT_FEC.UNCORR p]⟩,
  ⟨"HL_LANE_b_l_CTRL", 0xb10000, [⟨.bed, 8, 0x1000⟩, ⟨.plain, 34, 0x20⟩], fun b l _ => [HL_LANE_CTRL.ENABLE b l, HL_LANE_CTRL.TX_PRECODE b l, HL_LANE_CTRL.RX_PRECODE b l, HL_LANE_CTRL.ADAPT_FREEZE b l, HL_LANE_CTRL.LOOPBACK b l, HL_LANE_CTRL.PRBS_TX b l, HL_LANE_CTRL.PRBS_RX b l, HL_LANE_CTRL.SER_THR b l]⟩,
  ⟨"HL_LANE_b_l_TXEQ", 0xb10004, [⟨.bed, 8, 0x1000⟩, ⟨.plain, 34, 0x20⟩], fun b l _ => [HL_LANE_TXEQ.C_M2 b l, HL_LANE_TXEQ.C_M1 b l, HL_LANE_TXEQ.C_0 b l, HL_LANE_TXEQ.C_P1 b l]⟩,
  ⟨"HL_LANE_b_l_STAT", 0xb10008, [⟨.bed, 8, 0x1000⟩, ⟨.plain, 34, 0x20⟩], fun b l _ => [HL_LANE_STAT.STATE b l, HL_LANE_STAT.LB_ERR b l, HL_LANE_STAT.TXEQ_ERR b l, HL_LANE_STAT.TX_DOZE b l, HL_LANE_STAT.RX_DOZE b l, HL_LANE_STAT.GRAFTED b l, HL_LANE_STAT.SNR b l, HL_LANE_STAT.SLOT b l]⟩,
  ⟨"HL_LANE_b_l_ERR", 0xb1000c, [⟨.bed, 8, 0x1000⟩, ⟨.plain, 34, 0x20⟩], fun b l _ => [HL_LANE_ERR.PRBS_ERR b l, HL_LANE_ERR.SER_MS b l]⟩,
  ⟨"SENS_CTRL", 0xe00000, [], fun _ _ _ => [SENS_CTRL.AUTO]⟩,
  ⟨"SENS_STATUS", 0xe00004, [], fun _ _ _ => [SENS_STATUS.PG_DROP, SENS_STATUS.PG_RETRY, SENS_STATUS.HOT]⟩,
  ⟨"SENS_TEMP_i", 0xe00100, [⟨.plain, 32, 0x4⟩], fun i _ _ => [SENS_TEMP.VALID i, SENS_TEMP.TEMP i]⟩,
  ⟨"SENS_VOLT_m", 0xe00200, [⟨.plain, 8, 0x4⟩], fun m _ _ => [SENS_VOLT.VALID m, SENS_VOLT.MV m]⟩,
  ⟨"DEV_IDENT", 0x0, [], fun _ _ _ => [DEV_IDENT.DEVICE, DEV_IDENT.VENDOR, DEV_IDENT.VARIANT, DEV_IDENT.STEPPING]⟩,
  ⟨"MBXF_f_REQ_w", 0xd0c100, [⟨.fn, 9, 0x400⟩, ⟨.plain, 64, 0x4⟩], fun f w _ => [MBXF_REQ.V f w]⟩,
  ⟨"MBXF_f_RESP_w", 0xd0c200, [⟨.fn, 9, 0x400⟩, ⟨.plain, 64, 0x4⟩], fun f w _ => [MBXF_RESP.V f w]⟩]

/-- Every register of the block. -/
def regRows : List RegRow :=
  regRows0 ++ regRows1 ++ regRows2 ++ regRows3 ++ regRows4 ++ regRows5 ++ regRows6 ++ regRows7

end Sys2Proof.Machine
end

