-- ==== Sys2Proof/Machine/Table.lean ====
section
/-!
DEFINITION. Sparse tables: the one container that holds the register file, the memories and every per-channel, per-port
or per-slot store of the block. A table is a list of (key, value) pairs with strictly rising keys, and no pair holds the
value an unlisted key reads as, so equal tables are equal data.
-/

namespace Sys2Proof.Machine

/-- A sparse table: (key, value) pairs. -/
abbrev Table (α : Type) := List (Nat × α)

variable {α : Type}

/-- The value listed at `k`, or `d` where none is listed. -/
def Table.get (t : Table α) (k : Nat) (d : α) : α :=
  match t with
  | [] => d
  | (k', v) :: r => if k = k' then v else Table.get r k d

/-- Is `k` listed? -/
def Table.has (t : Table α) (k : Nat) : Bool :=
  match t with
  | [] => false
  | (k', _) :: r => if k = k' then true else Table.has r k

/-- The value listed at `k`, if any. -/
def Table.find (t : Table α) (k : Nat) : Option α :=
  match t with
  | [] => none
  | (k', v) :: r => if k = k' then some v else Table.find r k

/-- The table without key `k`. -/
def Table.erase (t : Table α) (k : Nat) : Table α :=
  match t with
  | [] => []
  | (k', v) :: r => if k = k' then Table.erase r k else (k', v) :: Table.erase r k

/-- The table with `v` listed at `k`, keys kept rising. -/
def Table.insert (t : Table α) (k : Nat) (v : α) : Table α :=
  match t with
  | [] => [(k, v)]
  | (k', v') :: r =>
    if k < k' then (k, v) :: (k', v') :: r
    else if k = k' then (k, v) :: r
    else (k', v') :: Table.insert r k v

/-- The table that reads `v` at `k`, where an unlisted key reads as `d`: the one write, which keeps the canonical form. -/
def Table.set [DecidableEq α] (t : Table α) (k : Nat) (v d : α) : Table α :=
  if v = d then Table.erase t k else Table.insert t k v

/-- The table with the value at `k` changed by `f`. -/
def Table.upd [DecidableEq α] (t : Table α) (k : Nat) (d : α) (f : α → α) : Table α :=
  Table.set t k (f (Table.get t k d)) d

/-- The table without the keys that `p` rejects. -/
def Table.keep (t : Table α) (p : Nat → Bool) : Table α := t.filter fun e => p e.1

/-- Every key of the table is above `k`. -/
def Table.above (t : Table α) (k : Nat) : Bool := t.all fun e => k < e.1

/-- The canonical form: strictly rising keys, and no entry equal to what an unlisted key reads as. (In part DESIGN CHOICE, log entry 8.) -/
def Table.wf [DecidableEq α] (t : Table α) (d : α) : Bool :=
  match t with
  | [] => true
  | (k, v) :: r => Table.above r k && decide (v ≠ d) && Table.wf r d

/-- A memory with bytes stored from `a` on. -/
def storeBytes (t : Table Byte) (a : Nat) (l : List Byte) : Table Byte :=
  match l with
  | [] => t
  | x :: r => storeBytes (t.set a x 0) (a + 1) r

end Sys2Proof.Machine
end

