-- ==== Sys2Proof/Machine/Wire.lean ====
section
/-!
DEFINITION. What reaches the block from outside with a command: who accesses a register, one received downstream segment,
a tending message, one laser measurement, a regulator's reply. Plain data; Syntax.lean's commands carry it.
-/

namespace Sys2Proof.Machine

/-- Who makes a register access: PCI Express function PF f (R484), logical Trowel core n through its own memory map,
or the start-up logic applying REG_LIST (R470). The
block mover acts as the source that started its channel (R286, R400). -/
inductive Src where
  | pf (f : Nat)
  | trowel (n : Nat)
  | startup
  deriving DecidableEq, Repr

/-- A symbol on the line: the amplitudes (I, Q) of polarization X and of polarization Y (R51, R52). -/
abbrev LineSym := Int × Int × Int × Int

/-- What detection fixes (R63 step 2): the symbol alignment, the polarization order and the quadrant rotation. -/
structure Align where
  off : Nat := 0
  swap : Bool := false
  rot : Nat := 0
  deriving DecidableEq, Repr

/-- One downstream segment as one receiver engine's DSP sees it. `samples` are the outputs of its equalizer, one for each symbol
from the start of the receiver's own symbol count, in units of 1/64 of the amplitude 1; carrier and phase are tracked
out of them (R63 steps 1, 4 and 5). `gain` is the gain fast AGC reaches, `est` the AFC estimate in units of 1/1,024 MHz,
`taps` the equalizer taps that the segment leaves. `phase` is how far into the present TIME tick, in units of 1/65,536
tick, the first preamble symbol crosses. -/
structure DspSeg where
  samples : List LineSym
  gain : Nat
  est : Int
  taps : List Int
  phase : Nat
  deriving DecidableEq, Repr

/-- One downstream segment of a channel: as the engine that serves the channel sees it, and as a spare receiver at work
beside that engine does (R83). -/
structure RxSeg where
  own : DspSeg
  par : Option DspSeg := none
  deriving DecidableEq, Repr

/-- What a host lane's pattern checker saw in a window (R527): where the pattern stands at its start, and the Gray values that
the receiver decided. -/
structure PrbsRx where
  start : Nat := 0
  syms : List Nat := []
  deriving DecidableEq, Repr

/-- One measurement of a laser against the wavelength reference (R48): `tx` tells the transmitters from the receivers,
`e` is the engine, `err` the carrier error in MHz, `temp` the laser temperature in units of 1/256 °C. -/
structure LaserMeas where
  tx : Bool
  e : Nat
  err : Int
  temp : Int
  deriving DecidableEq, Repr

/-- A tending message that the checks of R164, R165 and R169 have let through: how its pod came (sealed, and the TID it
carried), its SEQ and its body. -/
structure Tend where
  sealed : Bool
  tid : Nat
  seq : Nat
  body : List Byte
  deriving DecidableEq, Repr

/-- What the UART's receive pin shows (R510, R511): a byte's frame after one sample of idle line, up to its stop bit, or the
line's level at each sample, true for high. -/
inductive UartLine where
  | byte (x : BitVec 8)
  | levels (l : List Bool)
  deriving DecidableEq, Repr

/-- What a regulator makes of a PMBus transaction (R446, R447): of a poll STATUS_WORD and READ_VOUT in mV, or a NACK, or a PEC
failure; a NACK or a PEC failure of VOUT_COMMAND; rail r's answer to VOUT_MODE, ULINEAR16 or not; or the failure, NACK or
PEC, of another transaction with rail r, and whether it was the repeat already. -/
inductive PmbReply where
  | ok (status vout : Nat)
  | nack
  | pec
  | cmdNack
  | cmdPec
  | voutMode (r : Nat) (uLinear16 : Bool)
  | failed (pec again : Bool) (r cmd arg : Nat)
  deriving DecidableEq, Repr

/-- What a unit's own detector reports to the Rake (R408) without another command of the block as its cause: kind, scope
(0 device, 1 bed, 2 row), bed, row within the bed, ARG, the physical unit, and whether it is the find of an armed
injection (R429). -/
structure ExtFault where
  kind : Nat
  scope : Nat
  bed : Nat
  row : Nat
  arg : Nat
  loc : Nat
  inj : Bool
  deriving DecidableEq, Repr

/-- What the host has set in a function's configuration space and MSI-X table (R483): Bus Master Enable, D3hot, the bases
of BAR0 and BAR2, and the vector's mask, address and data. No command of the block writes them: the commands that depend on them carry them. (In part DESIGN CHOICE, log entry 17.) -/
structure HostCfg where
  bme : Bool := false
  d3 : Bool := false
  masked : Bool := true
  bar0 : Nat := 0
  bar2 : Nat := 0
  msgAddr : Nat := 0
  msgData : Nat := 0
  deriving DecidableEq, Repr

/-- A stretch of host memory as a read request finds it: its first address and its bytes. A byte that no stretch of a
command covers reads 0. -/
structure HostSeg where
  addr : Nat
  bytes : List Byte
  deriving DecidableEq, Repr

/-- What one laser did since the last wear ledger (R463): `tx` and `e` name it as in LaserMeas, `temp` is its temperature in
units of 1/256 °C, `lit` the seconds it was not DARK and `emit` those in which its SOA emitted, at GAIN_CAP `gain`. -/
structure WearUse where
  tx : Bool
  e : Nat
  temp : Int
  lit : Nat
  emit : Nat
  gain : Nat
  deriving DecidableEq, Repr

end Sys2Proof.Machine
end

