-- ==== Sys2Proof/Syntax.lean ====
section
/-!
DEFINITION. The commands of the block: one constructor per row of spec/opcode_table.json, in its order. A command carries
what reaches the block from outside with it; what it finds inside (queues, timers, engines) is in State.
-/

namespace Sys2Proof

open Sys2Proof.Machine

/-- The commands and events of the NL-7720. -/
inductive Instr where
  /-- REGISTER_WRITE (R10). A write to a register field with no behaviour of its own stores or ignores the value according to its access code. `src` makes the access, `off` is the offset in BAR0, `v` the word written. -/
  | registerWrite (src : Src) (off : Nat) (v : Word)
  /-- MODE_REQUEST (R435). PF0 sets MODE_CTRL.GO with a TARGET; the terminal accepts DORMANT or SENTRY where R38 allows it and refuses every other request. -/
  | modeRequest (v : Word)
  /-- DYING_GASP_TIMEOUT (R206). When 1 ms passes after the request and no grant to DEV_ALLOC has arrived, the terminal enters the requested mode. -/
  | dyingGaspTimeout
  /-- POWER_DOWN_COMPLETE (R436). Once the lasers are dark and the block mover's descriptor has completed, the terminal sets the pad holds, lowers PWR_EN and takes the new mode. -/
  | powerDownComplete
  /-- DEVICE_RESET (R439). A write of MODE_CTRL.DEV_RESET holds the pads and enters LOAD at step 4 of the wake sequence. -/
  | deviceReset
  /-- RESET_N_ASSERT (R439). RESET_N held low for 1 µs starts a device reset, and the terminal stays in reset while the pin stays low. -/
  | resetNAssert
  /-- RESET_N_RELEASE (R439). A rise of RESET_N lets a pending device reset proceed into LOAD. -/
  | resetNRelease
  /-- I2C_WAKE (R440). At the STOP of an I2C transfer that matched MODE_WAKE.ADDR, the wake target fires a wake into LOAD. `addr` is the address that the transfer names. -/
  | i2cWake (addr : Nat)
  /-- I2C_SIDE_CHANNEL_WRITE (R441). The board controller writes the side-channel pointer byte. -/
  | i2cSideChannelWrite (addr : Nat) (bytes : List Byte)
  /-- I2C_SIDE_CHANNEL_READ (R441). The board controller reads side-channel bytes from the pointer onward, and the pointer advances and wraps after 15. -/
  | i2cSideChannelRead (addr : Nat) (n : Nat)
  /-- SENTRY_CYCLE (R442). Every PERIOD AON cycles, the terminal wakes the sentry island, samples power and temperature, compares the result and sleeps again. `pa`, `pb`: the eight conversions of each connector's power in 1/256 dBm; `temp` those of the die temperature in 1/16 °C. -/
  | sentryCycle (pa : List Int) (pb : List Int) (temp : List Int)
  /-- PWR_GOOD_RISE (R438). The board raises PWR_GOOD after PWR_EN, and the wake proceeds to judge REFCLK. -/
  | pwrGoodRise
  /-- PWR_GOOD_TIMEOUT (R552). When PWR_GOOD has not risen 100 ms after PWR_EN, the terminal lowers PWR_EN, counts PG_RETRY and retries after 100 ms. -/
  | pwrGoodTimeout
  /-- PWR_GOOD_DROP (R553). A fall of PWR_GOOD while PWR_EN is high is counted in PG_DROP. -/
  | pwrGoodDrop
  /-- AON_POWER_ON_RESET (R554). VDD_AON below 1.45 V for 1 µs lowers PWR_EN, clears the AON registers and sets every pad hold. -/
  | aonPowerOnReset
  /-- CLOCK_JUDGE_WINDOW (R452). At the end of each judging window the terminal compares a clock count with its tolerance, declaring the clock stable or unstable. `clk`: 0 AON crystal, 1 REFCLK, 2 STOCK on REFCLK, 3 STOCK on the recovered clock; `count` is the window's count. -/
  | clockJudgeWindow (clk : Nat) (count : Nat)
  /-- CLOCK_JUDGE_TIMEOUT (R452). When a clock is not judged stable within its timeout, the terminal retries that wake step and shows the missing clock in CLK_STATUS. `clk` as in CLOCK_JUDGE_WINDOW. -/
  | clockJudgeTimeout (clk : Nat)
  /-- STARTUP_SEQUENCE (R464). Once STOCK is locked, the start-up logic releases the pads, chooses a bank, authenticates it, loads it, applies it and enters JOIN if permitted. `fails`: the codes (class · 65,536 + index) of the units that fail their self-test and, as 2^20 + 64 · bank + section, of the sections that a read returns wrong, once for each such read; `rdA`, `rdB`: a read of bank A or B fails; `off`: bit r, rail r reports an unsupported VOUT_MODE. -/
  | startupSequence (fails : List Nat) (rdA : Bool) (rdB : Bool) (off : Nat)
  /-- STOCK_HOLD_TIMEOUT (R456). When no holdover rate is committed within 2 ms of tree LOF, STOCK steps to REFCLK anyway. -/
  | stockHoldTimeout
  /-- AVS_COMPUTE (R447). Every 10 ms, adaptive voltage scaling computes a VDD_CORE target and issues a request of at most 5 mV. `t` is the timing monitors' target in mV. -/
  | avsCompute (t : Nat)
  /-- AVS_POLL (R447). Every 100 µs, the terminal reads STATUS_WORD and READ_VOUT and acknowledges the request when the rail has reached it. `reply` is the regulator's answer. -/
  | avsPoll (reply : PmbReply)
  /-- AVS_TIMEOUT (R447). A request that is not acknowledged within 2 ms is repeated; after three timeouts FROZEN is set and a kind-19 condition is raised. -/
  | avsTimeout
  /-- SUPPLY_WARNING (R448). VDD_CORE below 94% of T_ref for 100 ns sets PWR_SUPPLY.WARN and raises a kind-19 condition. `mv` is the sensed level. -/
  | supplyWarning (mv : Nat)
  /-- SUPPLY_WARNING_SUSTAINED (R449). A supply warning that lasts 10 ms puts the thermal state into trim. -/
  | supplyWarningSustained
  /-- SUPPLY_RESET (R450). VDD_CORE below 89% of T_ref for 1 µs performs a device reset. `mv` is the sensed level. -/
  | supplyReset (mv : Nat)
  /-- THERMAL_SECOND (R459). At the end of each second, the terminal measures P1 and SURGE_S and evaluates the thermal state table. `p1` in mW and `i1` in mA are the second's P1 and last I1. -/
  | thermalSecond (p1 : Nat) (i1 : Nat)
  /-- THERMAL_FAST_CHECK (R459). Every 10 ms, the terminal checks the at-once trim conditions on power, Tj, I1 and supply warnings. `mean` is the mean power since the last check in mW, `i1` the last I1 in mA. -/
  | thermalFastCheck (mean : Nat) (i1 : Nat)
  /-- THERMAL_STATE_REPEAT (R205). Every 100 ms while the thermal state is not normal, THERMAL_STATE is sent again. -/
  | thermalStateRepeat
  /-- THERMAL_RESET (R462). Tj reaching 105 °C performs a device reset with WAKE_CAUSE 7. `tj` in 1/16 °C. -/
  | thermalReset (tj : Int)
  /-- WEAR_LEDGER_WRITE (R463). Once per hour, and on a DORMANT or SENTRY request, firmware writes the laser wear ledger to flash. `use`: what each laser did since the last ledger. -/
  | wearLedgerWrite (use : List WearUse)
  /-- DEBUG_TRACE_ENABLE (R445). The first write of CLK_DOM_24.RUN_EN to 1 starts the trace clock and releases pad group 7. -/
  | debugTraceEnable
  /-- SENSOR_CONVERSION_COMPLETE (R565). After 20 µs a group conversion completes, updating the readings and PWR_THERM.TJ. Group `g`; `vals` its eight values, in 1/16 °C or mV. -/
  | sensorConversionComplete (g : Nat) (vals : List Int)
  /-- LRX_ENABLE_WRITE (R48). A write to LRX_CTRL_k.ENABLE assigns or releases the receive channel, so its laser leaves or enters DARK and its Hunt resets. `v` is written to LRX_k_CTRL. -/
  | lrxEnableWrite (k : Nat) (v : Word)
  /-- LTX_ENABLE_WRITE (R48). A write to LTX_CTRL_k.ENABLE enables or disables the upstream channel's laser. `v` is written to LTX_k_CTRL. -/
  | ltxEnableWrite (k : Nat) (v : Word)
  /-- LASER_SETTLED (R48). The laser set point settles within 50 µs, and fine lock starts in LOCKING. `tx` tells transmitters, `e` is the engine. -/
  | laserSettled (tx : Bool) (e : Nat)
  /-- LASER_LOCK_TIMEOUT (R48). After 20 ms in LOCKING without lock, the laser goes LOST and a lock fault is reported. `tx` and `e` as in LASER_SETTLED. -/
  | laserLockTimeout (tx : Bool) (e : Nat)
  /-- LASER_LOST_RETRY (R48). One millisecond after entering LOST, the set point is reapplied and the laser returns to TUNING. `tx` and `e` as in LASER_SETTLED. -/
  | laserLostRetry (tx : Bool) (e : Nat)
  /-- SEGMENT_ACQUIRE (R63). On each segment preamble, the awake receiver runs AGC, Dibber detection and AFC, then tracks phase. `seg` is the segment as the receiver of channel k sees it. -/
  | segmentAcquire (k : Nat) (seg : RxSeg)
  /-- RX_DOZE_RESTORE (R68). At least 19.2 ns before the end of the last dozed segment, the receiver restores DSP power. -/
  | rxDozeRestore (k : Nat)
  /-- RAMP_COMMIT (R74). Setting RAMP_COMMIT copies the shadow ramp table to the active table, or refuses a non-monotone table. -/
  | rampCommit
  /-- SOA_LIMIT_WRITE (R76). A write to LINE_SOA_LIMIT clamps FLOOR and GAIN_CAP, and is redirected to SOA_SAVED while in trim. -/
  | soaLimitWrite (v : Word)
  /-- LOS_DECLARE (R78). Connector power below −32 dBm for 10 µs declares LOS. `conn`: 0 LINE_A, 1 LINE_B. -/
  | losDeclare (conn : Nat)
  /-- LOS_CLEAR (R78). Connector power at or above −30 dBm for 10 µs clears LOS. `conn`: 0 LINE_A, 1 LINE_B. -/
  | losClear (conn : Nat)
  /-- LOS_HOLDOFF_EXPIRY (R80). The connector in use stays in LOS for HOLDOFF µs, and an automatic protection switch is made when its conditions hold. -/
  | losHoldoffExpiry
  /-- PROTECTION_SWITCH (R80). With every SOA off, the terminal moves the optical switch to the other connector, counts the switch and goes to JOIN. -/
  | protectionSwitch
  /-- SWITCH_SETTLED (R82). The optical switch settles within 20 µs, and every channel reacquires. -/
  | switchSettled
  /-- TIMING_RX_CHANGE (R70). At a frame boundary the terminal moves the timing receiver to another channel, setting or clearing FALLBACK. -/
  | timingRxChange
  /-- RX_GRAFT_SWITCHOVER (R83). The channel moves to the spare receiver at a frame boundary, or when the spare locks if the old engine is fenced. -/
  | rxGraftSwitchover (k : Nat)
  /-- TX_GRAFT_SWITCHOVER (R84). Once the spare transmitter is LOCKED and no burst is in progress, the channel moves to it. -/
  | txGraftSwitchover (k : Nat)
  /-- HUNT_SEGMENT (R94). For each detected segment, the Hunt of the channel examines the header and steps its HUNT, PRESYNC, SYNC and LOSS state machine. -/
  | huntSegment (k : Nat)
  /-- EXT_REF_LOAD (R101). Setting FRM_EXT_REF_HI.LOAD applies E_ref to every channel in SYNC and checks for regression. `v` is written to FRM_EXT_REF_HI. -/
  | extRefLoad (v : Word)
  /-- FRM_EXT_LO_READ (R100). A read of FRM_EXT_LO_k latches EXT[47:32] into FRM_EXT_HI_k. -/
  | frmExtLoRead (k : Nat)
  /-- POD_DELINEATE (R116). A pod header is taken from the pod area, checked, and the pod is taken, discarded or ends delineation of the segment. -/
  | podDelineate (k : Nat)
  /-- TRELLIS_EMIT (R122). 500 ns after frame F+1 begins, the Trellis emits one frame per enabled tributary, or discards it toward an absent or down port. -/
  | trellisEmit
  /-- TRELLIS_PAGE_WRITE (R127). A write to a Trellis page is ignored on the active page, and on the standby page it clears READY. Word `j` of page `p`: of the tributary records where `trib`, of the connection memory otherwise. -/
  | trellisPageWrite (p : Nat) (trib : Bool) (j : Nat) (v : Word)
  /-- EQD_WRITE (R133). A write to BURST_EQD stages a new EQD and sets EQD_PENDING. -/
  | eqdWrite (v : Word)
  /-- EQD_APPLY (R133). At the start of the next upstream frame, the staged EQD takes effect. -/
  | eqdApply
  /-- BURST_ASSEMBLE (R149). For each served grant in line-time order, the terminal fills the pod area from the queues and tending pods. -/
  | burstAssemble
  /-- BURST_TRANSMIT (R137). At t_g0, the terminal rechecks the grant and emits the burst with ramps, preamble, delimiter and FEC blocks, or returns the frames. -/
  | burstTransmit (k : Nat)
  /-- BURST_END (R136). A completed burst is counted in BURST_SENT_k and releases actions that wait for it. -/
  | burstEnd (k : Nat)
  /-- BURST_ALLOC_ADD (R155). Setting BURST_ALLOC_ADD_HI.GO adds an allocation ID to the lowest free slot or refuses it with a result. -/
  | burstAllocAdd (v : Word)
  /-- ALLOC_REMOVE (R157). Setting ALLOC_n_LO.REMOVE requests removal of slot n after any burst in progress. -/
  | allocRemove (n : Nat)
  /-- ALLOC_REMOVE_APPLY (R157). After the burst ends, the slot's queued frames are discarded and counted, and the slot is cleared. -/
  | allocRemoveApply (n : Nat)
  /-- ALLOC_KEY_WRITE (R158). A write to ALLOC_n_HI.KEY applies from the next packet pod opened for the slot. -/
  | allocKeyWrite (n : Nat) (v : Word)
  /-- DISC_ANNOUNCE (R178). A DISC_ANNOUNCE announces a discovery window and may mark the start of a search. -/
  | discAnnounce
  /-- DISC_RESULT (R175). A DISC_RESULT identifies the terminal or makes it back off after a collision. -/
  | discResult
  /-- ASSIGN_TID (R181). An accepted ASSIGN_TID adds the device allocation slot, writes PRE_EQD, sets the TID and profile, and enters RANGING. -/
  | assignTid
  /-- RANGE_RESULT (R187). A RANGE_RESULT writes EQD, records RTD and advances ranging. -/
  | rangeResult
  /-- DC_RANGE_PLAN (R189). A DC_RANGE_PLAN names the frames of the dual-colour grants and plans the transmitter retuning. -/
  | dcRangePlan
  /-- DC_RANGE_RESULT (R191). A DC_RANGE_RESULT records the three RTDs, restores tuning and lets the servo fit the delay. -/
  | dcRangeResult
  /-- FRAME_REF (R192). A FRAME_REF loads E_ref under R101 and is answered. -/
  | frameRef
  /-- KEY_OFFER (R193). A KEY_OFFER is verified, and the terminal derives the tending keys. -/
  | keyOffer
  /-- KEY_CONFIRM (R196). A KEY_CONFIRM is compared with H2 and leads to READY, or to a cold reset. -/
  | keyConfirm
  /-- KEY_LOAD (R197). A KEY_LOAD passes a wrapped key to the vault and is answered. -/
  | keyLoad
  /-- ASSIGN_ALLOC (R198). An ASSIGN_ALLOC adds an allocation slot through BURST_ALLOC_ADD. -/
  | assignAlloc
  /-- REMOVE_ALLOC (R198). A REMOVE_ALLOC removes a slot, or is answered REPLY 7. -/
  | removeAlloc
  /-- ACTIVATE (R199). An accepted ACTIVATE ends registration, and the mode becomes SERVICE. -/
  | activate
  /-- TIME_INFO (R228). A TIME_INFO is accepted, forms a phase error for the servo, and may return the terminal from HOLDOVER. -/
  | timeInfo
  /-- SWITCH_TREE (R201). A SWITCH_TREE is checked and answered, and schedules a protection switch. -/
  | switchTree
  /-- SWITCH_TREE_TIMEOUT (R201). When 1 ms after a SWITCH_TREE no grant to DEV_ALLOC has come, the switch is made. -/
  | switchTreeTimeout
  /-- TRIB_QUERY (R202). A TRIB_QUERY is answered with whether the standby Trellis page is ready. -/
  | tribQuery
  /-- DEACTIVATE (R203). A DEACTIVATE cold-resets the terminal into LISTEN and starts a hold on upstream transmission. -/
  | deactivate
  /-- DEACTIVATE_HOLD_EXPIRY (R203). The deactivation hold ends after HOLD milliseconds. -/
  | deactivateHoldExpiry
  /-- JOIN_RELEASE (R203). Setting JOIN_CTRL.RELEASE ends any deactivation hold. -/
  | joinRelease
  /-- JOIN_ENABLE_CLEAR (R170). Writing JOIN_CTRL.ENABLE to 0 cold-resets the JOIN state machine into LISTEN. -/
  | joinEnableClear
  /-- IDENTIFIED_TIMEOUT (R170). After 100 ms in IDENTIFIED without an accepted ASSIGN_TID, the terminal returns to DISCOVER. -/
  | identifiedTimeout
  /-- RANGING_TIMEOUT (R170). After 100 ms without a RANGE_RESULT, the terminal cold-resets into DISCOVER. -/
  | rangingTimeout
  /-- DC_RANGING_TIMEOUT (R170). After 200 ms without a DC_RANGE_RESULT, the terminal cold-resets into DISCOVER. -/
  | dcRangingTimeout
  /-- KEYING_TIMEOUT (R170). After 500 ms in KEYING, the terminal cold-resets into DISCOVER. -/
  | keyingTimeout
  /-- READY_TIMEOUT (R170). After 1 s in READY without an accepted ACTIVATE, the terminal cold-resets into DISCOVER. -/
  | readyTimeout
  /-- REKEY_REQUEST_REPEAT (R204). Every 10 ms until the slot reloads, REKEY_REQUEST is repeated; after 100 requests a fault goes to the Rake. -/
  | rekeyRequestRepeat (slot : Nat)
  /-- TEND_UP_SEALED_RESET (R204). 100 ms after TEND_SLOT_UP is sealed, the terminal cold-resets and enters JOIN. -/
  | tendUpSealedReset
  /-- TIME_NOW_READ (R210). A read of TIME_NOW_NS captures T, C, OFFSET and B into the snapshot registers. -/
  | timeNowRead (src : Src)
  /-- TIME_FS_READ (R227). A read of TIME_FS_FC latches the TS, FRAC and VALID of the selected frame-start record. -/
  | timeFsRead
  /-- TIME_RATE_COMMIT (R211). A write to TIME_RATE_HI rebases OFFSET and B, and applies the new rate in one cycle. -/
  | timeRateCommit (v : Word)
  /-- TIME_STEP (R213). TIME_ADJ.GO_STEP adds TIME_STEP to OFFSET, or refuses it against the threshold. -/
  | timeStep (v : Word)
  /-- TIME_SET (R214). TIME_ADJ.GO_SET makes T equal TIME_SET, or refuses it, and sets VALID. -/
  | timeSet (v : Word)
  /-- TIME_TRIGGER_FIRE (R236). An armed trigger whose target is reached performs its action and clears ARM or advances by PERIOD. `meas`: the laser measurements that a trigger of ACTION 3 starts. -/
  | timeTriggerFire (n : Nat) (meas : List LaserMeas)
  /-- PPS_PULSE_END (R239). After WIDTH × 100 ns the PPS output falls. -/
  | ppsPulseEnd (x : Nat)
  /-- PPS_IN_CAPTURE (R240). A rising edge on PPS_IN_x captures T, sets NEW, or sets OVERRUN. Input `x`, the edge `p` eighths of a TIME tick after the count C. -/
  | ppsInCapture (x : Nat) (p : Nat)
  /-- SERVO_CYCLE (R229). Once per superframe, the servo acts on the last accepted TIME_INFO with a set, a rate update or a step. -/
  | servoCycle
  /-- TIME_MESSAGES_LOST (R230). Eight superframes without an accepted TIME_INFO, or REFUSED_RUN reaching 4, raise time messages lost and enter HOLDOVER. -/
  | timeMessagesLost
  /-- HOLDOVER_SECOND (R233). Each second in HOLDOVER advances ELAPSED, and reaching LIMIT raises holdover limit reached, which enters JOIN. -/
  | holdoverSecond
  /-- HOST_FRAME_RECEIVE (R523). The MAC checks a received frame and discards it, consumes it, passes it to the handshake, or offers it to the Sprinkler or the Sieve. `frame` arrives on port P; `code` tells an error control character, `words` are the received FEC words that brought it, of 544 ten-bit symbols each, and `others` those that brought no frame since the last. -/
  | hostFrameReceive (P : Nat) (frame : List Byte) (code : Bool) (words : List (List Nat)) (others : List (List Nat))
  /-- DELAY_REQ (R258). A Delay_Req is answered by a Delay_Resp using a client entry's credit, or by multicast rules, or is dropped. -/
  | delayReq
  /-- REQUEST_UNICAST_TRANSMISSION (R262). Firmware grants or denies a unicast request through an upsert and replies with GRANT. -/
  | requestUnicastTransmission
  /-- CANCEL_UNICAST_TRANSMISSION (R262). Firmware turns a stream off, removes an empty entry and replies ACKNOWLEDGE_CANCEL. -/
  | cancelUnicastTransmission
  /-- ACKNOWLEDGE_CANCEL_UNICAST_TRANSMISSION (R262). Firmware takes no action on an ACKNOWLEDGE_CANCEL. -/
  | acknowledgeCancelUnicastTransmission
  /-- ANNOUNCE_SEND (R256). At each interval of an active stream, the Sprinkler sends an Announce with the current clock quality. `mc` tells the multicast stream of port `j`, otherwise `j` is a client's place. -/
  | announceSend (mc : Bool) (j : Nat)
  /-- SYNC_SEND (R249). At each interval of an active stream, the Sprinkler sends a one-step or two-step Sync. `mc` and `j` as in ANNOUNCE_SEND. -/
  | syncSend (mc : Bool) (j : Nat)
  /-- FOLLOW_UP_SEND (R249). After a two-step Sync leaves, its Follow_Up carries the Sync's egress time. -/
  | followUpSend
  /-- DRESP_CREDIT_REFILL (R258). Every 2^LOG_DRESP seconds, an entry's Delay_Req credit rises by 1, up to 4. -/
  | drespCreditRefill (j : Nat)
  /-- STREAM_EXPIRY (R263). A stream whose expiry passes stops, and an entry with no live stream is removed. -/
  | streamExpiry (j : Nat)
  /-- SPR_UPSERT (R264). SPR_CMD OP 1 inserts a client entry by key, or updates the matching one, or refuses. -/
  | sprUpsert (v : Word)
  /-- SPR_REMOVE (R264). SPR_CMD OP 2 removes a client entry by key. -/
  | sprRemove (v : Word)
  /-- SPR_LOOKUP (R264). SPR_CMD OP 3 looks up an entry by key and returns it in SPR_DATA. -/
  | sprLookup (v : Word)
  /-- SPR_READ (R264). SPR_CMD OP 4 reads the entry at INDEX. -/
  | sprRead (v : Word)
  /-- SPR_PORT_WRITE (R257). A change to SPR_PORT_p is applied, or ignored with PORT_REFUSED when it breaks the row budget or the intervals. -/
  | sprPortWrite (p : Nat) (v : Word)
  /-- SIEVE_CLASSIFY (R280). The Sieve stamps a frame with the current version, parses it, looks up its key and hands on a result or the bed default. -/
  | sieveClassify
  /-- SIEVE_ACQUIRE (R286). A source takes the staging interface when OWNER is 0. -/
  | sieveAcquire (src : Src)
  /-- SIEVE_RELEASE (R286). The holder frees the staging interface and leaves staged changes staged. -/
  | sieveRelease (src : Src)
  /-- SIEVE_FORCE_RELEASE (R286). PF0 discards the holder's buffered records and pending commit, aborts the staged changes and frees the interface. -/
  | sieveForceRelease
  /-- SIEVE_OP_SUBMIT (R287). A write of SIEVE_OP_7 submits an op record into the input buffer, or drops it when the buffer is full. -/
  | sieveOpSubmit (src : Src) (v : Word)
  /-- SIEVE_INSERT (R281). An insert record places a new entry by bucket, cuckoo walk or stash, or is refused. -/
  | sieveInsert
  /-- SIEVE_UPDATE (R290). An update record stages a new result in a new place and marks the old one removed. -/
  | sieveUpdate
  /-- SIEVE_REMOVE (R290). A remove record stages the removal of a key. -/
  | sieveRemove
  /-- SIEVE_LOOKUP (R288). A lookup record finds a key in the pending view and returns it. -/
  | sieveLookup
  /-- SIEVE_COMMIT (R294). A commit request advances CUR and makes staged changes active, or is refused. -/
  | sieveCommit (src : Src)
  /-- SIEVE_ABORT (R297). The holder discards every staged record and register change. -/
  | sieveAbort (src : Src)
  /-- SIEVE_VERSION_RETIRE (R295). A version retires when no frame of it remains, freeing removed entries' places. -/
  | sieveVersionRetire (v : Nat)
  /-- SIEVE_BED_CFG_WRITE (R276). A write to a bed CFG register stages its fields, with KT forced to 7 on the NL-7720-16. -/
  | sieveBedCfgWrite (src : Src) (b : Nat) (up : Bool) (v : Word)
  /-- UPSTREAM_ADMISSION (R307). A classified upstream frame passes the policer and shaper, then is admitted to its transmit queue or dropped. -/
  | upstreamAdmission
  /-- PAUSE_RESEND (R310). While pause stays asserted, the pause frame is resent every half quanta period. -/
  | pauseResend (P : Nat)
  /-- FC_MODE_WRITE (R310). A change of FC_MODE first releases asserted pause in the old form. -/
  | fcModeWrite (P : Nat) (v : Word)
  /-- SHAPER_ELIGIBLE (R306). A shaped frame becomes eligible for grant filling when its wait expires. -/
  | shaperEligible
  /-- METER_SWEEP (R303). A background sweep refreshes each token bucket at least every 2^21 ticks. -/
  | meterSweep (m : Nat)
  /-- METER_CONFIG_WRITE (R303). A write to a meter's configuration or rate fills its buckets and resets its last time. Word `which` of meter m. -/
  | meterConfigWrite (m : Nat) (which : Nat) (v : Word)
  /-- LEDGER_RECOMPUTE (R314). Every 1,024 SCHED cycles the ledger recomputes row shares and each port's HIGH_eff and LOW_eff. -/
  | ledgerRecompute
  /-- DOWNSTREAM_ADMISSION (R317). A classified downstream frame is queued for its port, or discarded or dropped. -/
  | downstreamAdmission
  /-- PORT_FRAME_BOUNDARY (R319). At a port frame boundary, the scheduler sends a pause frame, a Trellis frame, or a queue head. -/
  | portFrameBoundary (P : Nat)
  /-- PAUSE_TIMER_EXPIRY (R322). A pause timer counts down to 0 and the queue becomes eligible. Timer `q` of port P: 0 to 7 a class, 8 the port. -/
  | pauseTimerExpiry (P : Nat) (q : Nat)
  /-- GATE_ENTRY_CHANGE (R323). When an entry's interval ends, the operational gate list applies its next entry or starts a new cycle. -/
  | gateEntryChange (g : Nat)
  /-- GATE_CHANGEOVER (R326). At CT, the admin list becomes operational and ARM and PENDING clear. -/
  | gateChangeover (g : Nat)
  /-- GATE_LIST_WRITE (R327). A write to the admin list clears ARM and PENDING, and a write to the operational list is refused. Word `reg` of list `l` of row g: 0 to 3 BASE_NS, BASE_SEC, CFG and CYCLE, 4 + e its entry e. -/
  | gateListWrite (g : Nat) (l : Nat) (reg : Nat) (v : Word)
  /-- POD_DECRYPT (R333). The downstream engine checks and decrypts an encrypted pod and releases its plaintext to the Sieve or to firmware, or discards it. -/
  | podDecrypt (g : Nat)
  /-- POD_ENCRYPT (R344). The upstream engine encrypts a pod, or sends it as idle when its key has become unusable. -/
  | podEncrypt (k : Nat)
  /-- CIPHER_LOAD (R341). Firmware sets CIPHER_LOAD_CTRL.GO; the vault checks, unwraps and distributes the key. -/
  | cipherLoad (src : Src) (v : Word)
  /-- CIPHER_LOAD_COMPLETE (R340). When the new key is present in every engine, the slot switches to it and becomes LOADED. `ok` tells that distribution succeeded; otherwise engine (g, up) failed. -/
  | cipherLoadComplete (ok : Bool) (g : Nat) (up : Bool)
  /-- CIPHER_SEAL (R337). CIPHER_SLOT_CMD.SEAL seals the selected LOADED slot with cause 3. -/
  | cipherSeal (src : Src) (v : Word)
  /-- CIPHER_ERASE (R337). CIPHER_SLOT_CMD.ERASE empties the selected slot and cancels a pending load. -/
  | cipherErase (src : Src) (v : Word)
  /-- CIPHER_SLOT_STATE_READ (R336). A read of CIPHER_SLOT_STATE latches the slot's invocation count and channel mask. -/
  | cipherSlotStateRead
  /-- CIPHER_SEAL_POP (R343). A read of CIPHER_SEAL_POP returns and removes the oldest seal-log entry. -/
  | cipherSealPop (src : Src)
  /-- CIPHER_GRAFT_SWITCHOVER (R345). After the key transfer, a spare cipher engine takes over at a segment boundary or between bursts. -/
  | cipherGraftSwitchover (g : Nat) (up : Bool)
  /-- ADD (R368). Adds two registers. -/
  | trwAdd (n : Nat) (d : Nat) (a : Nat) (b : Nat)
  /-- ADDC (R368). Adds two registers and the carry. -/
  | trwAddc (n : Nat) (d : Nat) (a : Nat) (b : Nat)
  /-- SUB (R368). Subtracts two registers. -/
  | trwSub (n : Nat) (d : Nat) (a : Nat) (b : Nat)
  /-- SUBB (R368). Subtracts two registers with borrow. -/
  | trwSubb (n : Nat) (d : Nat) (a : Nat) (b : Nat)
  /-- AND (R368). Bitwise AND. -/
  | trwAnd (n : Nat) (d : Nat) (a : Nat) (b : Nat)
  /-- OR (R368). Bitwise OR. -/
  | trwOr (n : Nat) (d : Nat) (a : Nat) (b : Nat)
  /-- XOR (R368). Bitwise XOR. -/
  | trwXor (n : Nat) (d : Nat) (a : Nat) (b : Nat)
  /-- SLL (R368). Logical shift left by a register. -/
  | trwSll (n : Nat) (d : Nat) (a : Nat) (b : Nat)
  /-- SRL (R368). Logical shift right by a register. -/
  | trwSrl (n : Nat) (d : Nat) (a : Nat) (b : Nat)
  /-- SRA (R368). Arithmetic shift right by a register. -/
  | trwSra (n : Nat) (d : Nat) (a : Nat) (b : Nat)
  /-- MIN (R368). Signed minimum. -/
  | trwMin (n : Nat) (d : Nat) (a : Nat) (b : Nat)
  /-- MAX (R368). Signed maximum. -/
  | trwMax (n : Nat) (d : Nat) (a : Nat) (b : Nat)
  /-- MUL (R368). 32-bit product of two registers. -/
  | trwMul (n : Nat) (d : Nat) (a : Nat) (b : Nat)
  /-- CLS (R368). Counts leading sign bits. -/
  | trwCls (n : Nat) (d : Nat) (a : Nat)
  /-- DIVQ (R368). Divides a 64-bit register pair, signed or unsigned, or raises DIV. -/
  | trwDivq (n : Nat) (d : Nat) (a : Nat) (b : Nat) (sgn : Bool)
  /-- ADDI (R368). Adds a sign-extended immediate. -/
  | trwAddi (n : Nat) (d : Nat) (a : Nat) (imm : Nat)
  /-- ANDI (R368). Bitwise AND with an immediate. -/
  | trwAndi (n : Nat) (d : Nat) (a : Nat) (imm : Nat)
  /-- ORI (R368). Bitwise OR with an immediate. -/
  | trwOri (n : Nat) (d : Nat) (a : Nat) (imm : Nat)
  /-- XORI (R368). Bitwise XOR with an immediate. -/
  | trwXori (n : Nat) (d : Nat) (a : Nat) (imm : Nat)
  /-- LUI (R368). Loads an immediate into the upper half of a register. -/
  | trwLui (n : Nat) (d : Nat) (imm : Nat)
  /-- SHI (R368). Shifts by an immediate amount. -/
  | trwShi (n : Nat) (d : Nat) (a : Nat) (imm : Nat)
  /-- BEQ (R369). Branches if equal. -/
  | trwBeq (n : Nat) (a : Nat) (b : Nat) (off : Nat)
  /-- BNE (R369). Branches if not equal. -/
  | trwBne (n : Nat) (a : Nat) (b : Nat) (off : Nat)
  /-- BLT (R369). Branches if signed less than. -/
  | trwBlt (n : Nat) (a : Nat) (b : Nat) (off : Nat)
  /-- BGE (R369). Branches if signed greater or equal. -/
  | trwBge (n : Nat) (a : Nat) (b : Nat) (off : Nat)
  /-- BLTU (R369). Branches if unsigned less than. -/
  | trwBltu (n : Nat) (a : Nat) (b : Nat) (off : Nat)
  /-- BGEU (R369). Branches if unsigned greater or equal. -/
  | trwBgeu (n : Nat) (a : Nat) (b : Nat) (off : Nat)
  /-- JMP (R369). Jumps PC-relative. -/
  | trwJmp (n : Nat) (off : Nat)
  /-- CALL (R353). Calls PC-relative into a new window, or raises WOVF, or collapses in trap mode. -/
  | trwCall (n : Nat) (off : Nat)
  /-- JR (R369). Jumps to a register. -/
  | trwJr (n : Nat) (a : Nat)
  /-- CALLR (R353). Calls the address in a register into a new window. -/
  | trwCallr (n : Nat) (a : Nat)
  /-- RET (R353). Returns to the caller's window, or raises WUNF. -/
  | trwRet (n : Nat)
  /-- LD_B (R370). Loads a sign-extended byte. -/
  | trwLdB (n : Nat) (d : Nat) (a : Nat) (imm : Nat)
  /-- LD_BU (R370). Loads a zero-extended byte. -/
  | trwLdBu (n : Nat) (d : Nat) (a : Nat) (imm : Nat)
  /-- LD_H (R370). Loads a sign-extended halfword. -/
  | trwLdH (n : Nat) (d : Nat) (a : Nat) (imm : Nat)
  /-- LD_HU (R370). Loads a zero-extended halfword. -/
  | trwLdHu (n : Nat) (d : Nat) (a : Nat) (imm : Nat)
  /-- LD_W (R370). Loads a word. -/
  | trwLdW (n : Nat) (d : Nat) (a : Nat) (imm : Nat)
  /-- LD_D (R370). Loads two words into a register pair. -/
  | trwLdD (n : Nat) (d : Nat) (a : Nat) (imm : Nat)
  /-- ST_B (R370). Stores a byte. -/
  | trwStB (n : Nat) (d : Nat) (a : Nat) (imm : Nat)
  /-- ST_H (R370). Stores a halfword. -/
  | trwStH (n : Nat) (d : Nat) (a : Nat) (imm : Nat)
  /-- ST_W (R370). Stores a word. -/
  | trwStW (n : Nat) (d : Nat) (a : Nat) (imm : Nat)
  /-- ST_D (R370). Stores a register pair. -/
  | trwStD (n : Nat) (d : Nat) (a : Nat) (imm : Nat)
  /-- CAS (R370). Compares and swaps a common-memory word atomically. -/
  | trwCas (n : Nat) (d : Nat) (a : Nat) (b : Nat)
  /-- MPY (R371). Writes a 16 × 16 product into an accumulator. `f` holds HA, HB, UA, UB in bits 3 to 0. -/
  | trwMpy (n : Nat) (x : Nat) (a : Nat) (b : Nat) (f : Nat)
  /-- MAC (R371). Adds a product to an accumulator. `f` as in MPY. -/
  | trwMac (n : Nat) (x : Nat) (a : Nat) (b : Nat) (f : Nat)
  /-- MSU (R371). Subtracts a product from an accumulator. `f` as in MPY. -/
  | trwMsu (n : Nat) (x : Nat) (a : Nat) (b : Nat) (f : Nat)
  /-- MAC2 (R371). Performs dual multiply-accumulate into both accumulators. -/
  | trwMac2 (n : Nat) (a : Nat) (b : Nat) (f : Nat)
  /-- ACLR (R371). Clears an accumulator. -/
  | trwAclr (n : Nat) (x : Nat)
  /-- AMOV (R371). Copies one accumulator to the other. -/
  | trwAmov (n : Nat) (x : Nat) (y : Nat)
  /-- AADD (R371). Adds the accumulators. -/
  | trwAadd (n : Nat) (x : Nat) (y : Nat)
  /-- ASUB (R371). Subtracts the accumulators. -/
  | trwAsub (n : Nat) (x : Nat) (y : Nat)
  /-- ASHL (R371). Shifts an accumulator left. -/
  | trwAshl (n : Nat) (x : Nat) (imm : Nat)
  /-- ASHR (R371). Shifts an accumulator right, flooring. -/
  | trwAshr (n : Nat) (x : Nat) (imm : Nat)
  /-- ASHRR (R371). Shifts an accumulator right, rounding half to even. -/
  | trwAshrr (n : Nat) (x : Nat) (imm : Nat)
  /-- AADDW (R371). Adds a scaled register to an accumulator. -/
  | trwAaddw (n : Nat) (x : Nat) (a : Nat) (imm : Nat)
  /-- ALDW (R371). Loads a scaled register into an accumulator. -/
  | trwAldw (n : Nat) (x : Nat) (a : Nat) (imm : Nat)
  /-- MVA (R363). Moves an accumulator to a register with autoscale, fixed shift or saturation. -/
  | trwMva (n : Nat) (d : Nat) (x : Nat)
  /-- ANEG (R371). Negates an accumulator. -/
  | trwAneg (n : Nat) (x : Nat)
  /-- NOP (R372). Does nothing. -/
  | trwNop (n : Nat)
  /-- TRAP (R354). Raises the TRAPI trap with TADDR N. -/
  | trwTrap (n : Nat) (imm : Nat)
  /-- RETT (R356). Restores STATUS and PC from the trap registers. -/
  | trwRett (n : Nat)
  /-- WAIT (R378). Suspends the core until an event is admitted. -/
  | trwWait (n : Nat)
  /-- EVCLR (R372). Clears pending event N. -/
  | trwEvclr (n : Nat) (imm : Nat)
  /-- SEV (R372). Pulses event N in every core. -/
  | trwSev (n : Nat) (imm : Nat)
  /-- HALT (R372). Halts the core with cause 3 and records a fault. -/
  | trwHalt (n : Nat)
  /-- BREAK (R372). Raises the BREAK trap, or halts with cause 2 when DEBUG is 1. -/
  | trwBreak (n : Nat)
  /-- SPILLW (R353). Stores the oldest resident window to the spill stack. -/
  | trwSpillw (n : Nat)
  /-- FILLW (R353). Reloads a caller window from the spill stack. -/
  | trwFillw (n : Nat)
  /-- MVS (R351). Reads a system register. -/
  | trwMvs (n : Nat) (d : Nat) (sys : Nat)
  /-- MSV (R351). Writes a system register. -/
  | trwMsv (n : Nat) (sys : Nat) (a : Nat)
  /-- EVENT_TRAP (R378). An admitted event with IE set raises the EVENT trap before the next instruction. -/
  | eventTrap (n : Nat)
  /-- CORE_START (R349). A scrubbed or restarted core starts at PC 0 in trap mode. -/
  | coreStart (n : Nat)
  /-- CORE_HALT (R385). Setting TROWEL_CORE_n_CTRL.HALT stops the core at the next instruction boundary. -/
  | coreHalt (n : Nat)
  /-- CORE_RESUME (R385). Clearing HALT resumes the core at TROWEL_CORE_n_PC. -/
  | coreResume (n : Nat)
  /-- CORE_RESTART (R386). Setting RESTART reloads the core from the image and restarts it in place. -/
  | coreRestart (n : Nat)
  /-- TROWEL_MEM_ACCESS (R385). An access to TROWEL_MEM_DATA reads or writes a halted core's memory and advances OFFSET. -/
  | trowelMemAccess (write : Bool) (v : Word)
  /-- TROWEL_EVT_GO (R376). Setting TROWEL_EVT.GO pulses EVENT in every core. -/
  | trowelEvtGo (v : Word)
  /-- P384_GENERATE (R384). Command 1 generates a new ephemeral P-384 key pair. -/
  | p384Generate (n : Nat)
  /-- P384_ECDH (R384). Command 2 runs ECDH and HKDF and hands the derived keys to the vault. -/
  | p384Ecdh (n : Nat)
  /-- P384_VERIFY (R384). Command 3 verifies an ECDSA P-384 signature. -/
  | p384Verify (n : Nat)
  /-- P384_SIGN (R384). Command 4 signs a hash with the unit's identity key. -/
  | p384Sign (n : Nat)
  /-- P384_COMPLETE (R384). The assist completes its command and reports RESULT. -/
  | p384Complete
  /-- MOVER_START (R403). START sets CUR to HEAD and runs the channel. -/
  | moverStart (src : Src) (n : Nat)
  /-- MOVER_STOP (R403). STOP ends the channel after its current descriptor. -/
  | moverStop (src : Src) (n : Nat)
  /-- MOVER_DOORBELL (R403). A doorbell counts in DB_PEND or wakes a parked channel to reread LINK. -/
  | moverDoorbell (src : Src) (n : Nat)
  /-- COPY (R396). The engine checks the descriptor and copies source bytes to the destination. `host`: host memory as the engine reads it; `stop`: how many bytes are written before a transport error. -/
  | moverCopy (host : List HostSeg) (stop : Option Nat)
  /-- FILL (R396). The engine fills each destination word with PARAM. `host` and `stop` as in COPY. -/
  | moverFill (host : List HostSeg) (stop : Option Nat)
  /-- INTERLEAVE (R397). The engine spreads or gathers W element streams. `host` and `stop` as in COPY. -/
  | moverInterleave (host : List HostSeg) (stop : Option Nat)
  /-- BITPLANE (R398). The engine transposes 32-word groups bit by bit. `host` and `stop` as in COPY. -/
  | moverBitplane (host : List HostSeg) (stop : Option Nat)
  /-- MOVER_SIEVE_RECORD_WRITE (R401). A record is written to the Sieve record port once FREE is not 0. -/
  | moverSieveRecordWrite
  /-- DESCRIPTOR_COMPLETE (R401). After all writes and the CRC check, the descriptor's event fires and the chain follows LINK. `host`: host memory as the engine reads LINK. -/
  | descriptorComplete (host : List HostSeg)
  /-- MOVER_TRANSPORT_ERROR (R392). A transport error stops the descriptor and puts the channel in ERROR with cause 4. -/
  | moverTransportError
  /-- MOVER_SETTLE_EXPIRY (R403). After the 16-cycle settle, the channel rereads LINK and runs, rereads or parks. `host`: host memory as the engine reads LINK. -/
  | moverSettleExpiry (n : Nat) (host : List HostSeg)
  /-- RAKE_FAULT_EVENT (R410). A source event counts toward severe, may open a window, and a severe source acts by its kind's ACTION. `ext`: an event that a unit's own detector reports; none: the next event that the block raised. -/
  | rakeFaultEvent (ext : Option ExtFault)
  /-- RAKE_RECORD_WRITE (R412). The Rake writes one queued record per FAULT cycle into the main, firmware and bed rings. -/
  | rakeRecordWrite
  /-- RING_POP (R415). A read of a ring's POP_0 latches and removes the oldest record. `ring`: 0 main, 1 firmware, 2 + b the ring of BED_b. -/
  | ringPop (ring : Nat) (src : Src)
  /-- LEVEL_CONDITION_END (R416). When a level condition ends, CBR is set in every ring copy of its record. -/
  | levelConditionEnd
  /-- SCRUB_COMPLETE (R423). A scrub's read-back is compared; on a match the unit is admitted, otherwise it is scrubbed again or fenced. `u` is the code of the unit that is scrubbed, `ok` tells that its read-back matched. -/
  | scrubComplete (u : Nat) (ok : Bool)
  /-- BANK_GRAFT_SWITCHOVER (R418). When the copy of a buffer bank completes, the spare bank takes over. `u` is the code of the spare. -/
  | bankGraftSwitchover (u : Nat)
  /-- TILE_GRAFT_SWITCHOVER (R418). At a tile frame boundary, a spare parser stage or reshuffler takes over. `u` is the code of the spare. -/
  | tileGraftSwitchover (u : Nat)
  /-- RAKE_RETURN (R427). RAKE_RETURN.GO starts the self-test of a fenced unit, or refuses. -/
  | rakeReturn (v : Word)
  /-- RAKE_RETURN_COMPLETE (R427). The self-test ends; the unit becomes a free spare or stays fenced. `ok` tells that the unit passed its self-test. -/
  | rakeReturnComplete (ok : Bool)
  /-- RAKE_INJECT (R429). RAKE_INJECT.GO arms check-bit inversion on a target, or refuses. -/
  | rakeInject (v : Word)
  /-- FUSE_ADVANCE (R477). BOOT_FUSE.ADVANCE raises the rollback floor, or refuses. `ok` tells that the fuse write succeeds. -/
  | fuseAdvance (v : Word) (ok : Bool)
  /-- FUSE_REVOKE (R477). BOOT_FUSE.REVOKE revokes a key slot, or refuses. `ok` tells that the fuse write succeeds. -/
  | fuseRevoke (v : Word) (ok : Bool)
  /-- FLASH_READ (R478). BOOT_FLASH_CMD OP 0 reads flash into the command buffer. -/
  | flashRead (src : Src) (v : Word)
  /-- FLASH_PROGRAM (R478). BOOT_FLASH_CMD OP 1 programs flash, or is refused for a protected range. -/
  | flashProgram (src : Src) (v : Word)
  /-- FLASH_ERASE_4K (R478). BOOT_FLASH_CMD OP 2 erases 4 KiB. -/
  | flashErase4k (src : Src) (v : Word)
  /-- FLASH_ERASE_64K (R478). BOOT_FLASH_CMD OP 3 erases 64 KiB. -/
  | flashErase64k (src : Src) (v : Word)
  /-- FLASH_COMMAND_COMPLETE (R478). The flash reports ready and the command ends with its RESULT. -/
  | flashCommandComplete
  /-- FLASH_TIMEOUT (R478). A flash still not ready after 2 s ends the command with RESULT 4. -/
  | flashTimeout
  /-- LIVE_APPLY (R479). BOOT_LIVE.GO authenticates the other bank, stages its Trowel sections and tree parameters, and makes its page active. `rdFail` tells that a flash read fails. -/
  | liveApply (v : Word) (rdFail : Bool)
  /-- LIVE_APPLY_CORE_RESTART (R479). Once the previous core runs, the next logical core is restarted from the new page. -/
  | liveApplyCoreRestart
  /-- PCIE_LINK_UP (R482). The PCIe link trains once STOCK is stable and pad group 1 is released. `speed` and `width` as trained. -/
  | pcieLinkUp (speed : Nat) (width : Nat)
  /-- PERST_ASSERT (R482). PCIE_PERST_N low resets every function and keeps the link down. -/
  | perstAssert
  /-- FUNCTION_LEVEL_RESET (R493). An FLR returns one function's state to reset values. -/
  | functionLevelReset (f : Nat)
  /-- HOLE_ACCESS (R486). An access to a hole or a read-only copy has no effect, counts in HOLES, and may complete as Unsupported Request. Function `f`, offset `off` in its BAR0. -/
  | holeAccess (f : Nat) (off : Nat) (write : Bool)
  /-- FEATURE_COMMIT (R495). FEAT_CTRL.COMMIT checks DRV_FEATURES and commits NEGOTIATED, or refuses. -/
  | featureCommit (f : Nat)
  /-- NQ_ENABLE (R498). Setting NQ_CFG.EN resets TAIL, SEQ and phase and enables the queue. `h` is what the host has set in the function's configuration space. -/
  | nqEnable (f : Nat) (v : Word) (h : HostCfg)
  /-- NQ_ENTRY_WRITE (R500). The terminal writes a notification entry at TAIL, or counts it lost. `h` as in NQ_ENABLE. -/
  | nqEntryWrite (f : Nat) (h : HostCfg)
  /-- NQ_HEAD_WRITE (R500). A write of NQ_HEAD frees room, and a type-7 loss entry is written first when losses are outstanding. `h` as in NQ_ENABLE. -/
  | nqHeadWrite (f : Nat) (v : Word) (h : HostCfg)
  /-- NQ_COAL_TIMEOUT (R501). COAL_US after the first unsignalled entry, the MSI-X vector is raised. `h` as in NQ_ENABLE. -/
  | nqCoalTimeout (f : Nat) (h : HostCfg)
  /-- NQ_WRITE_ERROR (R492). An error completion on a queue write disables the queue and sets ERR. -/
  | nqWriteError (f : Nat)
  /-- MBX_REQUEST (R503). MBX_CTRL.GO copies the request to firmware and pulses its event, or completes with STATUS 4. -/
  | mbxRequest (f : Nat) (v : Word)
  /-- MBX_DONE (R503). Firmware sets DONE; the response is copied and STATUS becomes 1. -/
  | mbxDone (f : Nat) (v : Word)
  /-- MBX_TIMEOUT (R504). TIMEOUT_MS after GO without DONE, the request ends with STATUS 2. -/
  | mbxTimeout (f : Nat)
  /-- BED_RESET (R506). A bed reset request takes the bed's lanes idle and resets its tenant function. -/
  | bedReset (src : Src) (b : Nat)
  /-- BED_RESET_COMPLETE (R506). Within 1 ms the lanes restart, BUSY clears and PF0 receives a type-6 entry. -/
  | bedResetComplete (b : Nat)
  /-- UART_RX_FRAME (R511). A received UART frame enters the receive FIFO, or is a framing error or overrun. The receive pin shows `line`, and then one bit time at level `stop`. -/
  | uartRxFrame (line : UartLine) (stop : Bool)
  /-- UART_DATA_WRITE (R513). A write to UART_DATA queues a byte for transmission, or drops it when the FIFO is full. -/
  | uartDataWrite (src : Src) (v : Word)
  /-- UART_DATA_POP (R513). A read of UART_DATA by RX_OWNER pops the oldest received byte. -/
  | uartDataPop (src : Src)
  /-- HL_ROW_MODE_WRITE (R520). A MODE write takes the row's ports down and forms new ports, or is held during a graft. -/
  | hlRowModeWrite (g : Nat) (v : Word)
  /-- HL_LANE_CTRL_WRITE (R526). A lane control write changes enable, precoding, loopback or PRBS, or refuses a loopback. -/
  | hlLaneCtrlWrite (b : Nat) (l : Nat) (v : Word)
  /-- TXEQ_WRITE (R517). A write of TXEQ taps is applied, or refused with TXEQ_ERR. -/
  | txeqWrite (b : Nat) (l : Nat) (v : Word)
  /-- LANE_LOCK (R518). A lane receiver locks after adaptation. -/
  | laneLock (b : Nat) (l : Nat)
  /-- PORT_UP (R521). A TRAINING port whose lanes are locked and aligned becomes UP. -/
  | portUp (P : Nat)
  /-- PORT_LINK_LOSS (R521). Loss of signal, alignment or remote fault takes an UP port to TRAINING. `why`: 0 no signal, 1 alignment lost, 2 remote fault, 3 the remote fault has ended. -/
  | portLinkLoss (P : Nat) (why : Nat)
  /-- LANE_SER_WINDOW (R528). At the end of each 1 ms window, FEC symbol errors above SER_THR raise a lane fault. `n`: FEC symbol errors in the window; `prbs`: what the pattern checker saw in it. -/
  | laneSerWindow (b : Nat) (l : Nat) (n : Nat) (prbs : PrbsRx)
  /-- HELLO_SEND (R531). Once per second, a HELLO is sent on every UP port of the bed. -/
  | helloSend (b : Nat)
  /-- HELLO (R531). A received HELLO sets PARTNER_HS and the partner's doze capability. -/
  | hello (P : Nat)
  /-- PARTNER_HS_EXPIRY (R531). Three seconds without a graft-capable HELLO clears PARTNER_HS. -/
  | partnerHsExpiry (b : Nat)
  /-- ACCEPT (R533). The partner's ACCEPT confirms that it bridges the slot. -/
  | accept (P : Nat)
  /-- LANE_GRAFT_SWITCH (R533). The terminal's receiver, adapted on the spare, takes the slot's data at a codeword boundary and sends READY. `q`: 34 · bed + the spare's position. -/
  | laneGraftSwitch (q : Nat)
  /-- READY (R533). The partner's READY lets the terminal write GRAFTED and stop driving the failing lane. -/
  | ready (P : Nat)
  /-- ABORT (R534). A received ABORT ends the graft and stops bridging. -/
  | abort (P : Nat)
  /-- GRAFT_ACCEPT_TIMEOUT (R534). No ACCEPT within 1 ms aborts the lane graft. `q`: 34 · bed + the spare's position. -/
  | graftAcceptTimeout (q : Nat)
  /-- GRAFT_READY_TIMEOUT (R534). No READY within 20 ms aborts the lane graft. `q`: 34 · bed + the spare's position. -/
  | graftReadyTimeout (q : Nat)
  /-- FAULT_REPORT (R528). A partner FAULT_REPORT raises a transmit lane fault. -/
  | faultReport (P : Nat)
  /-- TX_DOZE_ENTER (R537). After 10 µs idle, the port sends TX_DOZE and puts its lanes into electrical idle. -/
  | txDozeEnter (P : Nat)
  /-- TX_DOZE_WAKE (R538). A lapse of the doze conditions, or a ready frame, wakes the transmitters, which send 4 µs of idles first. -/
  | txDozeWake (P : Nat)
  /-- TX_DOZE (R539). A received TX_DOZE freezes and gates the port's receivers. -/
  | txDoze (P : Nat)
  /-- RX_DOZE_WAKE (R539). Returning signal wakes the receivers, which stay UP if alignment returns within 10 µs. -/
  | rxDozeWake (P : Nat)
  /-- VDD_AON_POWER_ON (R554). VDD_AON rising through 1.55 V passes the power-on threshold and starts the rise into LOAD at step 1 of R438. -/
  | vddAonPowerOn
  /-- ILLEGAL_INSTRUCTION (R367). A Trowel core executing an encoding that R367 calls illegal raises the ILLEGAL trap, or a double trap in trap mode. `w` is the word that core n executes. -/
  | illegalInstruction (n : Nat) (w : Word)
  /-- READ_CLEAR_ACCESS (R10). A read of a register holding RC fields returns their values and clears them, keeping a coincident event recorded. `src` makes the access, `off` is the offset in BAR0; the word read is left in State.readData. -/
  | readClearAccess (src : Src) (off : Nat)
  /-- SENSOR_AUTO_CONVERSION (R565). With SENS_CTRL.AUTO at 1, each millisecond the terminal starts a conversion of every sensor group. -/
  | sensorAutoConversion
  /-- UART_TX_BYTE_SENT (R513). The UART shifter finishes sending a byte, frees a transmit FIFO place and updates TX_FREE and TX_IDLE. -/
  | uartTxByteSent
  /-- TENANT_RESET_EN_WRITE (R496). A PF0 write that clears MGMT_BED_b.TENANT_RESET_EN clears bit 4 in DEV_FEATURES and NEGOTIATED of PF(b+1) in the same cycle, and setting it offers bit 4 again. -/
  | tenantResetEnWrite (b : Nat) (v : Word)
  /-- RX_DOZE_ALIGN_TIMEOUT (R539). When alignment has not returned 10 µs after signal returns to a port whose receivers dozed, the port goes to TRAINING. -/
  | rxDozeAlignTimeout (P : Nat)
  deriving DecidableEq, Repr

end Sys2Proof
end

