-- ==== Sys2Proof/Machine/State.lean ====
section
/-!
DEFINITION. The state of the block: plain data. Every register field of the spec's register tables lives in State.regs
under its bit address; what the spec gives the block beside registers (tables, queues, memories, engines' state) lives in
one structure per chapter. Faults, refusals and State.reset stand at the end.
-/

namespace Sys2Proof.Machine

/-! ### Fuses, line optics (chapter 02) -/

/-- The fused facts of one unit (R3, R9, R161, R194, R465, R477). -/
structure Fuses where
  variant : Nat            -- 0: NL-7720-64, 1: NL-7720-32, 2: NL-7720-16 (R9)
  vendor : Nat             -- DEV_IDENT.VENDOR
  serial : Nat             -- 64-bit serial number (R161)
  oui : Nat                -- Elvya's OUI, HL_OSSP
  idPriv : Nat             -- the unit's P-384 identity private key (R194)
  cert : List Byte         -- DEV_CERT (R194)
  keyHash : List Nat       -- SHA-384 hashes of the loaded signing-key slots (R465)
  loaded : Nat             -- BOOT_FUSE.LOADED
  revoked : Nat            -- BOOT_FUSE.REVOKED
  floor : Nat              -- BOOT_FUSE.FLOOR
  deriving DecidableEq, Repr

/-- One laser, of a receiver engine or of a transmitter engine (R48). -/
structure Laser where
  st : Nat := 0            -- 0 DARK, 1 TUNING, 2 LOCKING, 3 LOCKED, 4 LOST
  chan : Nat := 0          -- the channel of its set point
  good : Nat := 0          -- consecutive measurements within ±1.5 GHz while LOCKING
  temp : Int := 0          -- laser temperature of the last set point, 1/256 °C
  tnow : Int := 0          -- laser temperature of the last measurement
  code : Nat := 0          -- heater code of the last set point (R50)
  wear : Nat := 0          -- charge in units of 1/1,000 equivalent second (R463)
  deriving DecidableEq, Repr

/-- Factory data of one laser for one channel (R50). (In part DESIGN CHOICE, log entry 7.) -/
structure LaserCal where
  hk : Nat := 0
  a1 : Int := 0
  a2 : Int := 0
  a3 : Int := 0
  deriving DecidableEq, Repr

/-- A decoded segment waiting for the channel's Hunt. -/
structure DecSeg where
  c : Nat                  -- counter C when the first preamble symbol was detected (R571)
  u : Nat                  -- T at that instant, in units of 2^-16 ns (R209, R240)
  dead : Bool              -- its FEC blocks are discarded (R65)
  skip : Nat := 0          -- dozed segments since the one before it
  bad : List Nat           -- uncorrectable RS codewords (R57)
  payload : List Byte
  deriving DecidableEq, Repr

/-- One channel's receiver (R63 to R68). -/
structure Rx where
  gain : Nat := 0          -- frozen AGC gain
  afc : Int := 0           -- frozen AFC value, 1/1,024 MHz
  align : Align := {}      -- what the last detection fixed (R63)
  taps : List Int := []    -- equalizer taps (R67)
  tail : List LineSym := [] -- the tail in the equalizer's memory (R59)
  back : Bool := false     -- returning from doze: the next segment is the first after it (R65)
  stay : Bool := false     -- awake until a preamble is detected, one having been missed on return from doze (R65)
  doze : Nat := 0          -- segments to doze through: bit s of the present frame, bit 16 + s of the next (R66)
  run : Nat := 0           -- dozed segments since the last one received (R68)
  since : Nat := 0         -- C when the run of dozed segments began
  unc : Bool := false      -- an uncorrectable codeword in the present superframe
  inbox : List DecSeg := []
  deriving DecidableEq, Repr

/-- A spare receiver that acquires a channel beside the engine it is to replace (R83): its own record, and whether it has
read a frame header without an error mark. -/
structure ParRx where
  rx : Rx := {}
  read : Bool := false
  deriving DecidableEq, Repr

/-- Line optics state beside the registers. -/
structure LineSt where
  lasers : Table Laser := []       -- receiver engine e at e, transmitter engine e at 128 + e; spares from 64
  cal : Table LaserCal := []       -- calibration memory: (128·tx + e)·64 + channel
  rxEng : Table Nat := []          -- engine serving receive channel k, k itself unless listed
  txEng : Table Nat := []          -- engine serving transmit channel k
  rxFenced : List Nat := []        -- fenced receiver engines
  txFenced : List Nat := []
  rxGraft : Table Nat := []        -- channel k: the spare being brought in (R83)
  txGraft : Table Nat := []        -- channel k: the spare being brought in (R84)
  rx : Table Rx := []
  rxPar : Table ParRx := []        -- channel k: its spare receiver at work beside its engine (R83)
  ramp : List Nat := []            -- active ramp table (R74); empty stands for the reset ramp of R73
  lastSwitch : Option Nat := none  -- C at the last protection switch (R80)
  switchCmd : Option Nat := none   -- a switch that R80 calls for: the connector to take
  losRaised : Nat := 0             -- bit c: connector c's LOS stands as a kind-4 condition
  timed : Bool := false            -- a timing receiver has been chosen (R70)
  wake : List Nat := []            -- the last frame counts through which an errored map keeps every receiver awake (R111)
  deriving DecidableEq, Repr

/-! ### Framer and Trellis (chapter 03) -/

/-- The part of a segment's payload that holds pods, waiting to be delineated. -/
structure PodArea where
  ext : Nat
  extOk : Bool
  fc : Nat
  bad : List Nat
  payload : List Byte
  off : Nat                -- offset in the segment payload of the next pod header
  deriving DecidableEq, Repr

/-- One channel's Hunt (R94), beside FRM_STATUS_k. -/
structure Hunt where
  pred : Nat := 0          -- the 32-bit frame count expected next
  sf : Nat := 0            -- SF_INDEX of the last header, or its prediction
  conf : Nat := 0
  fromLoss : Bool := false -- the origin PRESYNC remembers
  lof : Bool := false      -- the channel's LOF
  miss : Nat := 0
  jump : Option Nat := none -- FC of the previous frame's valid header when that was not its pred
  seg : Nat := 0           -- number of the segment expected next, while a frame position is held
  fc : Nat := 0            -- frame count of the present frame, or its prediction
  ext : Nat := 0           -- EXT (R100)
  kept : Option Nat := none -- last EXT held while EXT_VALID was 1 (R567)
  eLast : Nat := 0         -- E_last of R571
  cLast : Nat := 0         -- C at the start of the last frame read in SYNC
  uStart : Nat := 0        -- frame start of the present frame at the line reference plane, 2^-16 ns
  sync1 : Option Nat := none -- FC of the last frame read in SYNC
  sync2 : Option Nat := none -- FC of the one before
  seen : List (Nat × Nat × Nat) := [] -- (frame count, KEY, INDEX) taken in the frames whose pods are still read (R118)
  groups : List (Nat × Nat) := []  -- (frame count, tributary group) taken in them (R120)
  areas : List PodArea := []
  deriving DecidableEq, Repr

/-- A taken pod on its way to the downstream cipher engine (R114). -/
structure DnPod where
  k : Nat
  hdr : List Byte          -- the 10 header bytes
  body : List Byte         -- LENGTH bytes
  ext : Nat
  extOk : Bool
  deriving DecidableEq, Repr

/-- A group of input slots (R120). -/
structure TribPod where
  fc : Nat
  k : Nat
  group : Nat
  body : List Byte
  deriving DecidableEq, Repr

/-- What the Trellis needs of one frame of the timing receiver (R122, R125). -/
structure TrellisFrame where
  fc : Nat
  ext : Nat
  page : Nat
  miss : Bool
  deriving DecidableEq, Repr

structure TrellisSt where
  input : List TribPod := []
  cur : Option TrellisFrame := none
  prev : Option TrellisFrame := none   -- frame F, due 500 ns after frame F+1 began
  miss : Option Nat := none            -- C at the header that began the last superframe of page miss (R125)
  deriving DecidableEq, Repr

/-! ### Upstream bursts (chapter 04) and the transmit queues (chapter 09) -/

/-- One upstream frame held in a transmit queue (R146, R299, R306). -/
structure UpFrame where
  port : Nat               -- global port P that received it
  slot : Nat               -- allocation slot
  q : Nat                  -- transmit queue 0 to 7
  wait : Option Nat        -- shaped and not yet eligible: eligible from this value of C[31:0] (R305)
  bytes : List Byte        -- FLEN bytes, after TAG_OP
  deriving DecidableEq, Repr

/-- A tending pod that firmware has queued on the device allocation slot (R150, R168). -/
structure TendPod where
  sealed : Bool
  key : Nat
  body : List Byte         -- its message list
  mark : Nat               -- 0: none; 1: carries the SWITCH_TREE reply (R201); 2: carries DYING_GASP (R206)
  deriving DecidableEq, Repr

/-- A grant that R136 lets through (R134, R173, R186). -/
structure Grant where
  kind : Nat               -- 0 data, 1 discovery, 2 ranging, 3 dual-colour
  ch : Nat                 -- upstream channel of the burst
  dn : Nat                 -- downstream channel whose map carried it
  cnt : Nat                -- channel whose burst counters count it (R190)
  alloc : Nat
  fc : Nat
  long : Bool
  req : Bool               -- STATUS_REQ
  start : Nat
  len : Nat                -- grains that the burst occupies
  eqd : Nat
  t0 : Nat                 -- t_g0 in units of 2^-16/115 ns (R132)
  win : Option (Nat × Nat) := none  -- a discovery window: its mode and number (R174)
  deriving DecidableEq, Repr

/-- One pod of a burst (R151). -/
structure UpPod where
  ty : Nat
  key : Nat
  index : Nat
  body : List Byte         -- plaintext; ciphertext and tag once encrypted
  frames : Nat             -- frames it carries
  done : Bool              -- passed the upstream engine, or needs none
  deriving DecidableEq, Repr

/-- A burst assembled for a grant (R142, R149). -/
structure Burst where
  grant : Grant
  slot : Option Nat
  area : Nat               -- bytes of the pod area
  rptAll : Nat
  rptHigh : Nat
  pods : List UpPod
  frames : List UpFrame    -- the frames chosen, oldest first
  tend : List TendPod      -- the tending pods chosen
  ramp : List Nat          -- the ramp table captured at its start (R75)
  lit : Nat := 0           -- once it has left: C at the first symbol of its ramp up (R84)
  deriving DecidableEq, Repr

/-- A virtual-time arbiter (R315): V and the start tags of the members that wait. -/
structure Arb where
  v : Nat := 0
  tags : Table Nat := []
  deriving DecidableEq, Repr

structure BurstSt where
  ufcFc : Nat := 0         -- frame count of the last recorded frame start (R130)
  ufcT : Int := 0          -- T_N of that frame, 2^-16/115 ns
  ufcOff : Int := 0        -- skew of the present timing receiver against the upstream frame clock, symbols (R131)
  ufcOk : Bool := false
  eqds : List (Int × Nat) := []  -- writes of EQD since the last upstream frame began, newest first: time (2^-16/115 ns) and the value before (R133)
  grants : List Grant := []
  bursts : List Burst := []
  air : List Burst := []
  index : Table Nat := []          -- 2^32·channel + frame count: the next INDEX (R152)
  queues : Table (List UpFrame) := []  -- (slot·8 + q)·4 + row of the bed
  arbs : Table Arb := []           -- slot·8 + q (R316)
  tend : List TendPod := []
  removing : List Nat := []        -- slots whose removal waits for a burst in progress (R157)
  deriving DecidableEq, Repr

/-! ### Joining (chapter 05) -/

/-- A tending message let through by the checks of R164, R165 and R169, in arrival order. -/
structure Msg where
  ty : Nat
  sealed : Bool
  tid : Nat
  seq : Nat
  body : List Byte
  fc : Nat                 -- frame count of the frame that carried it
  deriving DecidableEq, Repr

/-- An announced discovery window (R178). -/
structure Win where
  search : Nat
  mode : Nat
  window : Nat
  channel : Nat
  prefixLen : Nat
  pfx : Nat
  winFc : Nat
  eqd : Nat
  deriving DecidableEq, Repr

/-- One of the last 8 directed messages acted on, with its answer (R166). -/
structure Answer where
  ty : Nat
  seq : Nat
  reply : Option (Nat × List Byte)   -- type and body of the answer
  deriving DecidableEq, Repr

/-- A REKEY_REQUEST under way (R204). -/
structure Rekey where
  slot : Nat
  cause : Nat
  count : Nat
  deriving DecidableEq, Repr

structure JoinSt where
  search : Option Nat := none      -- SEARCH_ID of the search joined since DISCOVER was entered
  count : Nat := 0                 -- the count of R175
  wins : List Win := []            -- windows announced and not yet over
  used : List (Nat × Nat) := []    -- (mode, window) in which it sent, result not yet received
  seq : Nat := 0                   -- its own next SEQ
  answers : List Answer := []
  directed : Nat := 0              -- directed messages acted on in this superframe (R169)
  inbox : List Msg := []
  eref : Option Nat := none        -- E_ref while REF_VALID is 1
  h2 : Option (List Byte) := none  -- H2 of the last valid KEY_OFFER
  offered : Bool := false          -- a KEY_OFFER has been answered in this KEYING
  plan : Option (Nat × Nat × Nat) := none  -- FC_0, FC_31, FC_63 (R189)
  visits : List Nat := []          -- ranging channels the retuned transmitter has still to visit (R190)
  tuned : Option Nat := none       -- the channel the retuned transmitter stands on
  rekeys : List Rekey := []
  holdMs : Nat := 0                -- HOLD of the DEACTIVATE that began the hold (R203)
  sealWait : Bool := false         -- TEND_SLOT_UP is sealed; the 100 ms of R204 run
  swTarget : Option Nat := none    -- SWITCH_TREE accepted: connector to take when its reply has left (R201)
  swGrant : Bool := false          -- a grant to DEV_ALLOC has arrived since that SWITCH_TREE
  lastWin : Nat := 0               -- the highest window of this search whose DISC_ANNOUNCE has been read (R174)
  deriving DecidableEq, Repr

/-! ### Time engine (chapter 06) -/

/-- A frame-start record of R227. -/
structure FsRec where
  fc : Nat
  ts : Nat
  frac : Nat
  ext : Nat
  deriving DecidableEq, Repr

structure TimeSt where
  c : Nat := 0             -- the counter C
  turns : Nat := 0         -- how often C has wrapped, modulo 5 (R351 counts TROWEL cycles on)
  base : Nat := 0          -- B
  rate : Int := 0          -- ρ, units of 2^-48
  ofs : Nat := 0           -- OFFSET, in units of 2^-16 ns
  ratio : Int := 0         -- REFCLK against the recovered clock as last measured, less 1, units of 2^-48 (R232)
  cal : Table Nat := []    -- calibration table (R219)
  d25 : Table (Nat × Int × Int) := []  -- factory d25, d1, d2 of each entry, 128·connector + entry (R220)
  calX : Table Int := []   -- x at the last computation of each entry
  ring : Table FsRec := [] -- frame-start ring, EXT mod 128
  q0 : Int := 0            -- the fit of R224
  n1 : Int := 0
  n2 : Int := 0
  fit : Bool := false      -- a fit or estimate exists
  info : Option Int := none -- e of the last TIME_INFO accepted in this superframe (R229)
  good : Nat := 0          -- consecutive accepted with |e| ≤ 10 ns (R231)
  back : Nat := 0          -- consecutive accepted in HOLDOVER with |e| ≤ THRESH (R234)
  missed : Nat := 0        -- superframes without an accepted TIME_INFO, since SERVICE was entered (R230)
  sf : Nat := 0            -- servo cycles so far, one per superframe
  rates : List (Nat × Int) := [] -- (servo cycle, rate): the rates committed over the last 1,024 superframes (R232)
  integ : Int := 0         -- the integral term of the servo's loop, units of 2^-48 (R229)
  resume : Option Int := none -- the rate in force before the holdover commit (R456)
  shot : Table (Nat × Nat × Nat × Nat) := []  -- function f: snapshot of T, C, OFFSET, B (R210)
  pulse : Table Int := []  -- PPS outputs that are high: the STOCK edge, counted from C = 0, at which each falls (R239)
  jumped : List Nat := []  -- triggers that a step jumped over, due next cycle (R216)
  deriving DecidableEq, Repr

/-! ### Cipher (chapter 10) -/

/-- One key slot (R336). -/
structure Slot where
  st : Nat := 0            -- 0 EMPTY, 1 LOADED, 2 SEALED
  use : Nat := 0
  key : List Byte := []
  count : Nat := 0
  mask : Nat := 0
  cause : Nat := 0         -- cause of the seal; 0 while not SEALED
  tending : Bool := false
  deriving DecidableEq, Repr

/-- A load command accepted by the vault (R337, R341). -/
structure Load where
  slot : Nat
  use : Nat
  key : List Byte
  tending : Bool
  msg : Option Nat         -- SEQ of the KEY_LOAD that it serves
  deriving DecidableEq, Repr

/-- A load command that waits for the vault, which takes one at a time (R341). -/
structure LoadReq where
  slot : Nat
  use : Nat
  wrapped : List Byte
  msg : Option Nat         -- SEQ of the KEY_LOAD that it serves
  tend : Option (List Byte) := none  -- a tending key that the terminal loads itself (R342)
  deriving DecidableEq, Repr

structure CipherSt where
  slots : Table Slot := []
  loads : List Load := []          -- loads under way over the Flalon bus, oldest first
  wait : List LoadReq := []        -- load commands behind them, oldest first
  kek : Option (List Byte) := none
  resv : Table Nat := []           -- slot·256 + engine: invocations reserved and not used (R339)
  sealLog : List (Nat × Nat) := [] -- (slot, cause), oldest first
  input : Table (List DnPod) := [] -- row g: pods waiting for its downstream engine
  fenced : List Nat := []          -- engines (g downstream, 32 + g upstream) fenced without a spare
  grafts : List Nat := []          -- engines whose spare waits to take over (R345)
  deriving DecidableEq, Repr

/-! ### Modes, power and clocks (chapter 14) -/

structure PowerSt where
  ptr : Nat := 0                   -- side-channel pointer (R441)
  down : Option Nat := none        -- R436 under way: the mode it leads to
  gasp : Option Nat := none        -- accepted from SERVICE, waiting for R206: the mode it leads to
  gaspGrant : Bool := false        -- a grant to DEV_ALLOC has arrived since that request
  ask : Option Nat := none         -- a mode request that waits for the event of the same cycle (R41)
  wake : Option Nat := none        -- a wake latched during R436 (R437): its WAKE_CAUSE
  pwrEn : Bool := false
  pwrGood : Bool := false
  xtal : Bool := true              -- the AON crystal is powered
  resetLow : Bool := false         -- a device reset waits for the rise of RESET_N
  rstPin : Bool := false           -- RESET_N is low
  step : Nat := 2                  -- step of R438 in progress; 0 once the start-up logic has run; 1 while VDD_AON is below its threshold
  pass : Table Nat := []           -- consecutive passing windows, by clock (R452)
  failW : Table Nat := []          -- consecutive failing windows
  unstable : List Nat := []        -- clocks whose kind-18 condition stands
  hits : Nat × Nat × Nat := (0, 0, 0)  -- consecutive SENTRY hits: light, dark, temperature (R443)
  request : Option Nat := none     -- VDD_CORE request in flight, mV (R447)
  tries : Nat := 0
  retry : Bool := false            -- the last PMBus transaction failed once and is tried again (R446)
  surge : List Bool := []          -- surge seconds, newest first, at most 200 (R458)
  p1 : Nat := 0                    -- P1 of the last second, mW
  quiet : Nat := 0                 -- consecutive quiet seconds in trim (R459)
  warned : Bool := false           -- a supply warning stood in the present second
  deriving DecidableEq, Repr

/-! ### Trowel cores (chapter 11), the Rake (chapter 13) and management (chapter 16): what other chapters push into -/

/-- The scope of a fault source (R408). -/
inductive Scope where
  | dev
  | bed (b : Nat)
  | row (g : Nat)
  deriving DecidableEq, Repr

/-- One event of a fault source on its way to the Rake (R407, R408): its kind, scope and ARG, the location code of the
unit, whether it was injected (R428), and the FAULT cycle in which it was raised (R411). -/
structure FaultEv where
  kind : Nat
  scope : Scope
  arg : Nat
  loc : Nat := 0
  inj : Bool := false
  cycle : Nat := 0
  ext : Option Bool := none        -- reported by a unit's own detector: whether the armed injection explains it (R429)
  deriving DecidableEq, Repr

/-- One notification on its way to a function's queue (R499, R502). -/
structure NqEv where
  ty : Nat
  arg : Nat
  u : Nat                  -- T of the event, 2^-16 ns
  valid : Bool
  deriving DecidableEq, Repr

/-- One logical Trowel core (R347 to R382). Its STATE, HALT_CAUSE, GRAFTED and MEM_REFUSED stand in the registers
TROWEL_CORE_n_STATUS; TROWEL_CORE_n_PC and the TRAP, CWP and DEPTH fields show `pc` and `status`. -/
structure Core where
  pc : Nat := 0
  status : Nat := 0x9C000000       -- STATUS (R350)
  win : Table Nat := []            -- ring window i, W0 to W11 at 12·i; window 7 at 84 (R352)
  k : Table Nat := [(7, 0x180000)] -- K0 to K7
  accA : Int := 0                  -- 40-bit signed
  accB : Int := 0
  scale : Nat := 0x80000000        -- SCALE (R364)
  tpc : Nat := 0
  tstatus : Nat := 0
  tcause : Nat := 0
  taddr : Nat := 0
  vbase : Nat := 0
  cbBase : Table Nat := []
  cbLen : Table Nat := []
  cyc0 : Nat := 0                  -- the count of TROWEL cycles at its last restart (R351)
  cycHi : Nat := 0                 -- CYCLE_HI as last latched
  evtPend : Nat := 0               -- bit e
  evtMask : Nat := 0
  evtOvr : Nat := 0
  prb : Table Nat := []
  prl : Table Nat := []
  imem : Table Byte := []          -- 256 KiB; an unlisted byte reads 0
  dmem : Table Byte := []          -- 512 KiB
  deriving DecidableEq, Repr

/-- One command of the P-384 assist in progress (R384). -/
structure P384St where
  cmd : Nat := 0                   -- the command in progress; 0: none
  data : Table Byte := []          -- the 512-byte data area, byte j of R384
  busy : Bool := false
  result : Nat := 0                -- P384_STATUS.RESULT
  eph : Option Nat := none         -- the ephemeral private key (R194)
  deriving DecidableEq, Repr

/-! ### The Rake (chapter 13) -/

/-- What the Rake can fence (R418, R428). -/
inductive UCls where
  | lrx | ltx | cipher | trowel | bank | parser | reshuf | lane | table
  deriving DecidableEq, Repr

/-- One physical unit: its class and its place in it. Receivers, transmitters: engine 0 to 63, spares from 64; cipher
engines: downstream g, upstream 32 + g, spares from 64; Trowel cores: 0 to 11, spares from 12; buffer banks: upstream 0
to 95, downstream 96 to 127, spares from 128; parser stages and reshufflers: 16·(4·g + 2·dir + tile) + stage, the spare
15; lanes: 34·b + l; the endpoint table: its memory banks. -/
structure RUnit where
  cls : UCls
  idx : Nat
  deriving DecidableEq, Repr

/-- One source (R407, R410). -/
structure RSource where
  kind : Nat
  scope : Scope
  arg : Nat
  loc : Nat
  count : Nat
  wstart : Nat                     -- microseconds of C
  active : Bool                    -- a level condition holds
  deriving DecidableEq, Repr

/-- A record (R413), SEQ apart: each ring numbers its own. -/
structure Rec where
  ty : Nat
  kind : Nat
  u : Nat                          -- T of the event, 2^-16 ns
  tvalid : Bool
  inj : Bool
  scope : Scope
  arg : Nat
  source : Nat
  loc : Nat
  srcKey : Nat × Nat               -- the model's own: (arg, loc) of its source, for R416
  cbr : Bool := false
  seq : Nat := 0
  deriving DecidableEq, Repr

/-- A ring: its records, oldest first, and the number of the next. -/
structure Ring where
  recs : List Rec := []
  next : Nat := 0
  deriving DecidableEq, Repr

/-- A graft or a scrub in progress (R418, R423, R425). -/
structure Graft where
  unit : RUnit                     -- the failing unit
  spare : RUnit
  serves : Nat                     -- the place it serves
  fenced : Bool                    -- the failing unit is fenced already
  ev : FaultEv                     -- the event that called for it
  ready : Bool                     -- scrubbed; waits for its switch-over
  tries : Nat                      -- failed scrubs
  busy : Nat                       -- scrubs in a row that a shadow change spoiled
  prep : Bool := false             -- prepared beside the failing unit (R418 step 3)
  gen : Nat                        -- the shadow's generation when the scrub began
  deriving DecidableEq, Repr

/-- A fenced unit (R417), or a place that no unit serves (R428): the unit, the place it served, and the event. -/
structure Fenced where
  unit : RUnit
  serves : Nat
  ev : FaultEv
  deriving DecidableEq, Repr

structure RakeSt where
  sources : List RSource := []
  recQ : List Rec := []            -- records waiting to be written (R412)
  main : Ring := {}
  fw : Ring := {}
  bed : Table Ring := []
  grafts : List Graft := []
  fenced : List Fenced := []
  unserved : List Fenced := []     -- places without a unit, in the order of their fences
  free : Table (List Nat) := []    -- free spares that differ from the variant's, by pool
  gen : Table Nat := []            -- generations of units out of service, by unit code (R421)
  shadow : Table Nat := []         -- generation of each golden shadow, by pool; 1 unless listed
  inject : Option (FaultEv × Nat × Bool) := none  -- armed injection: target, events left, DRY (R429)
  returning : Option Fenced := none  -- RAKE_RETURN in progress (R427)
  place : Table Nat := []          -- 1 + the place that a unit serves, 0 for none, by unit code (cipher engines, banks, stages)
  tableShadow : List Nat := []     -- table banks served from the table's shadow (R425)
  badShadow : List Nat := []       -- pools whose golden shadow has an error that no unit could mend (R426)
  woken : Table Nat := []          -- units without power or asleep, by unit code: the failed scrubs of their return (R423, R451)
  slept : Table Nat := []          -- pools whose shadow changed while their units slept: the generation that the units hold (R422)
  deriving DecidableEq, Repr

/-! ### Host lanes (chapter 17) -/

/-- A received handshake frame that R529 does not ignore (R530). -/
structure HsMsg where
  port : Nat
  ty : Nat
  slot : Nat
  spare : Nat
  flags : Nat
  deriving DecidableEq, Repr

/-- The handshake of a lane graft (R533): the failing position, the spare and how far each side is. -/
structure LaneGraft where
  slot : Nat
  old : Nat                        -- failing position
  spare : Nat
  accepted : Bool := false
  ours : Bool := false             -- our receiver has moved, READY sent
  theirs : Bool := false           -- the partner's READY has arrived
  deriving DecidableEq, Repr

structure LaneSt where
  pos : Table Nat := []            -- 32·b + slot: the position that serves it; the slot's own number unless listed (R514)
  held : Table Nat := []           -- row g: the MODE that waits for a graft to end (R520)
  seq : Table Nat := []            -- bed b: its next handshake SEQ (R529)
  graft : Table LaneGraft := []    -- the handshake of the graft onto lane 34·b + l, l its spare
  resetting : List Nat := []       -- beds in a bed reset (R505)
  fault : List Nat := []           -- ports that see local fault (R521, R522)
  waking : List Nat := []          -- ports whose receivers woke from doze and are not aligned yet (R539)
  hsIn : List HsMsg := []          -- handshake frames that wait for their command
  eq : Table (List Nat) := []      -- lane 34·b + l: its receive equalizer: the CTLE, 32 FFE taps of which 8 pre-cursor, the DFE tap (R518)
  delay : Table Int := []          -- factory lane and MAC delay of lane 34·b + l, 2^-16 ns: transmit at 2·lane, receive at 2·lane + 1 (R248)
  deriving DecidableEq, Repr

/-! ### The Sprinkler (chapter 07) -/

/-- How a Sprinkler frame takes its time when it leaves (R249): 0 not at all, 1 one-step, 2 two-step with the Follow_Up
to send. `off` is where the PTP message stands in the frame, `tr` its transport. -/
structure SprTx where
  kind : Nat
  off : Nat
  tr : Nat
  follow : List Byte
  deriving DecidableEq, Repr

/-- One client entry (R266). -/
structure Client where
  port : Nat
  tr : Nat
  two : Bool
  vlan : Bool
  pcp : Nat
  vid : Nat
  addr : Nat
  dmac : Nat
  cport : Nat
  cid : Nat
  annExp : Nat
  syncExp : Nat
  drespExp : Nat
  logAnn : Int
  logSync : Int
  logDresp : Int
  on : Nat
  seqSync : Nat
  seqAnn : Nat
  drop : Nat
  credit : Nat
  deriving DecidableEq, Repr

/-- What the transport headers of a received PTP frame say: transport, tag (PCP and VID), offset of the message, source
address, source MAC address, and whether the destination is a PTP multicast address (R245, R261). -/
structure PtpHead where
  tr : Nat
  tag : Option (Nat × Nat)
  off : Nat
  src : Nat
  smac : Nat
  mcast : Bool
  deriving DecidableEq, Repr

/-- A frame with its arrival port, what its headers said on arrival, and its ingress time (2^-16 ns, adjusted under
R248). -/
structure PtpIn where
  port : Nat
  bytes : List Byte
  head : PtpHead
  u : Nat
  deriving DecidableEq, Repr

structure SprSt where
  clients : Table Client := []     -- by place (R264)
  inbox : List PtpIn := []         -- Delay_Req taken and not yet served
  ring : List PtpIn := []          -- hand-off ring (R261)
  sigOff : Nat := 0                -- bytes of TLVs of its oldest message that firmware has handled (R262)
  follow : List (Nat × List Byte) := []  -- Follow_Up messages due: port and frame
  mseqSync : Table Nat := []       -- multicast port: its next Sync sequenceId (R260)
  mseqAnn : Table Nat := []
  utc : Option (Nat × Nat) := none -- flags and UTC_OFFSET of the last TIME_INFO accepted (R253)
  gone : List (Nat × Nat × Client) := []  -- entries removed by expiry: C at the removal, place and entry (R263)
  deriving DecidableEq, Repr

/-! ### The Sieve (chapter 08) -/

/-- One entry of the endpoint table (R280, R293). Its place is its key in the table: 8·bucket + way, or 0x2_0000 + s. -/
structure SvEntry where
  key : Nat                        -- 160 bits (R277)
  w5 : Nat                         -- result words 5 and 6 (R282)
  w6 : Nat
  addPending : Bool := true
  addRetired : Bool := false
  addVer : Nat := 0
  removed : Bool := false          -- a removal is staged or committed
  removePending : Bool := false
  removeVer : Nat := 0
  deriving DecidableEq, Repr

/-- A frame that waits for its tile's parser (R271, R272). -/
structure SvIn where
  up : Bool
  port : Nat                       -- upstream: the host port that received it; downstream: the channel of its pod
  bed : Nat                        -- the bed concerned
  tile : Nat                       -- the row's tile of its direction, 0 or 1 (R21)
  bytes : List Byte
  deriving DecidableEq, Repr

/-- An op record in the input buffer (R287). -/
structure SvRec where
  words : List Nat
  deriving DecidableEq, Repr

structure SieveSt where
  tbl : Table SvEntry := []
  frames : List SvIn := []         -- oldest first
  buf : List SvRec := []
  active : Table Nat := []         -- active values of the staged registers, by field key, as in State.regs
  dirty : Bool := false            -- a staged register has been written since the last commit or abort
  commits : List Nat := []         -- commit requests not yet carried out: records of `buf` that come before each (R286, R294)
  deriving DecidableEq, Repr

/-! ### Buffers and the scheduler (chapter 09) -/

/-- A classified upstream frame on its way to admission (R282, R301). -/
structure UpIn where
  port : Nat
  slot : Nat
  q : Nat
  meterEn : Bool
  meter : Nat
  bytes : List Byte
  ver : Nat                        -- table version it was classified under
  deriving DecidableEq, Repr

/-- A classified downstream frame on its way to admission (R317). -/
structure DnIn where
  port : Nat
  q : Nat
  tag : Nat × Nat × Nat            -- TAG_OP, PCP and VID of its result (R283)
  bytes : List Byte
  ver : Nat                        -- table version it was classified under
  deriving DecidableEq, Repr

/-- A frame in a downstream queue, without FCS. -/
structure DnFrame where
  bytes : List Byte
  cells : Nat                      -- cells charged; 0 for a Sprinkler frame (R318)
  spr : Option SprTx
  tag : Nat × Nat × Nat            -- TAG_OP, PCP and VID, for the port MAC (R284)
  deriving DecidableEq, Repr

/-- The buckets of one meter (R303), in units of 2^-24 byte. -/
structure Meter where
  pol : Int := 0
  shp : Int := 0
  last : Nat := 0
  deriving DecidableEq, Repr

structure SchedSt where
  upIn : List UpIn := []
  dnIn : List DnIn := []
  q : Table (List DnFrame) := []   -- 8·P + q
  arb : Table Arb := []            -- port P
  gen : Table (List (List Byte)) := [] -- port P: PAUSE and PFC frames to send (R311)
  trib : Table (Nat × List Byte) := [] -- tributary: held Trellis frame, its port and bytes (R320)
  busy : Table (Nat × Nat) := []   -- port P: 1 + queue and cells of the frame in transmission
  press : List Nat := []           -- ports on which R310 asserts pause
  hold : Table Nat := []           -- port P: priorities on which R312 asserts pause
  share : Table Nat := []          -- port P: port_share + 1 of the last recomputation (R314)
  lastAdm : Table Nat := []        -- port P: 1 + C at its last admission
  meters : Table Meter := []
  timer : Table Nat := []          -- 16·P + q, 8 for PAUSE: pause time as received (R322)
  gpos : Table Nat := []           -- row g: entry in force
  gopen : Table Nat := []          -- row g: gates of the entry in force; 0xFF unless listed
  gct : Table Nat := []            -- row g: CT + 1 of a pending changeover, 2^-16 ns
  tile : List Nat := []            -- rows whose next host frame goes to tile 1 (R21)
  deriving DecidableEq, Repr

/-! ### Start-up and the seed image (chapter 15) -/

/-- One page of the Trowel golden shadow (R476): IMEM and DMEM by logical core. A core without an IMEM section is not
listed in `imem`. -/
structure TrwPage where
  imem : Table (Table Byte) := []
  dmem : Table (Table Byte) := []
  deriving DecidableEq, Repr

/-- A flash command in progress (R478). -/
structure FlashCmd where
  trw : Bool               -- sent by Trowel firmware
  op : Nat
  addr : Nat
  len : Nat
  data : List Byte         -- what a program command writes, from the moment it is sent
  deriving DecidableEq, Repr

/-- One operation on the flash bus (R465): in 8D-8D-8D or 1S-1S-1S at so many MHz, its opcode and the byte that follows it in
8D-8D-8D, its address if it has one, dummy cycles, the bytes that it sends and how many it reads. -/
structure FlashOp where
  octal : Bool := false
  mhz : Nat
  op : Nat
  opx : Option Nat := none
  addr : Option Nat := none
  dummy : Nat := 0
  data : List Byte := []
  read : Nat := 0
  deriving DecidableEq, Repr

/-- How banks are read (R465, R467): 8D-8D-8D with its opcode and dummy cycles, or 1S-1S-1S. -/
structure FlashBus where
  octal : Bool := false
  readOp : Nat := 0x13
  dummy : Nat := 0
  deriving DecidableEq, Repr

structure BootSt where
  bus : FlashBus := {}             -- the mode that the valid directory names
  flash : Table Byte := []         -- 64 MiB; an unlisted byte reads 0xFF, as erased
  page0 : TrwPage := {}
  page1 : TrwPage := {}
  active : Nat := 0                -- the active page (R476)
  operPub : List Byte := []        -- OPER_PUB of the tree parameters (R470)
  kH : Nat := 0                    -- K_H, 1/64 symbol
  ledger : Table Nat := []         -- the wear ledger in the flash's wear area: wear by laser key (R463)
  cmd : Option FlashCmd := none
  wait : List FlashCmd := []       -- flash commands behind it, in order of arrival
  live : Option Nat := none        -- a live apply restarts the cores: the next one (R479 step 5)
  deriving DecidableEq, Repr


/-! ### The block mover (chapter 12) -/

/-- The descriptor in the engine: its channel, its words, the CRC-32C of the bytes it writes, the Sieve records still to
write, and whether a transport error has cut it off. -/
structure MvRun where
  ch : Nat
  words : List Nat
  crc : Nat
  recs : List (List Byte)
  cut : Bool
  deriving DecidableEq, Repr

structure MoverSt where
  run : Option MvRun := none
  deriving DecidableEq, Repr

/-! ### Management (chapter 16) and the sensors (chapter 18) -/

/-- What AER has reported on a function: an Unsupported Request (R486), or an error on a request of its own (R492). -/
inductive AerErr where
  | unsupported
  | request
  deriving DecidableEq, Repr

/-- One function beside its management set (R498 to R501). -/
structure FnSt where
  cfg : HostCfg := {}              -- what the host has set in its configuration space, as last seen
  seq : Nat := 0                   -- entries written since the queue was enabled
  owed : Nat := 0                  -- losses since the last entry of type 7
  unsig : Nat := 0                 -- entries written and not signalled by the vector
  msixPend : Bool := false         -- the vector's pending bit
  aer : List AerErr := []          -- the errors that AER shows, each once
  deriving DecidableEq, Repr

/-- The UART's receiver (R511, R512): armed, waiting for a high level after a framing error, or in a frame, `i` samples after its
start edge, with the high ones among samples 15 to 17 of the present bit, and the data bits taken. -/
inductive UartRx where
  | armed
  | wait
  | frame (i hi bits : Nat)
  deriving DecidableEq, Repr

structure MgmtSt where
  fns : Table FnSt := []
  perst : Bool := false            -- PCIE_PERST_N is low
  bedWait : List Nat := []         -- bed resets that wait for a lane graft to end (R505)
  rx : List Byte := []             -- UART receive FIFO, oldest first
  uart : UartRx := .armed          -- UART receiver
  tx : List Byte := []             -- UART transmit FIFO and, first, the byte in the shifter
  conv : List Nat := []            -- sensor groups whose conversion is in progress (R565)
  deriving DecidableEq, Repr

/-! ### The whole block -/

/-- What the most recent command put on the block's pins and links. -/
inductive Output where
  /-- A burst began on upstream channel `ch` with t_g0 = `t0` at the line reference plane, launched at `launch` (R219;
  both in units of 2^-16/115 ns), carrying this RS payload: from the first symbol of its ramp up, 256 symbols later, each symbol with the level of the SOA in
units of 1/1,024 of the target power (R72, R139), which is GAIN_CAP / 1,023 of full launch (R76). -/
  | burst (ch : Nat) (t0 launch : Nat) (payload : List Byte) (light : List (Nat × LineSym)) (gain : Nat)
  /-- The SOA of upstream channel `ch` went dark in mid-burst (R49). -/
  | burstCut (ch : Nat)
  /-- A frame left host port P: its bytes from the preamble to the FCS (R524). -/
  | frame (P : Nat) (bytes : List Byte)
  /-- Host port P, not UP, sends the remote fault sequence from now on, or idles again (R521). -/
  | faultSeq (P : Nat) (on : Bool)
  /-- A level on a named pin. -/
  | pin (name : String) (level : Bool)
  /-- A memory write of function f to host memory (R491): address and bytes. -/
  | hostWrite (f addr : Nat) (bytes : List Byte)
  /-- A byte left the UART (R510): the sample period in units of 1/256 MGMT cycle, and the levels of its bits in turn, each for 32
  samples. -/
  | uart (period : Nat) (bits : List Bool)
  /-- The MSI-X vector of function f was raised (R501): the message's address and data. -/
  | msix (f addr data : Nat)
  /-- AER reported an error on a request of function f (R492). -/
  | aer (f : Nat)
  /-- An access of function f completed as, or reported, an Unsupported Request (R486). -/
  | unsupported (f : Nat)
  /-- A pulse on PPS output x (0 A, 1 B): the STOCK edge at which it rises, counted from C = 0, 8 in a count of C (R239). -/
  | pps (x : Nat) (edge : Int)
  /-- PPS output x falls. -/
  | ppsLow (x : Nat)
  /-- The bytes that the I2C target returned (R441). -/
  | i2c (bytes : List Byte)
  /-- A PMBus transaction with the regulator at `addr`: the command code and what it writes, the page of PAGE or the mV of
  VOUT_COMMAND, 0 for a read (R446, R447). -/
  | pmbus (addr cmd arg : Nat)
  /-- An operation on the flash bus (R465). -/
  | xspi (o : FlashOp)
  /-- The wake target acknowledged its address byte and left SDA released after it (R437, R440). -/
  | wakeAck
  deriving DecidableEq, Repr

/-- The block's state. -/
structure State where
  regs : Table Nat         -- register fields by bit address; an unlisted field holds its reset value
  fuses : Fuses
  line : LineSt
  hunts : Table Hunt       -- channel k
  trellis : TrellisSt
  burst : BurstSt
  join : JoinSt
  time : TimeSt
  cipher : CipherSt
  power : PowerSt
  cores : Table Core       -- logical Trowel core n
  common : Table Byte      -- common memory, 4 MiB (R379); an unlisted byte reads 0
  phys : Table Nat         -- physical core behind logical core n, n itself unless listed
  p384 : P384St
  rake : RakeSt
  lane : LaneSt
  spr : SprSt
  sieve : SieveSt
  sched : SchedSt
  boot : BootSt
  mgmt : MgmtSt
  mover : MoverSt
  rakeIn : List FaultEv    -- events on their way to the Rake
  rakeEnds : List FaultEv  -- level conditions that have ended
  nqIn : Table (List NqEv) -- notifications on their way, by function
  freeCtr : Nat            -- the model's own: how many free values have been used
  readData : Word          -- the word that the most recent read returned
  out : List Output        -- what the most recent command put on pins and links
  pending : List Instr     -- the commands that wait, first in, first out
  deriving DecidableEq, Repr

/-- Why a step stops with a fault. No command of this block stops: the spec gives every one an effect. -/
inductive Fault where
  /-- Raised by no meaning. -/
  | none
  deriving DecidableEq, Repr

/-- Why a command is refused. -/
inductive Refusal where
  /-- The command has no meaning yet; raised by exec's arms alone. Safe. -/
  | notModelled (mnemonic : String)
  deriving DecidableEq, Repr

/-- The fused facts of the unit that State.reset describes: an NL-7720-64 (R7); every other fuse is a DESIGN CHOICE. (In part DESIGN CHOICE, log entry 5.) -/
def Fuses.reset : Fuses :=
  { variant := 0, vendor := 0, serial := 0, oui := 0, idPriv := 1, cert := [], keyHash := [], loaded := 0, revoked := 0,
    floor := 0 }

/-- The block right after its power-on reset (R554, R438): VDD_AON has passed its threshold, the mode is LOAD, the AON
crystal is starting, every register holds its reset value, and no command waits. (In part DESIGN CHOICE, log entry 5; DESIGN CHOICE, log entry 6; DESIGN CHOICE, log entry 7.) -/
def State.reset : State :=
  { regs := [2, 3, 4, 5, 12, 14, 20, 21, 6, 7, 10, 13].foldl (fun r d =>
      Table.insert r (CLK_DOM.STATE d).key (if d = 21 then 0 else if d ≤ 5 ∨ d = 12 ∨ d = 14 ∨ d = 20 then 2 else 1)) []
    fuses := Fuses.reset, line := {}, hunts := [], trellis := {}, burst := {}, join := {},
    time := {}, cipher := {}, power := {}, cores := [], common := [], phys := [], p384 := {}, rake := {}, lane := {}, spr := {}, sieve := {}, sched := {}, boot := {}, mgmt := {}, mover := {}, rakeIn := [], rakeEnds := [], nqIn := [], freeCtr := 0, readData := 0, out := [], pending := [] }

end Sys2Proof.Machine
end

