-- ==== Sys2Proof/Machine/Ops.lean ====
section
/-!
DEFINITION. The shared operations of the block: reading and writing register fields, free values, time, fault events,
notifications and Trowel events.
-/

namespace Sys2Proof.Machine

/-! ### Register fields -/

/-- The value of a register field. -/
def rd (s : State) (f : Fld) : Nat := s.regs.get f.key f.rst

/-- The state with a register field set, cut to the field's width. -/
def wr (s : State) (f : Fld) (v : Nat) : State := { s with regs := s.regs.set f.key (v % 2 ^ f.width) f.rst }

/-- A one-bit field as a Bool. -/
def flag (s : State) (f : Fld) : Bool := rd s f = 1

/-- The state with a one-bit field set or cleared. -/
def setFlag (s : State) (f : Fld) (b : Bool) : State := wr s f (b2n b)

/-- A signed field. -/
def rdInt (s : State) (f : Fld) : Int := toSigned f.width (rd s f)

/-- The state with a signed field set. -/
def wrInt (s : State) (f : Fld) (v : Int) : State := wr s f (ofSigned f.width v)

/-- The value that a written word gives a field. -/
def fldOf (f : Fld) (v : Word) : Nat := bits v.toNat f.lsb f.width

/-- Does the written word set this one-bit field? -/
def fldSet (f : Fld) (v : Word) : Bool := fldOf f v = 1

/-- The base of the bed window of BED_b (R485). -/
def bedBase (b : Nat) : Nat := 0x1000000 + b * 0x400000

/-- The bed-window copy of a register, if it has one (R488, R540). -/
def mirrorOf (a : Nat) : Option Nat :=
  if 0x500110 ≤ a ∧ a < 0x500200 ∧ (a - 0x500110) % 0x20 ≤ 8 then
    some (bedBase ((a - 0x500110) / 0x20) + 0x50000 + (a - 0x500110) % 0x20)
  else if 0x601000 ≤ a ∧ a < 0x603000 ∧ (a % 0x20 = 0xC ∨ a % 0x20 = 0x10) then
    let p := (a - 0x601000) / 0x20
    some (bedBase (p / 32) + 0x60000 + 0x20 * (p % 32) + (a % 0x20 - 0xC))
  else if 0x604000 ≤ a ∧ a < 0x606000 ∧ (a % 0x20 = 4 ∨ a % 0x20 = 8) then
    let p := (a - 0x604000) / 0x20
    some (bedBase (p / 32) + 0x60008 + 0x20 * (p % 32) + (a % 0x20 - 4))
  else if 0x608000 ≤ a ∧ a < 0x60C000 ∧ a % 8 = 4 then
    let p := (a - 0x608000) / 0x40
    some (bedBase (p / 32) + 0x61000 + 0x40 * (p % 32) + (a % 0x40 - 4) / 2)
  else if 0xB01000 ≤ a ∧ a < 0xB01080 ∧ a % 0x10 = 0 then some (bedBase ((a - 0xB01000) / 0x10) + 0xB0000)
  else if 0xB02000 ≤ a ∧ a < 0xB02080 then
    let g := (a - 0xB02000) / 4
    some (bedBase (g / 4) + 0xB0010 + 4 * (g % 4))
  else if 0xB04000 ≤ a ∧ a < 0xB05000 ∧ a % 0x10 ≤ 8 then
    let p := (a - 0xB04000) / 0x10
    some (bedBase (p / 32) + 0xB0100 + 0x10 * (p % 32) + a % 0x10)
  else if 0xB10000 ≤ a ∧ a < 0xB18000 ∧ (a % 0x20 = 8 ∨ a % 0x20 = 0xC) ∧ (a - 0xB10000) % 0x1000 < 0x440 then
    some (bedBase ((a - 0xB10000) / 0x1000) + 0xB1000 + (a - 0xB10000) % 0x1000)
  else none

/-- Count `n` events in one field, saturating. -/
def bump1 (s : State) (f : Fld) (n : Nat) : State := wr s f (satAdd f.width (rd s f) n)

/-- Count `n` events in a counter field, saturating at the field's largest value; an RC field with a bed-window copy
counts there too (R489). -/
def bump (s : State) (f : Fld) (n : Nat) : State :=
  match mirrorOf f.addr with
  | some a => if f.acc = .rc then bump1 (bump1 s f n) { f with addr := a } n else bump1 s f n
  | none => bump1 s f n

/-- Is a field plainly stored by a write to its register: RW, with no behaviour of its own? -/
def Fld.plain (f : Fld) : Bool := f.acc = .rw

/-- The effect of a written word on one field by its access code (R10): RW stores, W1C clears the bits written 1; RO and
RC ignore the write. WO and RW1S fields request an action, which belongs to their own command. -/
def writeFld (v : Word) (s : State) (f : Fld) : State :=
  match f.acc with
  | .rw => wr s f (fldOf f v)
  | .w1c => wr s f (rd s f - Nat.land (rd s f) (fldOf f v))
  | _ => s

/-- The state with RW and W1C fields of a register written (R10 to R12). -/
def writeFlds (s : State) (fs : List Fld) (v : Word) : State := fs.foldl (writeFld v) s

/-- The word that a register's fields form; reserved fields read 0 (R12), WO fields read 0 (R10). -/
def wordOf (s : State) (fs : List Fld) : Nat :=
  fs.foldl (fun a f => a + (if f.acc = .wo then 0 else rd s f * 2 ^ f.lsb)) 0

/-! ### Variants (R3, R7) -/

/-- Downstream receivers and upstream transmitters in service, one per wavelength. -/
def chans (s : State) : Nat := if s.fuses.variant = 0 then 64 else if s.fuses.variant = 1 then 32 else 16

/-- Rows. -/
def rows (s : State) : Nat := chans s / 2

/-- Beds. -/
def beds (s : State) : Nat := chans s / 8

/-- Places for host ports: 8 per row. -/
def ports (s : State) : Nat := chans s * 4

/-- Logical Trowel cores. -/
def cores (s : State) : Nat := if s.fuses.variant = 2 then 6 else 12

/-- PCI Express functions. -/
def fns (s : State) : Nat := beds s + 1

/-- Spare optical or cipher engines of each kind. -/
def spares (s : State) : Nat := chans s / 16

/-- How many of an index's things the variant has. -/
def idxCount (s : State) (d : Dim) : Nat :=
  match d.kind with
  | .plain => d.count
  | .chan => min d.count (chans s)
  | .row => min d.count (rows s)
  | .bed => min d.count (beds s)
  | .port => min d.count (ports s)
  | .core => min d.count (cores s)
  | .fn => min d.count (fns s)

/-- The indices at which a register row covers an offset, and whether the variant has them; none when it does not. -/
def dimIdx (s : State) (off : Nat) (ds : List Dim) : Option (List Nat × Bool) :=
  match ds with
  | [] => if off = 0 then some ([], true) else none
  | d :: r =>
    let i := off / d.stride
    if i < d.count then
      match dimIdx s (off % d.stride) r with
      | some (l, p) => some (i :: l, p && decide (i < idxCount s d))
      | none => none
    else none

/-- The register at an offset: its fields, and whether the variant has it (R7). -/
def findReg (s : State) (rows : List RegRow) (a : Nat) : Option (RegRow × List Fld × Bool) :=
  match rows with
  | [] => none
  | r :: rs =>
    if a < r.base then findReg s rs a
    else
      match dimIdx s (a - r.base) r.dims with
      | some (l, p) => some (r, r.flds (l.getD 0 0) (l.getD 1 0) (l.getD 2 0), p)
      | none => findReg s rs a

/-- The register at offset `a` of PF0's map outside the bed windows' copies. -/
def regAt (s : State) (a : Nat) : Option (RegRow × List Fld × Bool) := findReg s regRows a

/-! ### The model's own: outputs and free values -/

/-- The state as a command finds it: what the previous command put out is gone. (In part DESIGN CHOICE, log entry 4.) -/
def fresh (s : State) : State := { s with out := [] }

/-- The state with one more output. (In part DESIGN CHOICE, log entry 4; DESIGN CHOICE, log entry 33.) -/
def emit (s : State) (o : Output) : State := { s with out := s.out ++ [o] }

/-- A free value below `n` (n at least 1): nothing in the model fixes it. (In part DESIGN CHOICE, log entry 4.) -/
def freeBelow (s : State) (n : Nat) : Nat := Config.freeNat s.freeCtr % n

/-- The state after one free value has been used. (In part DESIGN CHOICE, log entry 4.) -/
def useFree (s : State) : State := { s with freeCtr := s.freeCtr + 1 }

/-! ### Time (R208, R209) -/

/-- `num / den` rounded to the nearest integer, a tie to the even one; `den` positive. -/
def roundHalfEven (num den : Int) : Int :=
  let q := num.fdiv den
  let r := num.fmod den
  if 2 * r < den then q else if den < 2 * r then q + 1 else if q % 2 = 0 then q else q + 1

/-- The largest time value plus one, in units of 2^-16 ns. -/
def timeWrap : Nat := 2 ^ 48 * 1000000000 * 65536

/-- T(C + p/8) of R209 and R240 under given OFFSET, base and rate, in units of 2^-16 ns. -/
def timeOf (ofs base : Nat) (rate : Int) (c p : Nat) : Nat :=
  let delta := (c + 2 ^ 64 - base) % 2 ^ 64
  let e := roundHalfEven (((8 * delta + p : Nat) : Int) * (2 ^ 48 + rate) * 4) (8 * 5 * 2 ^ 32)
  (ofs + e.toNat) % timeWrap

/-- T at the present count, `p` eighths of a tick on. -/
def nowAt (s : State) (p : Nat) : Nat := timeOf s.time.ofs s.time.base s.time.rate s.time.c p

/-- T(C), in units of 2^-16 ns. -/
def now (s : State) : Nat := nowAt s 0

/-- SEC, NS and FRAC of a time value. -/
def secOf (u : Nat) : Nat := u / 65536 / 1000000000 % 2 ^ 48
def nsOf (u : Nat) : Nat := u / 65536 % 1000000000
def fracOf (u : Nat) : Nat := u % 65536

/-- TS of R217: (SEC · 10^9 + NS) mod 2^32. -/
def tsOf (u : Nat) : Nat := u / 65536 % 2 ^ 32

/-- The time value of SEC, NS and FRAC. -/
def mkTime (sec ns frac : Nat) : Nat := ((sec * 1000000000 + ns) * 65536 + frac) % timeWrap

/-- signed32 of R101 and R218. -/
def signed32 (a b : Nat) : Int := toSigned 32 (ofSigned 32 ((a : Int) - b))

/-- signed48 of R567. -/
def signed48 (a b : Nat) : Int := toSigned 48 (ofSigned 48 ((a : Int) - b))

/-- One TIME tick: what the block does while no command waits. The TIME domain runs in LOAD, JOIN, SERVICE and HOLDOVER
(R451); C then advances by 1 (R208). (In part DESIGN CHOICE, log entry 3.) -/
def idleTick (s : State) : State :=
  if 2 ≤ rd s MODE_STATUS.MODE then { s with time := { s.time with c := (s.time.c + 1) % 2 ^ 64, turns := (s.time.turns + (s.time.c + 1) / 2 ^ 64) % 5 } } else s

/-! ### Modes -/

/-- MODE_STATUS.MODE: 0 DORMANT, 1 SENTRY, 2 LOAD, 3 JOIN, 4 SERVICE, 5 HOLDOVER. -/
def mode (s : State) : Nat := rd s MODE_STATUS.MODE

/-- The line and host domains run: JOIN, SERVICE, HOLDOVER (R451). -/
def lineUp (s : State) : Bool := 3 ≤ mode s

/-- SERVICE or HOLDOVER. -/
def inService (s : State) : Bool := mode s = 4 || mode s = 5

/-- The pad group n is held (R444). -/
def padHeld (s : State) (n : Nat) : Bool := bitAt (rd s MODE_PAD.HOLD) n

/-! ### Events to the Rake, to functions and to Trowel cores -/

/-- A fault source reports an event (R407); the Rake takes it in RAKE_FAULT_EVENT. -/
def raise (s : State) (e : FaultEv) : State := { s with rakeIn := s.rakeIn ++ [{ e with cycle := s.time.c / 5 }] }

/-- A level condition ends (R416); the Rake takes it in LEVEL_CONDITION_END. -/
def endLevel (s : State) (e : FaultEv) : State := { s with rakeEnds := s.rakeEnds ++ [e] }

/-- A notification for function f (R502); the terminal writes it in NQ_ENTRY_WRITE. -/
def notify (s : State) (f ty arg : Nat) : State :=
  { s with nqIn := s.nqIn.upd f [] (· ++ [{ ty := ty, arg := arg, u := now s, valid := flag s TIME_STATUS.VALID }]) }

/-- The same notification for functions 0 to n - 1. -/
def notifyAll (s : State) (n ty arg : Nat) : State :=
  match n with
  | 0 => s
  | m + 1 => notify (notifyAll s m ty arg) m ty arg

/-- Is some pending event of a core admitted (R378)? -/
def Core.admitted (k : Core) : Bool := Nat.land k.evtPend k.evtMask ≠ 0

/-- A core's record after a pulse on event e (R377): a pending event stays pending and sets its EVT_OVR bit. -/
def Core.pulse (k : Core) (e : Nat) : Core :=
  if bitAt k.evtPend e then { k with evtOvr := Nat.lor k.evtOvr (2 ^ e) } else { k with evtPend := Nat.lor k.evtPend (2 ^ e) }

/-- Logical Trowel core n. -/
def coreAt (s : State) (n : Nat) : Core := s.cores.get n {}

/-- The state with a core's record replaced. -/
def putCore (s : State) (n : Nat) (k : Core) : State := { s with cores := s.cores.set n k {} }

/-- A pulse on Trowel event e reaches core n: a core that is not running records none (R377); a core in WAIT with an
admitted event goes on behind its WAIT (R378). -/
def pulseCore (s : State) (e n : Nat) : State :=
  let st := rd s (TROWEL_CORE_STATUS.STATE n)
  if st = 1 then putCore s n ((coreAt s n).pulse e)
  else if st = 2 then
    let k := (coreAt s n).pulse e
    if k.admitted then putCore (wr s (TROWEL_CORE_STATUS.STATE n) 1) n { k with pc := (k.pc + 4) % 2 ^ 32 } else putCore s n k
  else s

/-- A pulse on Trowel event e in cores 0 to n - 1, in ascending order. -/
def pulseFrom (s : State) (e n : Nat) : State := (List.range n).foldl (fun t m => pulseCore t e m) s

/-- A pulse on Trowel event e by the block that owns it (R376). -/
def pulse (s : State) (e : Nat) : State := pulseFrom s e (cores s)

/-- A pulse by a source that names its event: 56 to 63 pulse nothing (R376). -/
def pulseNamed (s : State) (e : Nat) : State := if e ≤ 55 then pulse s e else s

/-! ### Clock domains (R451) -/

/-- The state of clock domain d in LOAD, JOIN, and SERVICE or HOLDOVER: 0 RUN, 1 SLEEP, 2 DEEP (R451). -/
def domTable : List (Nat × Nat × Nat) :=
  [(0, 0, 0), (0, 0, 0), (2, 0, 0), (2, 0, 0), (2, 0, 0), (2, 0, 0), (1, 1, 0), (1, 1, 0), (0, 0, 0), (0, 0, 0), (1, 0, 0),
   (0, 0, 0), (2, 0, 0), (1, 0, 0), (2, 1, 0), (0, 0, 0), (0, 0, 0), (0, 0, 0), (0, 0, 0), (0, 0, 0), (2, 0, 0), (0, 1, 1),
   (0, 0, 0), (0, 0, 0), (0, 0, 0), (0, 0, 0)]

/-- The state of domain d in mode m; 3 is off. -/
def domState (m d : Nat) : Nat :=
  let t := domTable.getD d (0, 0, 0)
  match m with
  | 0 => if d = 25 then 0 else 3
  | 1 => if d = 25 then 0 else 3
  | 2 => t.1
  | 3 => t.2.1
  | _ => t.2.2

/-! ### Spares and golden shadows (R36, R421, R422) -/

/-- The pool of spares, and the golden shadow, that a unit belongs to: its class and the scope of R36. -/
def poolOf (u : RUnit) : Nat :=
  match u.cls with
  | .lrx => 0
  | .ltx => 65536
  | .cipher => 2 * 65536
  | .trowel => 3 * 65536
  | .bank => 4 * 65536
  | .parser => 5 * 65536 + u.idx / 16
  | .reshuf => 6 * 65536 + u.idx / 16
  | .lane => 7 * 65536 + u.idx / 34
  | .table => 8 * 65536

/-- A unit's code in the generation table. -/
def RUnit.code (u : RUnit) : Nat := poolOf u / 65536 * 65536 + u.idx

/-- The spares of a pool when nothing has been grafted (R3, R36). -/
def allSpares (s : State) (pool : Nat) : List Nat :=
  let i := pool % 65536
  match pool / 65536 with
  | 0 => (List.range (spares s)).map (64 + ·)
  | 1 => (List.range (spares s)).map (64 + ·)
  | 2 => (List.range (spares s)).map (64 + ·)
  | 3 => if s.fuses.variant = 2 then [12] else [12, 13]
  | 4 => (List.range (if s.fuses.variant = 2 then 2 else 8)).map (128 + ·)
  | 5 => [16 * i + 15]
  | 6 => [16 * i + 15]
  | 7 => [34 * i + 32, 34 * i + 33]
  | _ => []

/-- The free spares of a pool, lowest first. -/
def freeSpares (s : State) (pool : Nat) : List Nat := (s.rake.free.find pool).getD (allSpares s pool)

/-- The free spares of a pool replaced, and the register that counts them. -/
def setFree (s : State) (pool : Nat) (l : List Nat) : State :=
  let s1 := { s with rake := { s.rake with free := s.rake.free.insert pool l } }
  match pool / 65536 with
  | 0 => wr s1 LINE_SPARES.RX_FREE l.length
  | 1 => wr s1 LINE_SPARES.TX_FREE l.length
  | 2 => wr s1 CIPHER_STATUS.SPARES_FREE l.length
  | 3 => wr s1 TROWEL_STATUS.SPARES_FREE l.length
  | 4 => wr s1 RAKE_STATUS.BANKS_FREE l.length
  | 7 => wr s1 (HL_BED.SPARES_FREE (pool % 65536)) l.length
  | _ => s1

/-- A shadow's generation, 1 from the entry to LOAD (R424). -/
def shadowGen (s : State) (pool : Nat) : Nat := s.rake.shadow.get pool 1

/-- The clock domain of a unit (R451). -/
def RUnit.domain (u : RUnit) : Nat :=
  match u.cls with
  | .lrx => 3
  | .ltx => 4
  | .cipher => 10
  | .trowel => 15
  | .bank => 9
  | .parser => if u.idx / 32 % 2 = 0 then 6 else 7
  | .reshuf => if u.idx / 32 % 2 = 0 then 6 else 7
  | .lane => 12
  | .table => 8

/-- The unit has no power in the present mode: its domain is in DEEP, or off. (In part DESIGN CHOICE, log entry 15.) -/
def unitDown (s : State) (u : RUnit) : Bool := 2 ≤ domState (mode s) u.domain

/-- The clock domain of the units of a golden shadow. -/
def poolDomain (pool : Nat) : Nat :=
  match pool / 65536 with
  | 0 => 3
  | 1 => 4
  | 2 => 10
  | 3 => 15
  | 4 => 9
  | 5 => if pool % 65536 / 2 % 2 = 0 then 6 else 7
  | 6 => if pool % 65536 / 2 % 2 = 0 then 6 else 7
  | 7 => 12
  | _ => 8

/-- The units of a golden shadow sleep or have no power in the present mode (R451): none of them is in service. -/
def poolIdle (s : State) (pool : Nat) : Bool := domState (mode s) (poolDomain pool) ≠ 0

/-- A unit's generation (R421, R422): none without power, its own while it is out of service, 0 for a spare that waits, and
what it held when it fell asleep; a unit in service follows its shadow. -/
def unitGen (s : State) (u : RUnit) : Nat :=
  if unitDown s u then 0
  else
    match s.rake.gen.find u.code with
    | some g => g
    | none =>
      if (freeSpares s (poolOf u)).contains u.idx then 0
      else if poolIdle s (poolOf u) then s.rake.slept.get (poolOf u) (shadowGen s (poolOf u))
      else shadowGen s (poolOf u)

/-- A unit out of service with its generation. -/
def setGen (s : State) (u : RUnit) (g : Nat) : State := { s with rake := { s.rake with gen := s.rake.gen.insert u.code g } }

/-- A unit is in service: its generation is its shadow's from now on (R421). -/
def followShadow (s : State) (u : RUnit) : State := { s with rake := { s.rake with gen := s.rake.gen.erase u.code } }

/-- The units of a shadow that are out of service: fenced, waiting as spares, or coming in by a graft or a scrub. -/
def outUnits (s : State) (pool : Nat) : List Nat :=
  ((s.rake.fenced.filter fun f => poolOf f.unit = pool).map fun f => f.unit.code) ++
    ((freeSpares s pool).map fun i => pool / 65536 * 65536 + i) ++
    ((s.rake.grafts.filter fun g => poolOf g.spare = pool).map fun g => g.spare.code)

/-- The state of a golden shadow changes (R422): its generation rises while a unit of it is out of service; at the wrap
the units out of service lose theirs. Units that sleep are out of service and keep what they hold. -/
def touchShadow (s : State) (pool : Nat) : State :=
  let out := outUnits s pool
  let idle := poolIdle s pool
  if out.isEmpty && !idle then s
  else
    let g := shadowGen s pool
    let held := if idle then s.rake.slept.insert pool (if g = 0xFFFF then 0 else s.rake.slept.get pool g) else s.rake.slept
    if g = 0xFFFF then
      { s with rake := { s.rake with
          shadow := s.rake.shadow.insert pool 1
          gen := out.foldl (fun t c => t.insert c 0) s.rake.gen
          slept := held } }
    else { s with rake := { s.rake with shadow := s.rake.shadow.insert pool (g + 1), slept := held } }

/-- The pool of the table banks, whose golden shadow is the endpoint table's (R425). -/
def tablePool : Nat := 8 * 65536

end Sys2Proof.Machine
end

