-- ==== Sys2Proof/Machine/Operands.lean ====
section
/-!
DEFINITION. The operand forms of the Trowel instructions: registers and windows, instruction words and which of them are
legal, traps, protection, system registers and addresses (R348 to R358, R365 to R367, R379 to R382).
-/

namespace Sys2Proof.Machine

/-! ### Words and registers (R348 to R353) -/

/-- The 32-bit word of an unbounded value. -/
def w32 (v : Nat) : Nat := v % 2 ^ 32

/-- `v` with the `w` bits from `lo` replaced. -/
def putBits (v lo w x : Nat) : Nat := v - bits v lo w * 2 ^ lo + x % 2 ^ w * 2 ^ lo

/-- STATUS.TRAP, IE, SAT, CWP, DEPTH and the carry (R350). -/
def Core.trapMode (k : Core) : Bool := bitAt k.status 31
def Core.ie (k : Core) : Bool := bitAt k.status 30
def Core.sat (k : Core) : Bool := bitAt k.status 29
def Core.cwp (k : Core) : Nat := bits k.status 26 3
def Core.depth (k : Core) : Nat := bits k.status 23 3
def Core.carry (k : Core) : Nat := bits k.status 2 1

/-- A bit of STATUS set or cleared. -/
def Core.setSt (k : Core) (i : Nat) (b : Bool) : Core := { k with status := putBits k.status i 1 (b2n b) }

/-- A sticky bit of STATUS raised. -/
def Core.stick (k : Core) (i : Nat) (b : Bool) : Core := if b then k.setSt i true else k

/-- The physical place of register W`r` in window `c`: W12 to W15 of window i are W0 to W3 of window (i + 1) mod 7, and
window 7 shares nothing. -/
def winIdx (c r : Nat) : Nat :=
  if c = 7 then 84 + r else if r < 12 then 12 * c + r else 12 * ((c + 1) % 7) + (r - 12)

/-- The value of the register that a specifier names (R348). -/
def Core.reg (k : Core) (r : Nat) : Nat :=
  w32 (if r < 16 then k.win.get (winIdx k.cwp r) 0 else if r < 24 then k.k.get (r - 16) 0 else 0)

/-- A register written; Z discards the write (R348). -/
def Core.setReg (k : Core) (r v : Nat) : Core :=
  if r < 16 then { k with win := k.win.set (winIdx k.cwp r) (w32 v) 0 }
  else if r < 24 then { k with k := k.k.set (r - 16) (w32 v) 0 }
  else k

/-- The signed reading of a register. -/
def Core.sreg (k : Core) (r : Nat) : Int := toSigned 32 (k.reg r)

/-- A specifier that R348 does not reserve. -/
def okReg (r : Nat) : Bool := r < 24 || r = 31

/-- The core with its PC moved past the present instruction. -/
def Core.adv (k : Core) : Core := { k with pc := w32 (k.pc + 4) }

/-- A branch target: PC + 4 · OFS of `w` bits (R366). -/
def Core.target (k : Core) (w off : Nat) : Nat := ofSigned 32 ((k.pc : Int) + 4 * toSigned w off)

/-! ### Instruction words (R366) -/

def wordR (op d a b fn : Nat) : Nat := op * 2 ^ 26 + d * 2 ^ 21 + a * 2 ^ 16 + b * 2 ^ 11 + fn
def wordI (op d a imm : Nat) : Nat := op * 2 ^ 26 + d * 2 ^ 21 + a * 2 ^ 16 + imm
def wordM (op x f a b : Nat) : Nat := op * 2 ^ 26 + x * 2 ^ 25 + f * 2 ^ 21 + a * 2 ^ 16 + b * 2 ^ 11
def wordA (fn x y reg imm : Nat) : Nat := 0x24 * 2 ^ 26 + x * 2 ^ 25 + y * 2 ^ 24 + reg * 2 ^ 19 + imm * 2 ^ 13 + fn
def wordS (fn n : Nat) : Nat := 0x32 * 2 ^ 26 + n * 2 ^ 20 + fn
def wordV (op r sys : Nat) : Nat :=
  op * 2 ^ 26 + (if op = 0x30 then r * 2 ^ 21 else r * 2 ^ 16) + sys * 2 ^ 8

/-! ### What an instruction does to its core -/

/-- The outcome of one instruction on its core: it goes on, it raises a trap (R354, R355), or its window collapses
(R357). -/
inductive CoreOut where
  | next (k : Core)
  | trap (cause detail addr : Nat)
  | collapse
  deriving DecidableEq, Repr

/-- The ILLEGAL trap (R367). -/
def illegal (w : Nat) : CoreOut := .trap 3 0 (w32 w)

/-- The PRIV trap (R355). -/
def privTrap (w : Nat) : CoreOut := .trap 4 0 (w32 w)

/-- An instruction over registers: ILLEGAL unless its specifiers are good. -/
def guardRegs (rs : List Nat) (w : Nat) (o : CoreOut) : CoreOut := if rs.all okReg then o else illegal w

/-- Trap entry (R354): `tpc` is the address it saves. -/
def Core.enterTrap (k : Core) (cause detail addr tpc : Nat) : Core :=
  { k with
    tpc := tpc, tstatus := k.status, tcause := detail * 256 + cause, taddr := w32 addr,
    status := putBits (putBits (putBits k.status 31 1 1) 30 1 0) 26 3 7, pc := w32 (k.vbase + 0x40 * cause) }

/-- Return from a trap (R356); the reserved bits of STATUS stay 0. (In part DEDUCED, log entry 26.) -/
def Core.ret (k : Core) : Core := { k with status := k.tstatus - bits k.tstatus 8 15 * 256, pc := k.tpc }

/-! ### Protection (R379, R381, R382) -/

/-- The rights of R381. -/
inductive Right where
  | fetch | store | load
  deriving DecidableEq, Repr

def Right.bit : Right → Nat
  | .fetch => 2
  | .store => 1
  | .load => 0

/-- A byte of the map of R379. -/
def mapped (a : Nat) : Bool :=
  a < 0x40000 || (0x100000 ≤ a && a < 0x180000) || (0x400000 ≤ a && a < 0x801000) || (0x10000000 ≤ a && a < 0x13000000)

/-- Instruction, data and common memory: the parts of the map that take accesses of every size. -/
def plainMem (a : Nat) : Bool :=
  a < 0x40000 || (0x100000 ≤ a && a < 0x180000) || (0x400000 ≤ a && a < 0x800000)

def isDev (a : Nat) : Bool := 0x10000000 ≤ a && a < 0x13000000

/-- Does some region give a task this right to byte `a` (R381)? -/
def Core.granted (k : Core) (r : Right) (a : Nat) : Bool :=
  (List.range 8).any fun i =>
    let lim := k.prl.get i 0
    bitAt lim r.bit && k.prb.get i 0 ≤ a && a < bits lim 6 26 * 64

/-- May this byte be accessed so: by the map's permitted uses, and in task mode by the regions? `word` tells an aligned
32-bit access, the only one that the assist and the device registers permit. -/
def Core.mayByte (k : Core) (r : Right) (word : Bool) (a : Nat) : Bool :=
  (match r with
    | .fetch => decide (a < 0x40000)
    | _ => plainMem a || (mapped a && word)) && (k.trapMode || k.granted r a)

/-- The bytes of an access. -/
def span (a n : Nat) : List Nat := (List.range n).map fun i => w32 (a + i)

/-- The DETAIL of the ACCESS trap that an access raises, if it raises one (R355, R382). -/
def Core.accessDetail (k : Core) (r : Right) (word : Bool) (a n : Nat) : Option Nat :=
  let bs := span a n
  if bs.all (fun x => mapped x && k.mayByte r word x) then none
  else if bs.any (fun x => !mapped x) then some 1
  else if k.mayByte r word (w32 a) then some 3
  else some 2

/-- The check of a load or store of `n` bytes: ALIGN for a device register, then ACCESS (R355, R383). -/
def Core.memCheck (k : Core) (r : Right) (a n : Nat) : Option CoreOut :=
  if isDev a && a % 4 ≠ 0 then some (.trap 6 0 a)
  else
    match k.accessDetail r (a % 4 = 0 && 4 ≤ n) a n with
    | some d => some (.trap 5 d a)
    | none => none

/-- The check of the fetch at PC (R355, R369, R379). -/
def Core.fetchCheck (k : Core) : Option CoreOut :=
  if k.pc % 4 ≠ 0 then some (.trap 6 0 k.pc)
  else
    match k.accessDetail .fetch true k.pc 4 with
    | some d => some (.trap 5 d k.pc)
    | none => none

/-! ### System registers (R350, R351) -/

/-- Is a system register listed? -/
def sysListed (i : Nat) : Bool := i ≤ 27 || (32 ≤ i && i ≤ 47)

/-- Is any access to it in task mode trapped? -/
def sysTrap (i : Nat) : Bool := (2 ≤ i && i ≤ 6) || 32 ≤ i

/-- The value of a system register, CYCLE_LO apart. (In part DEDUCED, log entry 10.) -/
def Core.sysGet (k : Core) (n i : Nat) : Nat :=
  if i = 0 then k.status else if i = 1 then k.scale else if i = 2 then k.tpc else if i = 3 then k.tstatus
  else if i = 4 then k.tcause else if i = 5 then k.taddr else if i = 6 then k.vbase else if i = 7 then n
  else if i < 12 then k.cbBase.get (i - 8) 0 else if i < 16 then k.cbLen.get (i - 12) 0
  else if i = 16 then ofSigned 32 k.accA else if i = 17 then ofSigned 32 (k.accA.fdiv (2 ^ 32))
  else if i = 18 then ofSigned 32 k.accB else if i = 19 then ofSigned 32 (k.accB.fdiv (2 ^ 32))
  else if i = 21 then k.cycHi
  else if i = 22 then bits k.evtPend 0 32 else if i = 23 then bits k.evtPend 32 32
  else if i = 24 then bits k.evtMask 0 32 else if i = 25 then bits k.evtMask 32 32
  else if i = 26 then bits k.evtOvr 0 32 else if i = 27 then bits k.evtOvr 32 32
  else if i < 40 then k.prb.get (i - 32) 0 else k.prl.get (i - 40) 0

/-- The bits of STATUS that MSV changes (R350). -/
def Core.msvStatus (k : Core) (v : Nat) : Nat :=
  let s1 := putBits (putBits k.status 0 8 (bits v 0 8)) 29 1 (bits v 29 1)
  if k.trapMode then putBits s1 30 1 (bits v 30 1) else s1

/-- A system register written by MSV; a register that R351 only lets firmware read ignores the write. (In part DESIGN CHOICE, log entry 45.) -/
def Core.sysSet (k : Core) (i v : Nat) : Core :=
  if i = 0 then { k with status := k.msvStatus v }
  else if i = 1 then { k with scale := bits v 31 1 * 2 ^ 31 + bits v 24 4 * 2 ^ 24 + bits k.scale 16 4 * 2 ^ 16 + bits v 0 16 }
  else if i = 2 then { k with tpc := v } else if i = 3 then { k with tstatus := v }
  else if i = 4 then { k with tcause := bits v 0 16 } else if i = 5 then { k with taddr := v }
  else if i = 6 then { k with vbase := bits v 12 20 * 4096 }
  else if i = 7 then k
  else if i < 12 then { k with cbBase := k.cbBase.set (i - 8) v 0 }
  else if i < 16 then { k with cbLen := k.cbLen.set (i - 12) (bits v 0 20) 0 }
  else if i = 16 then { k with accA := toSigned 40 (putBits (ofSigned 40 k.accA) 0 32 v) }
  else if i = 17 then { k with accA := toSigned 40 (putBits (ofSigned 40 k.accA) 32 8 v) }
  else if i = 18 then { k with accB := toSigned 40 (putBits (ofSigned 40 k.accB) 0 32 v) }
  else if i = 19 then { k with accB := toSigned 40 (putBits (ofSigned 40 k.accB) 32 8 v) }
  else if i < 24 then k
  else if i = 24 then { k with evtMask := putBits k.evtMask 0 32 v }
  else if i = 25 then { k with evtMask := putBits k.evtMask 32 32 v }
  else if i = 26 then { k with evtOvr := k.evtOvr - Nat.land k.evtOvr v }
  else if i = 27 then { k with evtOvr := k.evtOvr - Nat.land k.evtOvr (v * 2 ^ 32) }
  else if i < 40 then { k with prb := k.prb.set (i - 32) (bits v 6 26 * 64) 0 }
  else { k with prl := k.prl.set (i - 40) (bits v 6 26 * 64 + bits v 0 3) 0 }

/-! ### Circular addressing and access modes (R365, R370) -/

/-- The address of a load or store with low bits `m` = MODE, CB, OFS12, and the value that its base register takes. -/
def Core.address (k : Core) (a m : Nat) : Except CoreOut (Nat × Option Nat) :=
  let ofs := toSigned 12 (bits m 0 12)
  let wa := k.reg a
  match bits m 14 2 with
  | 0 => .ok (ofSigned 32 ((wa : Int) + ofs), none)
  | 1 => .ok (wa, some (ofSigned 32 ((wa : Int) + ofs)))
  | _ =>
    let base := k.cbBase.get (bits m 12 2) 0
    let len := k.cbLen.get (bits m 12 2) 0
    if len = 0 ∨ wa < base ∨ base + len ≤ wa then .error (.trap 7 0 wa)
    else .ok (wa, some (w32 (base + ((((wa - base : Nat) : Int) + ofs).fmod len).toNat)))

/-- Is the operand combination of a load or store good (R370)? `n` is the width in bytes; `load` tells a load. -/
def lOk (load : Bool) (d a m n : Nat) : Bool :=
  let mode := bits m 14 2
  okReg d && okReg a && mode ≠ 3 && !(1 ≤ mode && a = 31)
    && !(load && 1 ≤ mode && (a = d || (n = 8 && a = d + 1)))
    && !(n = 8 && (d % 2 = 1 || (load && 23 ≤ d)))

/-! ### Which words are legal (R366, R367) -/

/-- Is a word an encoding that R367 calls illegal? -/
def illegalWord (w : Nat) : Bool :=
  let op := bits w 26 6
  let d := bits w 21 5
  let a := bits w 16 5
  let b := bits w 11 5
  let fn := bits w 0 11
  let imm := bits w 0 16
  let im6 := bits w 13 6
  let reg := bits w 19 5
  let y := bits w 24 1
  !(match op with
    | 0x01 => okReg d && okReg a && okReg b && fn ≤ 0x0D
    | 0x02 => okReg d && okReg a
    | 0x03 => okReg d && okReg a
    | 0x04 => okReg d && okReg a
    | 0x05 => okReg d && okReg a
    | 0x06 => okReg d && a = 0
    | 0x07 => okReg d && okReg a && bits imm 14 2 ≠ 3 && bits imm 5 9 = 0
    | 0x08 => okReg d && okReg a
    | 0x09 => okReg d && okReg a
    | 0x0A => okReg d && okReg a
    | 0x0B => okReg d && okReg a
    | 0x0C => okReg d && okReg a
    | 0x0D => okReg d && okReg a
    | 0x0E => true
    | 0x0F => true
    | 0x10 => okReg a && d = 0 && b = 0 && fn = 0
    | 0x11 => okReg a && d = 0 && b = 0 && fn = 0
    | 0x12 => bits w 0 26 = 0
    | 0x14 => lOk true d a imm 1
    | 0x15 => lOk true d a imm 1
    | 0x16 => lOk true d a imm 2
    | 0x17 => lOk true d a imm 2
    | 0x18 => lOk true d a imm 4
    | 0x19 => lOk true d a imm 8
    | 0x1A => lOk false d a imm 1
    | 0x1B => lOk false d a imm 2
    | 0x1C => lOk false d a imm 4
    | 0x1D => lOk false d a imm 8
    | 0x1E => okReg d && okReg a && okReg b && fn = 0
    | 0x20 => okReg a && okReg b && fn = 0
    | 0x21 => okReg a && okReg b && fn = 0
    | 0x22 => okReg a && okReg b && fn = 0
    | 0x23 => okReg a && okReg b && fn = 0 && bits w 23 3 = 0
    | 0x24 =>
      bits w 6 7 = 0 &&
      (match bits w 0 6 with
        | 0 => y = 0 && reg = 0 && im6 = 0
        | 1 => reg = 0 && im6 = 0
        | 2 => reg = 0 && im6 = 0
        | 3 => reg = 0 && im6 = 0
        | 4 => y = 0 && reg = 0 && im6 ≤ 39
        | 5 => y = 0 && reg = 0
        | 6 => y = 0 && reg = 0
        | 7 => y = 0 && okReg reg && im6 ≤ 8
        | 8 => y = 0 && okReg reg && im6 ≤ 8
        | 9 => y = 0 && okReg reg && im6 = 0
        | 10 => y = 0 && reg = 0 && im6 = 0
        | _ => false)
    | 0x28 => okReg d && okReg a && okReg b && fn ≤ 1 && d % 2 = 0 && a % 2 = 0
    | 0x30 => okReg d && a = 0 && bits w 0 8 = 0 && sysListed (bits w 8 8)
    | 0x31 => okReg a && d = 0 && bits w 0 8 = 0 && sysListed (bits w 8 8)
    | 0x32 =>
      bits w 6 14 = 0 &&
      (match bits w 0 6 with
        | 0 => bits w 20 6 = 0
        | 1 => true
        | 2 => bits w 20 6 = 0
        | 3 => bits w 20 6 = 0
        | 4 => true
        | 5 => true
        | 6 => bits w 20 6 = 0
        | 7 => bits w 20 6 = 0
        | 8 => bits w 20 6 = 0
        | 9 => bits w 20 6 = 0
        | _ => false)
    | _ => false)

/-- The command that a legal instruction word is on logical core `n` (R366, R368 to R372); none for a
word that R367 calls illegal. -/
def trowelCommand (n w : Nat) : Option Instr :=
  let d := bits w 21 5
  let a := bits w 16 5
  let b := bits w 11 5
  let imm := bits w 0 16
  let im6 := bits w 13 6
  let reg := bits w 19 5
  let x := bits w 25 1
  let y := bits w 24 1
  let f := bits w 21 4
  let num := bits w 20 6
  let sys := bits w 8 8
  if illegalWord w then none
  else
    match bits w 26 6 with
    | 0x01 =>
      match bits w 0 11 with
      | 0x00 => some (.trwAdd n d a b)
      | 0x01 => some (.trwAddc n d a b)
      | 0x02 => some (.trwSub n d a b)
      | 0x03 => some (.trwSubb n d a b)
      | 0x04 => some (.trwAnd n d a b)
      | 0x05 => some (.trwOr n d a b)
      | 0x06 => some (.trwXor n d a b)
      | 0x07 => some (.trwSll n d a b)
      | 0x08 => some (.trwSrl n d a b)
      | 0x09 => some (.trwSra n d a b)
      | 0x0A => some (.trwMin n d a b)
      | 0x0B => some (.trwMax n d a b)
      | 0x0C => some (.trwMul n d a b)
      | _ => some (.trwCls n d a)
    | 0x02 => some (.trwAddi n d a imm)
    | 0x03 => some (.trwAndi n d a imm)
    | 0x04 => some (.trwOri n d a imm)
    | 0x05 => some (.trwXori n d a imm)
    | 0x06 => some (.trwLui n d imm)
    | 0x07 => some (.trwShi n d a imm)
    | 0x08 => some (.trwBeq n d a imm)
    | 0x09 => some (.trwBne n d a imm)
    | 0x0A => some (.trwBlt n d a imm)
    | 0x0B => some (.trwBge n d a imm)
    | 0x0C => some (.trwBltu n d a imm)
    | 0x0D => some (.trwBgeu n d a imm)
    | 0x0E => some (.trwJmp n (bits w 0 26))
    | 0x0F => some (.trwCall n (bits w 0 26))
    | 0x10 => some (.trwJr n a)
    | 0x11 => some (.trwCallr n a)
    | 0x12 => some (.trwRet n)
    | 0x14 => some (.trwLdB n d a imm)
    | 0x15 => some (.trwLdBu n d a imm)
    | 0x16 => some (.trwLdH n d a imm)
    | 0x17 => some (.trwLdHu n d a imm)
    | 0x18 => some (.trwLdW n d a imm)
    | 0x19 => some (.trwLdD n d a imm)
    | 0x1A => some (.trwStB n d a imm)
    | 0x1B => some (.trwStH n d a imm)
    | 0x1C => some (.trwStW n d a imm)
    | 0x1D => some (.trwStD n d a imm)
    | 0x1E => some (.trwCas n d a b)
    | 0x20 => some (.trwMpy n x a b f)
    | 0x21 => some (.trwMac n x a b f)
    | 0x22 => some (.trwMsu n x a b f)
    | 0x23 => some (.trwMac2 n a b f)
    | 0x24 =>
      match bits w 0 6 with
      | 0 => some (.trwAclr n x)
      | 1 => some (.trwAmov n x y)
      | 2 => some (.trwAadd n x y)
      | 3 => some (.trwAsub n x y)
      | 4 => some (.trwAshl n x im6)
      | 5 => some (.trwAshr n x im6)
      | 6 => some (.trwAshrr n x im6)
      | 7 => some (.trwAaddw n x reg im6)
      | 8 => some (.trwAldw n x reg im6)
      | 9 => some (.trwMva n reg x)
      | _ => some (.trwAneg n x)
    | 0x28 => some (.trwDivq n d a b (bits w 0 11 = 0))
    | 0x30 => some (.trwMvs n d sys)
    | 0x31 => some (.trwMsv n sys a)
    | 0x32 =>
      match bits w 0 6 with
      | 0 => some (.trwNop n)
      | 1 => some (.trwTrap n num)
      | 2 => some (.trwRett n)
      | 3 => some (.trwWait n)
      | 4 => some (.trwEvclr n num)
      | 5 => some (.trwSev n num)
      | 6 => some (.trwHalt n)
      | 7 => some (.trwBreak n)
      | 8 => some (.trwSpillw n)
      | _ => some (.trwFillw n)
    | _ => none

end Sys2Proof.Machine
end

