-- ==== Sys2Proof/Decode.lean ====
section
/-!
DEFINITION. The command that a word spells: opcode_table.json gives no row any bits, and R366 gives the Trowel instructions' words.
-/

namespace Sys2Proof

/-- The command that `nbits` bits of `w` spell: a Trowel instruction word, of the logical core that the bits above its 32 number. (In part DESIGN CHOICE, log entry 2.) -/
def decodeTableWord (nbits w : Nat) : Option Instr :=
  if 32 ≤ nbits then Machine.trowelCommand (Machine.bits w 32 4) w else none

end Sys2Proof
end

