-- ==== Sys2Proof/Machine/OpsMgmt.lean ====
section
/-!
DEFINITION. Features, holes, access rights, function resets and the console UART: the shared operations of chapter 16.
-/

namespace Sys2Proof.Machine

/-! ### Features and holes (R486, R496, R497) -/

/-- Feature bit `bit` is in force for function f (R496). (In part DEDUCED, log entry 13.) -/
def featOn (s : State) (f bit : Nat) : Bool := bitAt (rd s (NEGOTIATED.V f (bit / 32))) (bit % 32)

/-- DEV_FEATURES_i of function f (R497). -/
def devFeat (s : State) (f i : Nat) : Nat :=
  match i with
  | 0 => 0x67 + (if f = 0 then 0 else 8 + 16 * rd s (MGMT_BED.TENANT_RESET_EN (f - 1)))
  | 3 => 0x80000000
  | _ => 0

/-- Function f beside its registers. -/
def fnAt (s : State) (f : Nat) : FnSt := s.mgmt.fns.get f {}
def putFn (s : State) (f : Nat) (x : FnSt) : State := { s with mgmt := { s.mgmt with fns := s.mgmt.fns.set f x {} } }

/-- AER keeps an error of function f. -/
def aerSet (s : State) (f : Nat) (e : AerErr) : State :=
  let x := fnAt s f
  putFn s f { x with aer := if x.aer.contains e then x.aer else x.aer ++ [e] }

/-- An access of function f to a hole (R486). -/
def hole (s : State) (f : Nat) : State :=
  if f < fns s then
    let s1 := bump s (FN_STATUS.HOLES f) 1
    if featOn s f 5 then emit (aerSet s1 f .unsupported) (.unsupported f) else s1
  else s

/-! ### The configuration space (R483, R484) -/

/-- A base address register: 64-bit or 32-bit, prefetchable or not. -/
structure PciBar where
  size : Nat
  bits64 : Bool
  prefetch : Bool
  deriving DecidableEq, Repr

/-- The extended capabilities of R483. -/
inductive ExtCap where
  | aer
  | ari
  | serialNumber (n : Nat)
  deriving DecidableEq, Repr

/-- What a function's configuration space holds beside what the host sets. -/
structure PciConfig where
  vendor : Nat
  device : Nat
  revision : Nat
  classCode : Nat
  bar0 : PciBar
  bar2 : PciBar
  msixVectors : Nat
  msixTable : Nat × Nat            -- BAR and offset
  msixPba : Nat × Nat
  powerStates : List String        -- power management: D0 and D3hot
  noSoftReset : Bool
  endpoint : Bool                  -- PCI Express capability
  flr : Bool
  maxPayload : Nat                 -- bytes
  tags10 : Bool
  extCaps : List ExtCap
  deriving DecidableEq, Repr

/-- The configuration space of every function. -/
def pciConfig (s : State) : PciConfig :=
  { vendor := Config.pciVendor % 65536, device := 0x7720, revision := rd s DEV_IDENT.STEPPING, classCode := 0x028000
    bar0 := { size := 2 ^ 26, bits64 := true, prefetch := false }, bar2 := { size := 4096, bits64 := true, prefetch := false }
    msixVectors := 1, msixTable := (2, 0), msixPba := (2, 0x800)
    powerStates := ["D0", "D3hot"], noSoftReset := true, endpoint := true, flr := true, maxPayload := 512, tags10 := true
    extCaps := [.aer, .ari, .serialNumber s.fuses.serial] }

/-- The pending bit array in function f's BAR2. -/
def msixPba (s : State) (f : Nat) : Nat := b2n (fnAt s f).msixPend

/-- An access to a register of PF0's map: a tenant function finds a hole there (R485, R490). -/
def forPf0 (src : Src) (s : State) (k : State → State) : State :=
  match src with
  | .pf (f + 1) => hole s (f + 1)
  | _ => k s

/-! ### The mailbox (R503, R504) -/

/-- The mailbox of function f ends its request with a status, and says so (R502). (In part DESIGN CHOICE, log entry 17.) -/
def mbxEnd (s : State) (f st : Nat) : State :=
  let s1 := setFlag (setFlag s (MBX_CTRL.BUSY f) false) (MBXF_CTRL.PEND f) false
  notify (wr s1 (MBX_CTRL.STATUS f) st) f 5 st

/-! ### Function resets (R493) -/

/-- The registers of function f's management set that a function reset returns to reset, and for a tenant the mirrors and
the bed ring of its window: all but DEV_FEATURES, BEDM_CTRL and what follows the set. -/
def fnOwn (f addr : Nat) : Bool :=
  (decide (fnBase f + 0x10 ≤ addr) && decide (addr < fnBase f + 0x300)) ||
    (f ≠ 0 && decide (bedBase (f - 1) ≤ addr) && decide (addr < fnBase f))

/-- The state of a function that every function reset covers; a pending mailbox request is cancelled. -/
def fnClear (s : State) (f : Nat) : State :=
  let x := fnAt s f
  let s1 := { s with
    regs := s.regs.keep fun k => !fnOwn f (k / 8)
    rake := { s.rake with bed := if f = 0 then s.rake.bed else s.rake.bed.erase (f - 1) }
    time := { s.time with shot := s.time.shot.erase f } }
  putFn (setFlag s1 (MBXF_CTRL.PEND f) false) f { cfg := x.cfg, msixPend := x.msixPend, aer := x.aer }

/-! ### The console UART (R510 to R513) -/

/-- UART_STATUS shows the FIFOs. -/
def showUart (s : State) : State :=
  let s1 := wr (wr s UART_STATUS.RX_LEVEL s.mgmt.rx.length) UART_STATUS.TX_FREE (64 - s.mgmt.tx.length)
  setFlag (setFlag s1 UART_STATUS.TX_IDLE s.mgmt.tx.isEmpty) UART_STATUS.RX_AVAIL (!s.mgmt.rx.isEmpty)

end Sys2Proof.Machine
end

