-- ==== Sys2Proof/Machine/Codes.lean ====
section
/-!
DEFINITION. The check codes of the Yaldy line and of Ethernet: CRC-16 of R90, CRC-32C of R110, CRC-32 of IEEE 802.3; the
two FEC codes of R53 and R55 with their decoders (R54, R57), the pilots of R56 and the symbol maps of R51 and R52.
-/

namespace Sys2Proof.Machine

/-- A most-significant-first CRC of width `w` with polynomial `poly`, from value `c` over bits. -/
def crcMsb (w poly : Nat) (l : List Bool) (c : Nat) : Nat :=
  match l with
  | [] => c
  | b :: r =>
    if xor (bitAt c (w - 1)) b then crcMsb w poly r (Nat.xor (2 * c % 2 ^ w) poly) else crcMsb w poly r (2 * c % 2 ^ w)

/-- R90: CRC-16, x^16 + x^12 + x^5 + 1, initial value 0xFFFF, most significant bit first, no reflection, no final XOR. -/
def crc16 (l : List Byte) : Nat := crcMsb 16 0x1021 (bytesBits l) 0xFFFF

/-- A reflected CRC, `poly` reversed, from value `c` over bits. -/
def crcLsb (poly : Nat) (l : List Bool) (c : Nat) : Nat :=
  match l with
  | [] => c
  | b :: r => if xor (bitAt c 0) b then crcLsb poly r (Nat.xor (c / 2) poly) else crcLsb poly r (c / 2)

/-- The bits of a byte string, each byte least significant bit first. -/
def bytesBitsLsb (l : List Byte) : List Bool := l.flatMap fun x => (bitsMsb 8 x.toNat).reverse

/-- R110: CRC-32C (Castagnoli 0x1EDC_6F41, reflected), initial value and final XOR 0xFFFF_FFFF. -/
def crc32c (l : List Byte) : Nat := Nat.xor (crcLsb 0x82F63B78 (bytesBitsLsb l) 0xFFFFFFFF) 0xFFFFFFFF

/-- The frame check sequence of IEEE 802.3 (0x04C1_1DB7, reflected), initial value and final XOR 0xFFFF_FFFF. -/
def crc32 (l : List Byte) : Nat := Nat.xor (crcLsb 0xEDB88320 (bytesBitsLsb l) 0xFFFFFFFF) 0xFFFFFFFF

/-! ### The inner code (R53) -/

/-- Is `p` a power of two (a Hamming parity position)? -/
def isPow2 (p : Nat) : Bool := p = 1 || p = 2 || p = 4 || p = 8 || p = 16 || p = 32 || p = 64

/-- The information positions 3, 5, 6, 7, 9, … of an inner codeword, ascending. -/
def innerInfoPos : List Nat := (List.range 128).filter fun p => p ≠ 0 && !isPow2 p

/-- XOR over a list of bits. -/
def xorAll (l : List Bool) : Bool := l.foldl xor false

/-- R53: the 128 bits of the inner codeword of 120 information bits. -/
def innerEncode (d : List Bool) : List Bool :=
  let info := innerInfoPos.zip d
  let par (m : Nat) : Bool := xorAll (info.map fun e => if bitAt e.1 m then e.2 else false)
  let bit (p : Nat) : Bool :=
    if isPow2 p then par (Nat.log2 p) else ((info.find? fun e => e.1 = p).map (·.2)).getD false
  let hi := (List.range 127).map fun i => bit (i + 1)
  xorAll hi :: hi

/-- R53: the 7-bit Hamming syndrome, the XOR of the indices of all 1 bits in positions 1 to 127. -/
def innerSyndrome (c : List Bool) : Nat :=
  ((List.range c.length).zip c).foldl (fun a e => if e.2 then Nat.xor a e.1 else a) 0

/-- The bit of a word at position p flipped. -/
def flipBit (c : List Bool) (p : Nat) : List Bool := setAt c p (!(c.getD p false))

/-- R54: the hard decision on a word: with odd overall parity the bit at the syndrome's position is in error; with even
parity the word is a codeword when its syndrome is 0, and otherwise has an even number of errors and no decision. -/
def innerHardDecode (c : List Bool) : Option (List Bool) :=
  if xorAll c then some (flipBit c (innerSyndrome c)) else if innerSyndrome c = 0 then some c else none

/-- A soft value's hard decision. -/
def hardBit (x : Int) : Bool := decide (0 < x)

/-- The correlation of a word with log-likelihood ratios. -/
def correlate (llr : List Int) (c : List Bool) : Int := (List.zipWith (fun x b => if b then x else -x) llr c).foldl (· + ·) 0

/-- An element into a list ordered by the first component, behind its equals. -/
def insertBy (x : Nat × Nat) : List (Nat × Nat) → List (Nat × Nat)
  | [] => [x]
  | y :: r => if x.1 < y.1 then x :: y :: r else y :: insertBy x r

/-- The positions of the `n` least reliable bits. -/
def leastReliable (n : Nat) (llr : List Int) : List Nat :=
  ((((List.range llr.length).zip llr).foldl (fun l e => (insertBy (e.2.natAbs, e.1) l).take n) []).map (·.2))

/-- The words that flip some of the bits at positions `ps`, the word itself first. -/
def testPatterns (ps : List Nat) (c : List Bool) : List (List Bool) :=
  match ps with
  | [] => [c]
  | p :: r => testPatterns r c ++ testPatterns r (flipBit c p)

/-- R54: the Chase decoder: of the codewords that the 32 test patterns lead to, the one with the highest correlation to the
log-likelihood ratios, the first of equals. (In part DEDUCED, log entry 18.) -/
def innerDecode (llr : List Int) : List Bool :=
  let hard := llr.map hardBit
  let cands := (testPatterns (leastReliable 5 llr) hard).filterMap innerHardDecode
  ((cands.foldl (fun best c =>
    let v := correlate llr c
    match best with
    | none => some (v, c)
    | some b => if b.1 < v then some (v, c) else some b) none).map (·.2)).getD hard

/-- R54: the bits that the decoder corrected: the distance from the hard decisions to the codeword. -/
def correctedBits (llr : List Int) (c : List Bool) : Nat :=
  (List.zipWith (fun x b => b2n (xor (hardBit x) b)) llr c).foldl (· + ·) 0

/-- The 120 information bits of a codeword (R53). -/
def innerInfo (c : List Bool) : List Bool := innerInfoPos.map fun p => c.getD p false

/-! ### The outer code RS(544,514) over GF(2^10) (R55) -/

/-- Multiplication by x in GF(2^10) with x^10 + x^3 + 1. -/
def gfDouble (a : Nat) : Nat := if a < 512 then 2 * a else Nat.xor (2 * a - 1024) 9

/-- Multiplication in GF(2^10): bits of `b` from the most significant of `n`. -/
def gfMulN (n a b : Nat) : Nat :=
  match n with
  | 0 => 0
  | m + 1 => Nat.xor (gfDouble (gfMulN m a (b / 2))) (if b % 2 = 1 then a else 0)

/-- Multiplication in GF(2^10). -/
def gfMul (a b : Nat) : Nat := gfMulN 10 a b

/-- alpha^i, alpha = 2. -/
def gfPow (i : Nat) : Nat :=
  match i with
  | 0 => 1
  | j + 1 => gfDouble (gfPow j)

/-- p(x) · (x - r), coefficients highest degree first. -/
def polyMulLin (p : List Nat) (r : Nat) : List Nat :=
  List.zipWith Nat.xor (p ++ [0]) (0 :: p.map (gfMul r))

/-- The generator polynomial of Clause 91's RS(544,514): the product of (x - alpha^i), i = 0 to 29. -/
def rsGen : List Nat := (List.range 30).foldl (fun p i => polyMulLin p (gfPow i)) [1]

/-- One message symbol into the 30-symbol parity register. -/
def rsStep (g reg : List Nat) (m : Nat) : List Nat :=
  let fb := Nat.xor m (reg.headD 0)
  List.zipWith (fun r c => Nat.xor r (gfMul fb c)) (reg.tail ++ [0]) g

/-- The 30 parity symbols of 514 message symbols, highest degree first. -/
def rsParity (msg : List Nat) : List Nat := msg.foldl (rsStep rsGen.tail) (List.replicate 30 0)

/-- The RS codeword: 514 message symbols followed by 30 parity symbols. -/
def rsEncode (msg : List Nat) : List Nat := msg ++ rsParity msg

/-! ### Decoding RS(544,514) (R57) -/

/-- The value of a polynomial, highest degree first, at x. -/
def polyEval (p : List Nat) (x : Nat) : Nat := p.foldl (fun a c => Nat.xor (gfMul a x) c) 0

/-- a to the power 2^n. -/
def gfSquares (n a : Nat) : Nat :=
  match n with
  | 0 => a
  | m + 1 => gfSquares m (gfMul a a)

/-- The inverse of a, a^1022. -/
def gfInv (a : Nat) : Nat := (List.range 9).foldl (fun x i => gfMul x (gfSquares (i + 1) a)) 1

/-- The 30 syndromes of a received word, at alpha^0 to alpha^29. -/
def rsSyndromes (r : List Nat) : List Nat := (List.range 30).map fun j => polyEval r (gfPow j)

/-- Sum of two polynomials, lowest degree first. -/
def polyAdd : List Nat → List Nat → List Nat
  | [], q => q
  | p, [] => p
  | a :: p, b :: q => Nat.xor a b :: polyAdd p q

/-- The error locator under way, polynomials lowest degree first. -/
structure Locator where
  c : List Nat := [1]
  b : List Nat := [1]
  len : Nat := 0
  m : Nat := 1
  last : Nat := 1

/-- One syndrome into the error locator: step n of the Berlekamp-Massey iteration. -/
def Locator.take (l : Locator) (syn : List Nat) (n : Nat) : Locator :=
  let d := (List.range (l.len + 1)).foldl (fun a i => Nat.xor a (gfMul (l.c.getD i 0) (syn.getD (n - i) 0))) 0
  if d = 0 then { l with m := l.m + 1 }
  else
    let c := polyAdd l.c (List.replicate l.m 0 ++ l.b.map (gfMul (gfMul d (gfInv l.last))))
    if 2 * l.len ≤ n then { c := c, b := l.c, len := n + 1 - l.len, m := 1, last := d } else { l with c := c, m := l.m + 1 }

/-- The error locator polynomial of the syndromes. -/
def locator (syn : List Nat) : Locator := (List.range 30).foldl (fun l n => l.take syn n) {}

/-- The error's value at locator x (Forney), the error evaluator and the locator lowest degree first. -/
def errorValue (ev loc : List Nat) (x : Nat) : Nat :=
  let xi := gfInv x
  let odd := (List.range loc.length).map fun i => if i % 2 = 1 then loc.getD i 0 else 0
  gfMul x (gfMul (polyEval ev.reverse xi) (gfInv (polyEval odd.tail.reverse xi)))

/-- The received word with the errors that a locator of at most 15 finds taken out. -/
def rsFix (r : List Nat) : List Nat :=
  let syn := rsSyndromes r
  let l := locator syn
  let ev := (List.range 30).map fun n => (List.range (n + 1)).foldl (fun a i => Nat.xor a (gfMul (l.c.getD i 0) (syn.getD (n - i) 0))) 0
  ((List.range r.length).zip r).map fun e =>
    let x := gfPow (543 - e.1)
    if polyEval l.c.reverse (gfInv x) = 0 then Nat.xor e.2 (errorValue ev l.c x) else e.2

/-- How many symbols differ. -/
def distance (a b : List Nat) : Nat := ((a.zip b).filter fun e => e.1 ≠ e.2).length

/-- R57: the codeword within 15 symbols of the received word; none where there is none: the word is uncorrectable. (Bounded-distance decoding:
the bound is that of the code.) (In part DEDUCED, log entry 18.) -/
def rsDecode (r : List Nat) : Option (List Nat) :=
  if (rsSyndromes r).all (· = 0) then some r
  else
    let f := rsFix r
    if (rsSyndromes f).all (· = 0) && decide (distance r f ≤ 15) then some f else none

/-- Cut a bit list into `n` symbols of `w` bits, first bit most significant. -/
def cutSymbols (w n : Nat) (l : List Bool) : List Nat :=
  match n with
  | 0 => []
  | m + 1 => ofBitsMsb (l.take w) :: cutSymbols w m (l.drop w)

/-- Cut a bit list into `n` chunks of `w` bits. -/
def chunks (w n : Nat) (l : List Bool) : List (List Bool) :=
  match n with
  | 0 => []
  | m + 1 => l.take w :: chunks w m (l.drop w)

/-- Three lists element by element. -/
def interleave3 (a b c : List Nat) : List Nat :=
  match a, b, c with
  | x :: a', y :: b', z :: c' => x :: y :: z :: interleave3 a' b' c'
  | _, _, _ => []

/-- R55 step 4: the data symbol of bit j of inner codeword c. -/
def fecSymbolOf (c j : Nat) : Nat := (136 * (j / 8) + 17 * (j % 8) + c) % 2176

/-- R55 steps 1 to 4: the 2,176 data symbols (8 bits each, b7 first) of one FEC block's 15,420 payload bits. Bit lane i
of symbol s comes from the codeword c and the bit j = 8·m + i for which fecSymbolOf c j = s. -/
def fecData (payload : List Bool) : List Nat :=
  let cw (i : Nat) : List Nat := rsEncode (cutSymbols 10 514 ((payload.drop (5140 * i)).take 5140))
  let stream := (interleave3 (cw 0) (cw 1) (cw 2)).flatMap (bitsMsb 10)
  let inner := (chunks 120 136 stream).map innerEncode
  (List.range 2176).map fun s =>
    ofBitsMsb ((List.range 8).map fun i =>
      let t := (s + 2176 - 17 * i % 2176) % 2176
      ((inner.getD (t % 136) []).getD (8 * (t / 136) + i) false))

/-- R51: the amplitude of a pair of bits. -/
def grayAmp (v : Nat) : Int :=
  match v with
  | 0 => -3
  | 1 => -1
  | 3 => 1
  | _ => 3

/-- R51: the symbol of 8 bits. -/
def dataSym (v : Nat) : LineSym := (grayAmp (v / 64 % 4), grayAmp (v / 16 % 4), grayAmp (v / 4 % 4), grayAmp (v % 4))

/-- R52: the corner point of a quadrant index. -/
def corner (q : Nat) : Int × Int :=
  match q with
  | 0 => (3, 3)
  | 1 => (-3, 3)
  | 2 => (-3, -3)
  | _ => (3, -3)

/-- The symbol of two quadrant indices. -/
def cornerSym (x y : Nat) : LineSym := ((corner x).1, (corner x).2, (corner y).1, (corner y).2)

/-- R56: one step of PRBS9, x^9 + x^5 + 1: the output bit and the next register. (In part DESIGN CHOICE, log entry 40.) -/
def prbs9Step (r : Nat) : Bool × Nat :=
  let b := xor (bitAt r 8) (bitAt r 4)
  (b, (2 * r) % 512 + b2n b)

/-- `n` bits of PRBS9 from register `r`, and the register after them. -/
def prbs9 (n r : Nat) : List Bool × Nat :=
  match n with
  | 0 => ([], r)
  | m + 1 =>
    let s := prbs9Step r
    let t := prbs9 m s.2
    (s.1 :: t.1, t.2)

/-- R56: the pilot symbol of the register, and the register after its four bits. -/
def pilotSym (r : Nat) : LineSym × Nat :=
  let p := prbs9 4 r
  (cornerSym (ofBitsMsb (p.1.take 2)) (ofBitsMsb (p.1.drop 2)), p.2)

/-- R55 step 5: data symbols with one pilot after every 68 of them; the register runs on. -/
def withPilots (n : Nat) (data : List Nat) (r : Nat) : List LineSym × Nat :=
  match n with
  | 0 => ([], r)
  | m + 1 =>
    let p := pilotSym r
    let t := withPilots m (data.drop 68) p.2
    ((data.take 68).map dataSym ++ p.1 :: t.1, t.2)

/-- The 2,208 symbols of each of `n` FEC blocks of a payload bit stream (R55, R56), the pilots starting at register `r`. -/
def fecBlocks (n : Nat) (payload : List Bool) (r : Nat) : List LineSym :=
  match n with
  | 0 => []
  | m + 1 =>
    let b := withPilots 32 (fecData (payload.take 15420)) r
    b.1 ++ fecBlocks m (payload.drop 15420) b.2

/-- R62: the 46 symbols of the resync preamble, as quadrant indices of X and Y. -/
def resyncPreamble : List (Nat × Nat) :=
  (List.range 16).map (fun i => if i % 2 = 0 then (0, 1) else (2, 3)) ++
  [true, true, true, true, true, false, false, true, true, false, true, false, true, false].map
    (fun p => if p then (0, 1) else (2, 3)) ++
  List.replicate 16 (0, 1)

/-- The 57,500 symbols of a downstream segment (R59) that carries an RS payload of 26 FEC blocks. -/
def segmentSymbols (payload : List Byte) : List LineSym :=
  resyncPreamble.map (fun q => cornerSym q.1 q.2) ++ fecBlocks 26 (bytesBits payload) 0x1FF ++ List.replicate 46 (cornerSym 0 1)

/-! ### Receiving a segment (R59, R62, R63) -/

/-- One sample of the amplitude 1. -/
def sampleUnit : Int := 64

/-- The two polarizations exchanged. -/
def swapPol (r : LineSym) : LineSym := (r.2.2.1, r.2.2.2, r.1, r.2.1)

/-- One polarization turned back by q quadrants. -/
def turnBack (q : Nat) (i j : Int) : Int × Int :=
  match q with
  | 0 => (i, j)
  | 1 => (j, -i)
  | 2 => (-i, -j)
  | _ => (-j, i)

/-- A sample in the line's own polarizations and quadrants. -/
def Align.undo (a : Align) (r0 : LineSym) : LineSym :=
  let r := if a.swap then swapPol r0 else r0
  let x := turnBack a.rot r.1 r.2.1
  let y := turnBack a.rot r.2.2.1 r.2.2.2
  (x.1, x.2, y.1, y.2)

/-- The correlation of received symbols with sent ones over both polarizations, a complex number. -/
def correlation : List LineSym → List LineSym → Int × Int
  | r :: rs, t :: ts =>
    let c := correlation rs ts
    (c.1 + r.1 * t.1 + r.2.1 * t.2.1 + r.2.2.1 * t.2.2.1 + r.2.2.2 * t.2.2.2,
     c.2 + r.2.1 * t.1 - r.1 * t.2.1 + r.2.2.2 * t.2.2.1 - r.2.2.1 * t.2.2.2)
  | _, _ => (0, 0)

/-- The energy of received symbols. -/
def energy (l : List LineSym) : Int :=
  l.foldl (fun a r => a + r.1 * r.1 + r.2.1 * r.2.1 + r.2.2.1 * r.2.2.1 + r.2.2.2 * r.2.2.2) 0

/-- The square of a complex number's magnitude. -/
def magnitude2 (c : Int × Int) : Int := c.1 * c.1 + c.2 * c.2

/-- The 14 symbols of the sync field (R62). -/
def syncField : List LineSym := ((resyncPreamble.drop 16).take 14).map fun q => cornerSym q.1 q.2

/-- The quadrant nearest to a complex number's angle. -/
def quadrantOf (c : Int × Int) : Nat :=
  if c.2.natAbs ≤ c.1 then 0 else if c.1.natAbs ≤ c.2 then 1 else if c.2.natAbs ≤ -c.1 then 2 else 3

/-- The Dibber at symbol offset `off` (R63 step 2): the polarization order with the higher correlation, detected when the
normalized magnitude is at least THRESH / 256. (In part DEDUCED, log entry 18.) -/
def dibberAt (thresh : Nat) (samples : List LineSym) (off : Nat) : Option Align :=
  let r := (samples.drop (off + 16)).take 14
  let c0 := correlation r syncField
  let c1 := correlation (r.map swapPol) syncField
  let swap : Bool := decide (magnitude2 c0 < magnitude2 c1)
  let c := if swap then c1 else c0
  if 0 < energy r && decide ((thresh * thresh : Nat) * (energy r * energy syncField) ≤ magnitude2 c * 65536) then
    some { off := off, swap := swap, rot := quadrantOf c }
  else none

/-- The first offset at which the Dibber detects the preamble; the segment's 57,500 symbols must follow it. (In part DEDUCED, log entry 18.) -/
def dibber (thresh : Nat) (samples : List LineSym) : Option Align :=
  (List.range (samples.length - 57500 + 1)).findSome? (dibberAt thresh samples)

/-- The log-likelihood ratios of the two bits of one amplitude under R51's Gray code, in sample units. (In part DEDUCED, log entry 18.) -/
def softBits (x : Int) : List Int := [x, 2 * sampleUnit - x.natAbs]

/-- The log-likelihood ratios of a data symbol's 8 bits, b7 first. -/
def softSym (r : LineSym) : List Int := softBits r.1 ++ softBits r.2.1 ++ softBits r.2.2.1 ++ softBits r.2.2.2

/-- The 2,176 data symbols of a FEC block: one pilot follows every 68 of them (R55 step 5). -/
def dropPilots (n : Nat) (l : List LineSym) : List LineSym :=
  match n with
  | 0 => []
  | m + 1 => l.take 68 ++ dropPilots m (l.drop 69)

/-- What the FEC decoders make of some symbols: the payload bits, the uncorrectable codewords and the corrected bits. -/
structure Decoded where
  payload : List Bool
  bad : List Nat
  corrected : Nat

/-- One RS codeword of a FEC block: its message, as received where it is uncorrectable (R57). -/
def decodeRs (n : Nat) (r : List Nat) : Decoded :=
  match rsDecode r with
  | some c => { payload := (c.take 514).flatMap (bitsMsb 10), bad := [], corrected := 0 }
  | none => { payload := (r.take 514).flatMap (bitsMsb 10), bad := [n], corrected := 0 }

/-- Every third element from the i-th. -/
def everyThird (i : Nat) (l : List Nat) : List Nat := (List.range (l.length / 3)).map fun j => l.getD (3 * j + i) 0

/-- FEC block b decoded (R54, R55, R57): bit j of inner codeword c stands in lane j mod 8 of symbol fecSymbolOf c j. -/
def decodeBlock (b : Nat) (syms : List LineSym) : Decoded :=
  let lanes := (dropPilots 32 syms).map softSym
  let words := (List.range 136).map fun c =>
    let llr := (List.range 128).map fun j => (lanes.getD (fecSymbolOf c j) []).getD (j % 8) 0
    (llr, innerDecode llr)
  let stream := cutSymbols 10 1632 (words.flatMap fun w => innerInfo w.2)
  let cw (i : Nat) : Decoded := decodeRs (3 * b + i) (everyThird i stream)
  { payload := (cw 0).payload ++ (cw 1).payload ++ (cw 2).payload
    bad := (cw 0).bad ++ (cw 1).bad ++ (cw 2).bad
    corrected := (words.map fun w => correctedBits w.1 w.2).foldl (· + ·) 0 }

/-- A segment decoded under an alignment (R59): 26 FEC blocks behind the 46 symbols of the preamble. -/
def decodeSegment (a : Align) (samples : List LineSym) : Decoded :=
  let body := (samples.drop (a.off + 46)).map a.undo
  (List.range 26).foldl (fun d b =>
    let x := decodeBlock b ((body.drop (2208 * b)).take 2208)
    { payload := d.payload ++ x.payload, bad := d.bad ++ x.bad, corrected := d.corrected + x.corrected })
    { payload := [], bad := [], corrected := 0 }

/-- The 46 symbols of the segment's tail as received, which the equalizer's memory holds when the next preamble begins (R59). -/
def segmentTail (a : Align) (samples : List LineSym) : List LineSym :=
  ((samples.drop (a.off + 57454)).take 46).map a.undo

/-- The bytes that bits spell, eight at a time. -/
def packBytes (n : Nat) (l : List Bool) : List Byte :=
  match n with
  | 0 => []
  | m + 1 => BitVec.ofNat 8 (ofBitsMsb (l.take 8)) :: packBytes m (l.drop 8)

end Sys2Proof.Machine
end

