-- ==== Sys2Proof/Machine/OpsSched.lean ====
section
/-!
DEFINITION. Buffers, pause and virtual-time order: the shared operations of chapter 09.
-/

namespace Sys2Proof.Machine

/-! ### Cells (R299, R300) -/

/-- Cells of a frame of FLEN bytes. -/
def cellsOf (flen : Nat) : Nat := ceilDiv (2 + flen) 128

/-- Cells of the upstream and downstream buffers (R3, R299). -/
def upCells (s : State) : Nat := if s.fuses.variant = 2 then 196608 else 786432
def dnCells (s : State) : Nat := if s.fuses.variant = 2 then 65536 else 262144

/-! ### Ports -/

/-- The port is formed, or UP (R521, R570). -/
def portFormed (s : State) (p : Nat) : Bool := p < ports s && rd s (HL_PORT.STATE p) ≠ 3
def portUpNow (s : State) (p : Nat) : Bool := p < ports s && rd s (HL_PORT.STATE p) = 2

/-- The MAC address of a port (R524). -/
def portMac (s : State) (p : Nat) : List Byte :=
  beBytes 2 (rd s (SPR_PORT_MAC_HI.MAC_HI p)) ++ beBytes 4 (rd s (SPR_PORT_MAC_LO.MAC_LO p))

/-- A frame as the MAC sends it (R524): padded to 60 bytes, with its FCS. -/
def macFrame (l : List Byte) : List Byte :=
  let f := if l.length < 60 then padTo 60 l else l
  f ++ leBytes 4 (crc32 f)

/-- The same from its preamble and start delimiter on. (In part PRESUMED, log entry 12.) -/
def wireFrame (l : List Byte) : List Byte := List.replicate 7 0x55 ++ [0xD5] ++ macFrame l

/-! ### The ledger (R308, R313, R314) -/

/-- SCHED_POOL recomputed from the formed ports' HEADROOM (R308). -/
def poolUpdate (s : State) : State :=
  let sum := ((List.range (ports s)).filter (portFormed s)).foldl (fun a p => a + rd s (SCHED_UP_PORT_HEAD.HEADROOM p)) 0
  wr s SCHED_POOL.POOL (upCells s - sum)

/-- The port_share in force for a port: its own of the last recomputation, else the smallest of those, else POOL (R314). -/
def shareOf (s : State) (p : Nat) : Nat :=
  match s.sched.share.get p 0 with
  | n + 1 => n
  | 0 =>
    match s.sched.share with
    | [] => rd s SCHED_POOL.POOL
    | (_, v) :: r => r.foldl (fun a e => min a (e.2 - 1)) (v - 1)

/-- R313 while in trim. -/
def trimmed (s : State) (h : Nat) : Nat :=
  if flag s SCHED_STATUS.TRIM then h * max 1 (rd s SCHED_CTRL.TRIM_FACTOR) / 16 else h

/-- HIGH_eff and LOW_eff of a port (R314). -/
def highEff (s : State) (p : Nat) : Nat :=
  let cap := rd s (SCHED_UP_PORT_WM.HIGH_CAP p) * 64
  trimmed s (if flag s SCHED_CTRL.LEDGER_EN then min cap (shareOf s p) else cap)
def lowEff (s : State) (p : Nat) : Nat :=
  let h := highEff s p
  h - min (rd s (SCHED_UP_PORT_WM.HYST p) * 64) h

/-! ### Pause (R309 to R312) -/

/-- FC_MODE, 3 treated as 0. -/
def fcMode (s : State) (p : Nat) : Nat :=
  let m := rd s (SCHED_UP_PORT_CFG.FC_MODE p)
  if m = 3 then 0 else m

/-- Priorities on which R310 asserts pause; priorities on which R312 does. -/
def pressMask (s : State) (p : Nat) : Nat := if s.sched.press.contains p then rd s (SCHED_UP_PORT_CFG.PFC_EN p) else 0
def holdMask (s : State) (p : Nat) : Nat := s.sched.hold.get p 0

/-- The PAUSE or PFC frame of a port in mode `m`, 1 or 2, that also names the priorities `rel` (R311). -/
def flowFrame (s : State) (p m rel : Nat) : List Byte :=
  let quanta := max 1 (rd s (SCHED_UP_PORT_HEAD.QUANTA p))
  let on := Nat.lor (pressMask s p) (holdMask s p)
  let head : List Byte := beBytes 6 0x0180C2000001 ++ portMac s p ++ beBytes 2 0x8808
  if m = 1 then
    head ++ beBytes 2 1 ++ beBytes 2 (if s.sched.press.contains p || holdMask s p ≠ 0 then quanta else 0)
  else
    let vec := Nat.lor (Nat.lor (rd s (SCHED_UP_PORT_CFG.PFC_EN p)) (holdMask s p)) rel
    head ++ beBytes 2 0x0101 ++ beBytes 2 vec ++
      (List.range 8).flatMap fun i => beBytes 2 (if bitAt on i then quanta else 0)

/-- A generated frame waits for the port's next frame boundary. (In part DEDUCED, log entry 23.) -/
def pushGen (s : State) (p : Nat) (l : List Byte) : State :=
  { s with sched := { s.sched with gen := s.sched.gen.upd p [] (· ++ [l]) } }

/-- SCHED_UP_PORT_p_USE.ASSERTED kept true to the pause held. -/
def showAsserted (s : State) (p : Nat) : State :=
  setFlag s (SCHED_UP_PORT_USE.ASSERTED p) (s.sched.press.contains p || holdMask s p ≠ 0)

/-- A flow-control frame of the port's present mode, if it has one. -/
def sendFlow (s : State) (p rel : Nat) : State :=
  let m := fcMode s p
  if m = 0 then s else pushGen s p (flowFrame s p m rel)

/-- Pause on a port made to agree with USED (R310). (In part DEDUCED, log entry 38.) -/
def checkPause (s : State) (p : Nat) : State :=
  let used := rd s (SCHED_UP_PORT_USE.USED p)
  if s.sched.press.contains p then
    if used ≤ lowEff s p ∧ used < highEff s p then
      let rel := pressMask s p
      let s1 := { s with sched := { s.sched with press := s.sched.press.filter (· ≠ p) } }
      showAsserted (sendFlow s1 p rel) p
    else s
  else if highEff s p ≤ used ∧ (fcMode s p = 1 ∨ fcMode s p = 2 ∧ rd s (SCHED_UP_PORT_CFG.PFC_EN p) ≠ 0) ∧ portFormed s p then
    let s1 := { s with sched := { s.sched with press := p :: s.sched.press } }
    showAsserted (sendFlow s1 p 0) p
  else s

/-- checkPause over every port. -/
def checkPauses (s : State) : State := (List.range (ports s)).foldl checkPause s

/-- R312 applies in JOIN and HOLDOVER. -/
def holdsNow (s : State) : Bool := mode s = 3 || mode s = 5

/-- The priorities on which R312 asserts pause on a port now. -/
def holdWant (s : State) (p : Nat) : Nat :=
  if holdsNow s && portFormed s p && decide (fcMode s p ≠ 0) then rd s SCHED_CTRL.HOLD_MASK else 0

/-- The pause of R312 on one port made to agree with the mode, FC_MODE and HOLD_MASK: asserted, or released unless R310
still holds it. -/
def holdPort (s : State) (p : Nat) : State :=
  let was := holdMask s p
  let m := holdWant s p
  if m = was then s
  else showAsserted (sendFlow { s with sched := { s.sched with hold := s.sched.hold.set p m 0 } } p was) p

/-- R312 on every port. -/
def holdPorts (s : State) : State := (List.range (ports s)).foldl holdPort s

/-! ### Charging the upstream buffer (R300, R307) -/

/-- Cells charged to a port that received a frame. -/
def chargeUp (s : State) (p n : Nat) : State :=
  let s1 := wr s SCHED_UP_USE.USED (rd s SCHED_UP_USE.USED + n)
  checkPause (wr s1 (SCHED_UP_PORT_USE.USED p) (rd s (SCHED_UP_PORT_USE.USED p) + n)) p

/-- The charge of a frame ends. -/
def freeUp (s : State) (p n : Nat) : State :=
  let s1 := wr s SCHED_UP_USE.USED (rd s SCHED_UP_USE.USED - n)
  checkPause (wr s1 (SCHED_UP_PORT_USE.USED p) (rd s (SCHED_UP_PORT_USE.USED p) - n)) p

/-- The charges of frames end. -/
def freeUpAll (s : State) (l : List UpFrame) : State := l.foldl (fun t f => freeUp t f.port (cellsOf f.bytes.length)) s

/-! ### Charging the downstream buffer (R300, R317) -/

def chargeDn (s : State) (p n : Nat) : State :=
  wr (wr s SCHED_DN_USE.USED (rd s SCHED_DN_USE.USED + n)) (SCHED_DN_PORT_STAT.USED p) (rd s (SCHED_DN_PORT_STAT.USED p) + n)
def freeDn (s : State) (p n : Nat) : State :=
  wr (wr s SCHED_DN_USE.USED (rd s SCHED_DN_USE.USED - n)) (SCHED_DN_PORT_STAT.USED p) (rd s (SCHED_DN_PORT_STAT.USED p) - n)

/-! ### Virtual time (R315) -/

/-- Is tag a earlier than tag b? -/
def tagBefore (a b : Nat) : Bool := signed32 a b < 0

/-- inc of a frame of length L in a member of weight w. -/
def tagInc (len w : Nat) : Nat := ceilDiv (len * 65536) (max 1 w) % 2 ^ 32

/-- A member gains a frame while empty: S := V. -/
def Arb.join (a : Arb) (m : Nat) : Arb := if a.tags.has m then a else { a with tags := a.tags.insert m a.v }

/-- A member that empties forgets its S. -/
def Arb.leave (a : Arb) (m : Nat) : Arb := { a with tags := a.tags.erase m }

/-- A member becomes eligible again after a closed gate or a pause: S := V where S is behind V. -/
def Arb.wake (a : Arb) (m : Nat) : Arb :=
  match a.tags.find m with
  | some t => if signed32 t a.v < 0 then { a with tags := a.tags.insert m a.v } else a
  | none => a

/-- The member to serve among those of `ms`: the earliest tag, between equal tags the higher number. -/
def Arb.pick (a : Arb) (ms : List Nat) : Option Nat :=
  ms.foldl (fun best m =>
    match best with
    | none => some m
    | some b =>
      let tm := a.tags.get m a.v
      let tb := a.tags.get b a.v
      if tagBefore tm tb || (tm = tb && b < m) then some m else some b) none

/-- The arbiter starts a frame of member m: V := S, then S advances by inc. -/
def Arb.start (a : Arb) (m inc : Nat) : Arb :=
  let t := a.tags.get m a.v
  { v := t, tags := a.tags.insert m ((t + inc) % 2 ^ 32) }

/-! ### Downstream queues -/

/-- Queue q of port p. -/
def dnQueue (s : State) (p q : Nat) : List DnFrame := s.sched.q.get (8 * p + q) []

/-- The queue's cells. -/
def queueCells (l : List DnFrame) : Nat := l.foldl (fun a f => a + f.cells) 0

/-- A downstream queue replaced. -/
def setDnQueue (s : State) (p q : Nat) (l : List DnFrame) : State :=
  { s with sched := { s.sched with q := s.sched.q.set (8 * p + q) l [] } }

/-- The arbiter of a port replaced. -/
def setArb (s : State) (p : Nat) (a : Arb) : State := { s with sched := { s.sched with arb := s.sched.arb.set p a {} } }

/-- A frame joins the tail of a downstream queue (R315). -/
def pushDn (s : State) (p q : Nat) (f : DnFrame) : State :=
  let l := dnQueue s p q
  let s1 := if l.isEmpty then setArb s p ((s.sched.arb.get p {}).join q) else s
  chargeDn (setDnQueue s1 p q (l ++ [f])) p f.cells

/-- A Sprinkler frame joins queue TC of its port, while the port is UP (R318). -/
def pushSpr (s : State) (p : Nat) (bytes : List Byte) (t : SprTx) : State :=
  if portUpNow s p then pushDn s p (rd s (SPR_PORT.TC p)) { bytes := bytes, cells := 0, spr := some t, tag := (0, 0, 0) } else s

/-- A queue without its Sprinkler frames. -/
def dropSprQueue (s : State) (i : Nat) : State :=
  let l := s.sched.q.get i []
  let r := l.filter (·.spr.isNone)
  let s1 := if l.isEmpty || !r.isEmpty then s else setArb s (i / 8) ((s.sched.arb.get (i / 8) {}).leave (i % 8))
  setDnQueue s1 (i / 8) (i % 8) r

/-- The Sprinkler stops (R244): what it has queued, its Follow_Up messages and the requests it has not answered go. -/
def stopSpr (s : State) : State :=
  (List.range (8 * ports s)).foldl dropSprQueue { s with spr := { s.spr with inbox := [], follow := [] } }

/-- An arbiter whose members have no frame left: V stays (R315). -/
def Arb.clear (a : Arb) : Arb := { a with tags := [] }

/-- Every frame queued for a port is discarded, and its pause timers are cleared (R317, R322). -/
def flushPort (s : State) (p : Nat) : State :=
  let qs := (List.range 8).map (dnQueue s p)
  let n := qs.foldl (fun a l => a + l.length) 0
  let c := qs.foldl (fun a l => a + queueCells l) 0
  let fly := (s.sched.busy.get p (0, 0)).2
  let held := s.sched.trib.filter fun e => e.2.1 = p
  let sc := { s.sched with
    q := s.sched.q.keep fun i => i / 8 ≠ p
    arb := s.sched.arb.upd p {} Arb.clear
    gen := s.sched.gen.erase p
    busy := s.sched.busy.erase p
    trib := s.sched.trib.filter fun e => e.2.1 ≠ p
    timer := s.sched.timer.keep fun i => i / 16 ≠ p }
  let s1 := bump (bump { s with sched := sc } (SCHED_DN_PORT_DROP.DOWN p) n) TRELLIS_DROP.DOWN held.length
  wr (wr (freeDn s1 p (c + fly)) (SCHED_DN_PORT_STAT.PAUSED p) 0) (SCHED_DN_PORT_STAT.LINK_PAUSED p) 0

end Sys2Proof.Machine
end

