-- ==== Sys2Proof/Machine/OpsPort.lean ====
section
/-!
DEFINITION. Host lanes and ports: the shared operations of chapter 17.
-/

namespace Sys2Proof.Machine

/-! ### Lanes and slots (R514) -/

/-- The lane position that serves slot `slot` of BED_b; 63 while none does. -/
def lanePos (s : State) (b slot : Nat) : Nat := s.lane.pos.get (32 * b + slot) slot

/-- The slot that position `l` of BED_b serves, if any. (In part DEDUCED, log entry 23.) -/
def laneSlot (s : State) (b l : Nat) : Option Nat := firstBelow 32 fun i => lanePos s b i = l && decide (l < 34)

/-- The lane is enabled and outside loopback; a PRBS pattern counts as loopback (R521, R527). -/
def laneOk (s : State) (b l : Nat) : Bool :=
  flag s (HL_LANE_CTRL.ENABLE b l) && rd s (HL_LANE_CTRL.LOOPBACK b l) = 0 && rd s (HL_LANE_CTRL.PRBS_TX b l) = 0
    && rd s (HL_LANE_CTRL.PRBS_RX b l) = 0

/-- The slot's lane is fenced and no spare serves the slot. -/
def slotFenced (s : State) (b slot : Nat) : Bool := lanePos s b slot = 63

/-- The bed slots of a formed port. -/
def portSlots (s : State) (p : Nat) : List Nat :=
  (List.range (rd s (HL_PORT.WIDTH p))).map fun i => 8 * (p / 8 % 4) + rd s (HL_PORT.FIRST p) + i

/-- The lane positions of a formed port. -/
def portLanes (s : State) (p : Nat) : List Nat := ((portSlots s p).map (lanePos s (p / 32))).filter (· < 34)

/-- The row runs without a parser stage or reshuffler of an upstream tile: its ports stay DOWN (R428). -/
def rowGone (s : State) (g : Nat) : Bool :=
  s.rake.unserved.any fun f =>
    (f.unit.cls = .parser || f.unit.cls = .reshuf) && f.unit.idx / 64 = g && decide (2 ≤ f.unit.idx / 16 % 4)

/-- The formed port that holds a slot of BED_b. -/
def portOfSlot (s : State) (b slot : Nat) : Option Nat :=
  ((List.range 8).map fun i => 32 * b + 8 * (slot / 8) + i).find? fun p => portFormed s p && (portSlots s p).contains slot

/-! ### What a lane sends and receives (R516, R518, R526, R527) -/

/-- The Gray value of a bit pair, its first bit in PCS order first. -/
def grayPair : Bool × Bool → Nat
  | (false, false) => 0
  | (false, true) => 1
  | (true, true) => 2
  | (true, false) => 3

/-- Precoding after the symbol `y`. -/
def precode (y : Nat) : List Nat → List Nat
  | [] => []
  | x :: r => (x + 4 - y) % 4 :: precode ((x + 4 - y) % 4) r

/-- The values behind precoded symbols, after the symbol `y`. -/
def unprecode (y : Nat) : List Nat → List Nat
  | [] => []
  | z :: r => (z + y) % 4 :: unprecode z r

/-- The symbols that lane l of BED_b sends for PCS bit pairs from the start of training on; a symbol's level is `pamLevel`. -/
def laneSymbols (s : State) (b l : Nat) (bits : List (Bool × Bool)) : List Nat :=
  if flag s (HL_LANE_CTRL.TX_PRECODE b l) then precode 0 (bits.map grayPair) else bits.map grayPair
def pamLevel (y : Nat) : Int := 2 * y - 3

/-- The Gray values that its receiver recovers from the symbols that it decides. -/
def laneValues (s : State) (b l : Nat) (ys : List Nat) : List Nat :=
  if flag s (HL_LANE_CTRL.RX_PRECODE b l) then unprecode 0 ys else ys

/-- What the HOST_TX lands of a lane carry. -/
inductive LaneTx where
  | idle                           -- electrical idle
  | looped                         -- the symbols decided on the lane's own receiver
  | pattern (n : Nat)              -- 1 PRBS13Q, 2 PRBS31Q, 3 SSPRQ
  | pcs                            -- PCS data or idles
  deriving DecidableEq, Repr

/-- The source of a lane's HOST_TX lands: its loopback, its test pattern, or what its port or its graft sends. -/
def laneTx (s : State) (b l : Nat) : LaneTx :=
  let st := rd s (HL_LANE_STAT.STATE b l)
  if !lineUp s || s.power.down.isSome || !flag s (HL_LANE_CTRL.ENABLE b l) || st = 5 then .idle
  else if rd s (HL_LANE_CTRL.LOOPBACK b l) = 3 then .looped
  else if rd s (HL_LANE_CTRL.LOOPBACK b l) ≠ 0 then .idle
  else if rd s (HL_LANE_CTRL.PRBS_TX b l) ≠ 0 then .pattern (rd s (HL_LANE_CTRL.PRBS_TX b l))
  else if st = 0 || flag s (HL_LANE_STAT.TX_DOZE b l) then .idle
  else .pcs

/-- One bit of a pattern's generator, whose register holds the last bits with the newest at bit 0: PRBS13, x^13 + x^12 + x^2 + x + 1, or
PRBS31, x^31 + x^28 + 1, which is sent inverted. (In part PRESUMED, log entry 44.) -/
def patternBit (n r : Nat) : Bool × Nat :=
  if n = 1 then
    let x := xorBits r [0, 1, 11, 12]
    (x, (2 * r + b2n x) % 2 ^ 13)
  else
    let x := xorBits r [27, 30]
    (!x, (2 * r + b2n x) % 2 ^ 31)
where
  /-- The XOR of the bits of a register. -/
  xorBits (r : Nat) (l : List Nat) : Bool := l.foldl (fun a i => xor a (bitAt r i)) false

/-- The next Gray value of pattern n, 1 PRBS13Q, 2 PRBS31Q, 3 SSPRQ, and where the pattern stands after it (R527). (In part PRESUMED, log entry 44.) -/
def patternNext (n r : Nat) : Nat × Nat :=
  if n = 3 then (Config.ssprq (r % 65535) % 4, r + 1)
  else
    let x := patternBit n r
    let y := patternBit n x.2
    (grayPair (x.1, y.1), y.2)

/-- `k` Gray values of pattern n from where it stands at `r`. -/
def patternSyms (n : Nat) : Nat → Nat → List Nat
  | 0, _ => []
  | k + 1, r => (patternNext n r).1 :: patternSyms n k (patternNext n r).2

/-- What a lane that sends a pattern sends first (R527). -/
def patternTx (s : State) (b l k : Nat) : List Nat :=
  let n := rd s (HL_LANE_CTRL.PRBS_TX b l)
  patternSyms n k (Config.patternSeed n (34 * b + l))

/-- The symbol errors that the lane's pattern checker counts (R527). -/
def patternErrors (n : Nat) (x : PrbsRx) : Nat :=
  ((x.syms.zip (patternSyms n x.syms.length x.start)).filter fun e => e.1 ≠ e.2).length

/-- A locked or bridging lane's receiver has adapted, unless ADAPT_FREEZE holds its taps; what they become is free. (In part DESIGN CHOICE, log entry 9.) -/
def adaptLane (s : State) (b l : Nat) : State :=
  let st := rd s (HL_LANE_STAT.STATE b l)
  if flag s (HL_LANE_CTRL.ADAPT_FREEZE b l) || (st ≠ 2 && st ≠ 4) then s
  else { s with
    lane := { s.lane with eq := s.lane.eq.insert (34 * b + l) ((List.range 34).map fun i => Config.freeNat (s.freeCtr + i)) }
    freeCtr := s.freeCtr + 34 }

/-! ### Port states (R521) -/

/-- A field of every lane of a port. -/
def setLanes (s : State) (p : Nat) (f : Nat → Nat → Fld) (v : Nat) : State :=
  (portLanes s p).foldl (fun t l => wr t (f (p / 32) l) v) s

/-- The lanes of a port that are in STATE `a` enter STATE `z`. -/
def moveLanes (s : State) (p a z : Nat) : State :=
  (portLanes s p).foldl (fun t l =>
    if rd t (HL_LANE_STAT.STATE (p / 32) l) = a then wr t (HL_LANE_STAT.STATE (p / 32) l) z else t) s

/-- A port's dozing transmitters wake (R538). -/
def wakeTx (s : State) (p : Nat) : State := setLanes (setFlag s (HL_PORT.TX_DOZING p) false) p HL_LANE_STAT.TX_DOZE 0

/-- The doze of a port's lanes ends. -/
def endDoze (s : State) (p : Nat) : State :=
  let b := p / 32
  let s1 := (portLanes s p).foldl (fun t l =>
    let t1 := wr (wr t (HL_LANE_STAT.TX_DOZE b l) 0) (HL_LANE_STAT.RX_DOZE b l) 0
    if rd t1 (HL_LANE_STAT.STATE b l) = 3 then wr t1 (HL_LANE_STAT.STATE b l) 1 else t1) s
  let s2 := { s1 with lane := { s1.lane with waking := s1.lane.waking.erase p } }
  wr (wr s2 (HL_PORT.TX_DOZING p) 0) (HL_PORT.RX_DOZING p) 0

/-- A notification of type 3 for a change of port p into or out of UP (R502, R521): to PF0 and to the port's bed. -/
def notifyPort (s : State) (p : Nat) (up : Bool) : State :=
  let a := 256 * p + b2n up
  notify (notify s 0 3 a) (p / 32 + 1) 3 a

/-- A port enters state `st`, not UP: what it queued is discarded (R317), its doze ends, and a port that was UP says so. -/
def portLeave (s : State) (p st : Nat) : State :=
  let up : Bool := rd s (HL_PORT.STATE p) = 2
  let s1 := wr (flushPort (endDoze s p) p) (HL_PORT.STATE p) st
  if up then notifyPort s1 p false else s1

/-- Receiver adaptation starts on a lane (R521): TRAINING, unless it is fenced, bridging or locked already. -/
def trainLane (s : State) (b l : Nat) : State :=
  let st := rd s (HL_LANE_STAT.STATE b l)
  if st = 0 ∨ st = 3 then wr s (HL_LANE_STAT.STATE b l) 1 else s

/-- A DOWN port goes to TRAINING when every lane of its slots is fit for it and no bed reset is in progress. -/
def tryTrain (s : State) (p : Nat) : State :=
  let b := p / 32
  if portFormed s p && rd s (HL_PORT.STATE p) = 0 && rd s (HL_PORT.WIDTH p) ≠ 0 && !s.lane.resetting.contains b && s.power.down.isNone
      && !rowGone s (p / 8) && (portSlots s p).all (fun i => !slotFenced s b i)
      && (portLanes s p).all (laneOk s b) then
    (portLanes s p).foldl (fun t l => trainLane t b l) (wr s (HL_PORT.STATE p) 1)
  else s

/-- Ports of a row, and the lanes of each, in a mode (R519). -/
def modePorts (m : Nat) : Nat := 2 ^ m
def modeWidth (m : Nat) : Nat := 8 / 2 ^ m

/-- The largest aligned block of the slots `first` to `first + width - 1` without a fenced slot, below `width` (R535): first
slot and width within the row. -/
def reformBlock (s : State) (p first width : Nat) : Option (Nat × Nat) :=
  let b := p / 32
  let base := 8 * (p / 8 % 4)
  let try1 (w : Nat) : Option (Nat × Nat) :=
    if w = 0 ∨ width ≤ w then none
    else
      (firstBelow (width / w) fun j => (List.range w).all fun i => !slotFenced s b (base + first + w * j + i)).map
        fun j => (first + w * j, w)
  match try1 4 with
  | some x => some x
  | none =>
    match try1 2 with
    | some x => some x
    | none => try1 1

/-- The port re-forms under R535 on a block of its own slots, those of R519, or stays DOWN. (In part DEDUCED, log entry 23.) -/
def reformPort (s : State) (p : Nat) : State :=
  let g := p / 8
  let w := modeWidth (rd s (HL_ROW.MODE g))
  let s1 := portLeave s p 0
  if flag s (HL_ROW.AUTO_REFORM g) then
    match reformBlock s p (p % 8 * w) w with
    | some (f, w) => tryTrain (setFlag (wr (wr s1 (HL_PORT.FIRST p) f) (HL_PORT.WIDTH p) w) (HL_PORT.REFORMED p) true) p
    | none => wr s1 (HL_PORT.WIDTH p) 0
  else s1

/-- One place of a row formed from the row's MODE (R519): DOWN, then TRAINING if it may; places the mode does not use
stay unformed. -/
def formPort (s : State) (p : Nat) : State :=
  let m := rd s (HL_ROW.MODE (p / 8))
  let i := p % 8
  if i < modePorts m then
    let w := modeWidth m
    let s0 := { s with lane := { s.lane with fault := s.lane.fault.erase p } }
    let s1 := wr (wr (wr s0 (HL_PORT.STATE p) 0) (HL_PORT.WIDTH p) w) (HL_PORT.FIRST p) (i * w)
    let s2 := wr (wr s1 (HL_PORT.REFORMED p) 0) (HL_PORT.RF p) 0
    if (portSlots s2 p).any (slotFenced s2 (p / 32)) then reformPort s2 p else tryTrain s2 p
  else s

/-- One place ceases to be formed. -/
def unformPort (s : State) (p : Nat) : State :=
  if portFormed s p then
    let s0 := portLeave s p 3
    let s1 := showAsserted { s0 with
      sched := { s0.sched with hold := s0.sched.hold.erase p }
      lane := { s0.lane with fault := s0.lane.fault.erase p } } p
    wr (wr (wr (wr s1 (HL_PORT.WIDTH p) 0) (HL_PORT.FIRST p) 0) (HL_PORT.REFORMED p) 0) (HL_PORT.RF p) 0
  else s

/-- The eight places of ROW_g. -/
def rowPlaces (g : Nat) : List Nat := (List.range 8).map (8 * g + ·)

/-- ROW_g formed from its MODE; R312 applies to its ports. -/
def formRow (s : State) (g : Nat) : State := (rowPlaces g).foldl holdPort (poolUpdate ((rowPlaces g).foldl formPort s))

/-- ROW_g's ports cease to be formed. -/
def unformRow (s : State) (g : Nat) : State := poolUpdate ((rowPlaces g).foldl unformPort s)

/-- Every row formed, on entry to JOIN (R570). -/
def formAll (s : State) : State := (List.range (rows s)).foldl formRow s

/-- Every port ceases to be formed (R570). -/
def unformAll (s : State) : State := (List.range (rows s)).foldl unformRow s

/-- A port of the row runs below its width: re-formed, or with no block left (R535). -/
def rowNarrow (s : State) (g : Nat) : Bool :=
  (rowPlaces g).any fun p => portFormed s p && (flag s (HL_PORT.REFORMED p) || rd s (HL_PORT.WIDTH p) = 0)

/-- A MODE write takes effect (R520); one that writes MODE again restores the full width of re-formed ports (R536). (In part DEDUCED, log entry 23.) -/
def applyMode (s : State) (g m : Nat) : State :=
  if rd s (HL_ROW.MODE g) = m ∧ rowNarrow s g = false then s
  else if lineUp s then
    let s1 := wr (unformRow s g) (HL_ROW.MODE g) m
    formRow s1 g
  else wr s (HL_ROW.MODE g) m

/-- A lane graft of ROW_g, or of BED_b, is in progress, from its first scrub on (R418, R533). -/
def rowGrafts (s : State) (g : Nat) : Bool := s.rake.grafts.any fun x => x.unit.cls = .lane && x.serves / 8 = g
def bedGrafts (s : State) (b : Nat) : Bool := s.rake.grafts.any fun x => x.unit.cls = .lane && x.serves / 32 = b

/-- A MODE write that waited for the row's lane grafts takes effect. -/
def releaseMode (s : State) (g : Nat) : State :=
  match s.lane.held.find g with
  | none => s
  | some m =>
    if rowGrafts s g then s
    else applyMode (setFlag { s with lane := { s.lane with held := s.lane.held.erase g } } (HL_ROW.PENDING g) false) g m

/-! ### Handshake frames (R529 to R531) -/

/-- The port on which a handshake frame about a slot leaves: the one that holds it when UP, else the bed's
lowest-numbered UP port. -/
def hsPort (s : State) (b slot : Nat) : Option Nat :=
  match (portOfSlot s b slot).filter (portUpNow s) with
  | some p => some p
  | none => ((List.range 32).map (32 * b + ·)).find? (portUpNow s)

/-- A handshake frame leaves port p, whose transmitters wake for it (R538). (In part DEDUCED, log entry 23.) -/
def emitHs (s0 : State) (p ty slot spare flags : Nat) : State :=
  let s := if flag s0 (HL_PORT.TX_DOZING p) then wakeTx s0 p else s0
  let b := p / 32
  let n := s.lane.seq.get b 0
  let f : List Byte := beBytes 6 0x0180C2000002 ++ portMac s p ++ beBytes 2 0x8809 ++ beBytes 1 0x0A ++
    beBytes 3 (rd s HL_OSSP.OUI) ++ beBytes 1 1 ++ beBytes 1 ty ++ beBytes 2 n ++ beBytes 1 slot ++ beBytes 1 spare ++
    beBytes 1 flags ++ List.replicate 35 0
  emit { s with lane := { s.lane with seq := s.lane.seq.set b ((n + 1) % 65536) 0 } } (.frame p (wireFrame f))

/-- A handshake frame about a slot is sent, if a port can carry it. -/
def sendHs (s : State) (b ty slot spare : Nat) : State :=
  match hsPort s b slot with
  | some p => emitHs s p ty slot spare 0
  | none => s

/-- The handshake of the graft onto lane q, 34 · bed + the spare's position. -/
def laneGraft (s : State) (q : Nat) : Option LaneGraft := s.lane.graft.find q

def putLaneGraft (s : State) (q : Nat) (g : LaneGraft) : State :=
  { s with lane := { s.lane with graft := s.lane.graft.insert q g } }

/-- The lane bridges, or is in a graft from its first scrub on. -/
def laneBusy (s : State) (b l : Nat) : Bool :=
  rd s (HL_LANE_STAT.STATE b l) = 4 ||
    s.rake.grafts.any fun g => g.unit.cls = .lane && (g.spare.idx = 34 * b + l || g.unit.idx = 34 * b + l && !g.fenced)

/-- The lane's port is UP, or the lane bridges (R528). -/
def laneServes (s : State) (b l : Nat) : Bool :=
  rd s (HL_LANE_STAT.STATE b l) = 4 ||
    match laneSlot s b l with
    | some i => ((portOfSlot s b i).map (portUpNow s)).getD false
    | none => false

/-! ### Doze (R537) -/

/-- The conditions of R537, the 10 µs apart. -/
def dozeOk (s : State) (p : Nat) : Bool :=
  let b := p / 32
  flag s (HL_BED.TX_DOZE_EN b) && flag s (HL_BED.PARTNER_RXDOZE b) && portUpNow s p
    && (portLanes s p).all (fun l => laneOk s b l && decide (rd s (HL_LANE_STAT.STATE b l) ≠ 4))
    && !flag s (SCHED_GATE_CTRL.GATE_EN (p / 8))
    && (List.range 256).all (fun n =>
      let a := rd s TRELLIS_STATUS.ACTIVE
      !(flag s (TRELLIS_TRIB.ENABLE a n) && 8 * rd s (TRELLIS_TRIB.GROW a n) + rd s (TRELLIS_TRIB.PORT a n) = p))
    && (List.range 8).all (fun q => (dnQueue s p q).isEmpty)
    && (s.sched.gen.get p []).isEmpty && !s.sched.busy.has p
    && rd s (SCHED_UP_PORT_USE.USED p) = 0 && !flag s (SCHED_UP_PORT_USE.ASSERTED p)

end Sys2Proof.Machine
end

