-- ==== Sys2Proof/Machine/OpsBed.lean ====
section
/-!
DEFINITION. Bed resets (R505 to R508).
-/

namespace Sys2Proof.Machine

/-- Pause asserted on a port clears (R506). -/
def clearPause (s : State) (p : Nat) : State :=
  let s1 := { s with sched := { s.sched with press := s.sched.press.filter (· ≠ p), hold := s.sched.hold.set p 0 0 } }
  setFlag s1 (SCHED_UP_PORT_USE.ASSERTED p) false

/-- The lanes of BED_b that train, run or doze go to electrical idle. (In part DEDUCED, log entry 23.) -/
def idleLane (b : Nat) (s : State) (l : Nat) : State :=
  let st := rd s (HL_LANE_STAT.STATE b l)
  if 1 ≤ st ∧ st ≤ 3 then wr s (HL_LANE_STAT.STATE b l) 0 else s

/-- A bed reset of BED_b starts (R506): its ports go DOWN, its lanes idle, its function is reset. -/
def startBed (s : State) (b : Nat) : State :=
  let s1 := setFlag (setFlag s (MGMT_BED.BUSY b) true) (BEDM_CTRL.BUSY (b + 1)) true
  let s2 := { s1 with
    lane := { s1.lane with resetting := b :: s1.lane.resetting }
    mgmt := { s1.mgmt with bedWait := s1.mgmt.bedWait.erase b } }
  let s3 := ((List.range 32).map (32 * b + ·)).foldl (fun t p => if portFormed t p then clearPause (portLeave t p 0) p else t) s2
  poolUpdate (fnClear ((List.range 34).foldl (idleLane b) s3) (b + 1))

/-- A bed reset that waited for a lane graft of the bed starts when no such graft is in progress any more (R505). -/
def releaseBed (s : State) (b : Nat) : State :=
  if s.mgmt.bedWait.contains b && !bedGrafts s b then startBed s b else s

/-- A bed reset of BED_b is requested. (In part DEDUCED, log entry 23.) -/
def askBed (s : State) (b : Nat) : State :=
  if s.lane.resetting.contains b ∨ s.mgmt.bedWait.contains b ∨ beds s ≤ b then s
  else if bedGrafts s b then { s with mgmt := { s.mgmt with bedWait := s.mgmt.bedWait ++ [b] } }
  else startBed s b

/-- A bed reset ends (R506): the lanes restart training, and R312 applies to the ports again. -/
def endBed (s : State) (b : Nat) : State :=
  let s1 := setFlag (setFlag s (MGMT_BED.BUSY b) false) (BEDM_CTRL.BUSY (b + 1)) false
  let s2 := notify (bump { s1 with lane := { s1.lane with resetting := s1.lane.resetting.erase b } } (MGMT_BED.RESETS b) 1) 0 6 b
  let ps := (List.range 32).map (32 * b + ·)
  ps.foldl holdPort (poolUpdate (ps.foldl tryTrain s2))

end Sys2Proof.Machine
end

