-- ==== Sys2Proof/Machine/Crypto.lean ====
section
/-!
DEFINITION. The cryptography that chapters 05, 10, 11 and 15 name: AES-256 (FIPS 197), GCM (SP 800-38D), RFC 3394 unwrap,
SHA-384, HMAC and HKDF, and the curve P-384 with ECDH and ECDSA. Byte strings are big-endian.
-/

namespace Sys2Proof.Machine

/-! ### AES-256 -/

/-- The AES S-box, entry i in bits 8·i+7 to 8·i. -/
def sboxTable : Nat := 0x16bb54b00f2d99416842e6bf0d89a18cdf2855cee9871e9b948ed9691198f8e19e1dc186b95735610ef6034866b53e708a8bbd4b1f74dde8c6b4a61c2e2578ba08ae7a65eaf4566ca94ed58d6d37c8e779e4959162acd3c25c2406490a3a32e0db0b5ede14b8ee4688902a22dc4f816073195d643d7ea7c41744975fec130ccdd2f3ff1021dab6bcf5389d928f40a351a89f3c507f02f94585334d43fbaaefd0cf584c4a39becb6a5bb1fc20ed00d153842fe329b3d63b52a05a6e1b1a2c830975b227ebe28012079a059618c323c7041531d871f1e5a534ccf73f362693fdb7c072a49cafa2d4adf04759fa7dc982ca76abd7fe2b670130c56f6bf27b777c63
/-- The inverse S-box. -/
def isboxTable : Nat := 0x7d0c2155631469e126d677ba7e042b17619953833cbbebc8b0f52aae4d3be0a0ef9cc9939f7ae52d0d4ab519a97f51605fec8027591012b131c7078833a8dd1ff45acd78fec0db9a2079d2c64b3e56fc1bbe18aa0e62b76f89c5291d711af1476edf751ce837f9e28535ade72274ac9673e6b4f0cecff297eadc674f4111913a6b8a130103bdafc1020f3fca8f1e2cd00645b3b80558e4f70ad3bc8c00abd890849d8da75746155edab9edfd5048706c92b6655dcc5ca4d41698688664f6f87225d18b6d49a25b76b224d92866a12e084ec3fa420b954cee3d23c2a632947b54cbe9dec444438e3487ff2f9b8239e37cfbd7f3819ea340bf38a53630d56a0952
def sbox (x : Nat) : Nat := bits sboxTable (8 * x) 8
def isbox (x : Nat) : Nat := bits isboxTable (8 * x) 8

/-- Multiplication by x in the AES field. -/
def xtime (a : Nat) : Nat := Nat.xor (2 * a) (0x11B * (a / 128))

/-- Multiplication in the AES field by a factor below 16. -/
def aesMul (a c : Nat) : Nat :=
  let a2 := xtime a
  let a4 := xtime a2
  let a8 := xtime a4
  Nat.xor (Nat.xor (a * (c % 2)) (a2 * (c / 2 % 2))) (Nat.xor (a4 * (c / 4 % 2)) (a8 * (c / 8 % 2)))

/-- XOR of two lists. -/
def xorL (a b : List Nat) : List Nat := List.zipWith Nat.xor a b

/-- One word of the key schedule: `i` its number, `w` the words so far, newest first. -/
def aesKeyWord (i rcon : Nat) (w : List (List Nat)) : List Nat :=
  let t := w.getD 0 []
  let t1 := if i % 8 = 0 then xorL ((t.tail ++ t.take 1).map sbox) [rcon, 0, 0, 0]
    else if i % 8 = 4 then t.map sbox else t
  xorL (w.getD 7 []) t1

/-- The key schedule extended by `n` words from word `i` on. -/
def aesExpand (n i rcon : Nat) (w : List (List Nat)) : List (List Nat) :=
  match n with
  | 0 => w
  | m + 1 => aesExpand m (i + 1) (if i % 8 = 0 then xtime rcon else rcon) (aesKeyWord i rcon w :: w)

/-- The 15 round keys, 16 bytes each, first round first. -/
def aesRoundKeys (key : List Byte) : List (List Nat) :=
  let k := key.map (·.toNat)
  let w0 := ((List.range 8).map fun i => (k.drop (4 * i)).take 4).reverse
  let ws := (aesExpand 52 8 1 w0).reverse
  (List.range 15).map fun r => ((ws.drop (4 * r)).take 4).flatten

/-- ShiftRows; the state is 16 bytes column by column. -/
def shiftRows (s : List Nat) : List Nat := (List.range 16).map fun i => s.getD ((i + 4 * (i % 4)) % 16) 0
def ishiftRows (s : List Nat) : List Nat := (List.range 16).map fun i => s.getD ((i + 16 - 4 * (i % 4)) % 16) 0

/-- MixColumns with the circulant row m0 m1 m2 m3, column by column. -/
def mixCols (m0 m1 m2 m3 : Nat) (s : List Nat) : List Nat :=
  match s with
  | a :: b :: c :: d :: r =>
    let f (w x y z : Nat) : Nat := Nat.xor (Nat.xor (aesMul w m0) (aesMul x m1)) (Nat.xor (aesMul y m2) (aesMul z m3))
    f a b c d :: f b c d a :: f c d a b :: f d a b c :: mixCols m0 m1 m2 m3 r
  | _ => []

/-- AES-256 on one block of 16 bytes, under its round keys. -/
def aesBlock (rk : List (List Nat)) (blk : List Nat) : List Nat :=
  let s0 := xorL blk (rk.getD 0 [])
  let s13 := ((rk.drop 1).take 13).foldl (fun s k => xorL (mixCols 2 3 1 1 (shiftRows (s.map sbox))) k) s0
  xorL (shiftRows (s13.map sbox)) (rk.getD 14 [])

/-- The inverse of `aesBlock`. -/
def aesInvBlock (rk : List (List Nat)) (blk : List Nat) : List Nat :=
  let s0 := (ishiftRows (xorL blk (rk.getD 14 []))).map isbox
  let s13 := (((rk.drop 1).take 13).reverse).foldl
    (fun s k => (ishiftRows (mixCols 14 11 13 9 (xorL s k))).map isbox) s0
  xorL s13 (rk.getD 0 [])

/-- 16 bytes of a Nat, and the Nat of 16 bytes. -/
def blkOf (v : Nat) : List Nat := (beBytes 16 v).map (·.toNat)
def blkNat (l : List Nat) : Nat := l.foldl (fun a x => a * 256 + x) 0

/-! ### GCM (R331 to R334) -/

/-- Multiplication in GHASH's field: `n` bits of `x` are left, `v` is the shifted multiplicand, `z` the sum. -/
def ghashMulN (n x v z : Nat) : Nat :=
  match n with
  | 0 => z
  | m + 1 =>
    ghashMulN m x (if v % 2 = 1 then Nat.xor (v / 2) (0xE1 * 2 ^ 120) else v / 2) (if bitAt x m then Nat.xor z v else z)
def ghashMul (x h : Nat) : Nat := ghashMulN 128 x h 0

/-- `n` blocks of a byte string, the last padded with 0. -/
def blocks16 (l : List Byte) : List Nat := (List.range (ceilDiv l.length 16)).map fun i => beAt l (16 * i) 16

/-- GHASH of AAD and ciphertext. -/
def ghash (h : Nat) (aad c : List Byte) : Nat :=
  (blocks16 aad ++ blocks16 c ++ [aad.length * 8 * 2 ^ 64 + c.length * 8]).foldl (fun y x => ghashMul (Nat.xor y x) h) 0

/-- The counter-mode stream of `n` blocks after J0. -/
def ctrStream (rk : List (List Nat)) (iv n : Nat) : List Byte :=
  (List.range n).flatMap fun i => (aesBlock rk (blkOf (iv * 2 ^ 32 + 2 + i))).map (BitVec.ofNat 8)

def xorBytes (a b : List Byte) : List Byte := List.zipWith (· ^^^ ·) a b

/-- The tag of a ciphertext. -/
def gcmTag (rk : List (List Nat)) (iv : Nat) (aad c : List Byte) : List Byte :=
  let h := blkNat (aesBlock rk (blkOf 0))
  beBytes 16 (Nat.xor (ghash h aad c) (blkNat (aesBlock rk (blkOf (iv * 2 ^ 32 + 1)))))

/-- GCM encryption: ciphertext followed by the 16-byte tag; `iv` is the 96-bit IV. -/
def gcmEnc (key : List Byte) (iv : Nat) (aad p : List Byte) : List Byte :=
  let rk := aesRoundKeys key
  let c := xorBytes p (ctrStream rk iv (ceilDiv p.length 16))
  c ++ gcmTag rk iv aad c

/-- GCM decryption; none where the tag does not verify. -/
def gcmDec (key : List Byte) (iv : Nat) (aad ct : List Byte) : Option (List Byte) :=
  let rk := aesRoundKeys key
  let c := ct.take (ct.length - 16)
  if ct.drop (ct.length - 16) = gcmTag rk iv aad c then some (xorBytes c (ctrStream rk iv (ceilDiv c.length 16))) else none

/-! ### RFC 3394 (R197) -/

/-- One step of the unwrap: A and the registers R1 to R4; `t` counts down from 24. -/
def unwrapStep (rk : List (List Nat)) (s : Nat × List Nat) (t : Nat) : Nat × List Nat :=
  let i := (t - 1) % 4
  let b := blkNat (aesInvBlock rk (blkOf (Nat.xor s.1 t * 2 ^ 64 + s.2.getD i 0)))
  (b / 2 ^ 64, setAt s.2 i (b % 2 ^ 64))

/-- The 32-byte key wrapped in 40 bytes under kek; none where the integrity check fails. -/
def keyUnwrap (kek wrapped : List Byte) : Option (List Byte) :=
  let r := (List.range 24).foldl (fun s j => unwrapStep (aesRoundKeys kek) s (24 - j))
    (beAt wrapped 0 8, (List.range 4).map fun i => beAt wrapped (8 + 8 * i) 8)
  if r.1 = 0xA6A6A6A6A6A6A6A6 then some (r.2.flatMap (beBytes 8)) else none

/-! ### SHA-384, HMAC, HKDF (R193, R195) -/

/-- SHA-512's round constants, constant i in bits 64·i+63 to 64·i. -/
def sha512K : Nat := 0x6c44198c4a4758175fcb6fab3ad6faec597f299cfc657e2a4cc5d4becb3e42b6431d67c49c100d4c3c9ebe0a15c9bebc32caab7b40c7249328db77f523047d841b710b35131c471b113f9804bef90dae0a637dc5a2c898a606f067aa72176fbaf57d4f7fee6ed178eada7dd6cde0eb1ed186b8c721c0c207ca273eceea26619cc67178f2e372532bbef9a3f7b2c67915a4506cebde82bde990befffa23631e288cc702081a6439ec84c87814a1f0ab7278a5636f43172f60748f82ee5defb2fc682e6ff3d6b2b8a35b9cca4f7763e3734ed8aa4ae3418acb391c0cb3c5c95a6334b0bcb5e19b48a82748774cdf8eeb991e376c085141ab5319a4c116b8d2d0c8106aa07032bbd1b8f40e35855771202ad69906245565a910d192e819d6ef5218c76c51a30654be30c24b8b70d0f89791a81a664bbc423001a2bfe8a14cf1036492722c851482353b81c2c92e47edaee6766a0abb3c77b2a8650a73548baf63de53380d139d95b3df4d2c6dfc5ac42aed2e1b21385c26c92627b70a8546d22ffc142929670a0e6e7006ca6351e003826fd5a79147930aa725c6e00bf33da88fc2bf597fc7beef0ee4b00327c898fb213fa831c66d2db43210983e5152ee66dfab76f988da831153b55cb0a9dcbd41fbd44a7484aa6ea6e4832de92c6f592b0275240ca1cc77ac9c650fc19dc68b8cd5b5efbe4786384f25e3e49b69c19ef14ad2c19bf174cf6926949bdc06a725c7123580deb1fe3b1696b172be5d74f27b896f550c7dc3d5ffb4e2243185be4ee4b28c12835b0145706fbed807aa98a3030242ab1c5ed5da6d8118923f82a4af194f9b59f111f1b605d0193956c25bf348b538e9b5dba58189dbbcb5c0fbcfec4d3b2f7137449123ef65cd428a2f98d728ae22

def w64 (v : Nat) : Nat := v % 2 ^ 64
def rotr64 (n v : Nat) : Nat := v / 2 ^ n + v % 2 ^ n * 2 ^ (64 - n)
def xor3 (a b c : Nat) : Nat := Nat.xor (Nat.xor a b) c

/-- The message schedule extended by `n` words; newest first. -/
def shaSched (n : Nat) (w : List Nat) : List Nat :=
  match n with
  | 0 => w
  | m + 1 =>
    let a := w.getD 14 0
    let e := w.getD 1 0
    let s0 := xor3 (rotr64 1 a) (rotr64 8 a) (a / 2 ^ 7)
    let s1 := xor3 (rotr64 19 e) (rotr64 61 e) (e / 2 ^ 6)
    shaSched m (w64 (w.getD 15 0 + s0 + w.getD 6 0 + s1) :: w)

/-- One round on the eight working variables. -/
def shaRound (v : List Nat) (kw : Nat) : List Nat :=
  match v with
  | [a, b, c, d, e, f, g, h] =>
    let s1 := xor3 (rotr64 14 e) (rotr64 18 e) (rotr64 41 e)
    let ch := Nat.xor (Nat.land e f) (Nat.land (2 ^ 64 - 1 - e) g)
    let t1 := h + s1 + ch + kw
    let s0 := xor3 (rotr64 28 a) (rotr64 34 a) (rotr64 39 a)
    let mj := xor3 (Nat.land a b) (Nat.land a c) (Nat.land b c)
    [w64 (t1 + s0 + mj), a, b, c, w64 (d + t1), e, f, g]
  | _ => v

/-- One block of 128 bytes. -/
def shaBlock (h : List Nat) (blk : List Byte) : List Nat :=
  let w := (shaSched 64 ((List.range 16).map fun i => beAt blk (8 * i) 8).reverse).reverse
  let v := (List.zipWith (fun i x => bits sha512K (64 * i) 64 + x) (List.range 80) w).foldl shaRound h
  List.zipWith (fun a b => w64 (a + b)) h v

/-- SHA-384. -/
def sha384 (m : List Byte) : List Byte :=
  let z := (128 - (m.length + 17) % 128) % 128
  let p := m ++ [0x80] ++ List.replicate z 0 ++ beBytes 16 (m.length * 8)
  let h0 := [0xcbbb9d5dc1059ed8, 0x629a292a367cd507, 0x9159015a3070dd17, 0x152fecd8f70e5939, 0x67332667ffc00b31, 0x8eb44a8768581511, 0xdb0c2e0d64f98fa7, 0x47b5481dbefa4fa4]
  let h := (List.range (p.length / 128)).foldl (fun h i => shaBlock h (slice p (128 * i) 128)) h0
  (h.take 6).flatMap (beBytes 8)

/-- HMAC-SHA-384. -/
def hmac384 (key m : List Byte) : List Byte :=
  let k := padTo 128 (if 128 < key.length then sha384 key else key)
  sha384 (k.map (· ^^^ 0x5C) ++ sha384 (k.map (· ^^^ 0x36) ++ m))

/-- HKDF-Expand for at most 48 bytes. -/
def hkdfExpand (prk : List Byte) (info : List Byte) (n : Nat) : List Byte := (hmac384 prk (info ++ [1])).take n

/-- The bytes of an ASCII string. -/
def ascii (t : String) : List Byte := t.toList.map fun c => BitVec.ofNat 8 c.toNat

/-! ### P-384 (R193 to R195, R384) -/

def p384P : Nat := 0xfffffffffffffffffffffffffffffffffffffffffffffffffffffffffffffffeffffffff0000000000000000ffffffff
def p384B : Nat := 0xb3312fa7e23ee7e4988e056be3f82d19181d9c6efe8141120314088f5013875ac656398d8a2ed19d2a85c8edd3ec2aef
def p384N : Nat := 0xffffffffffffffffffffffffffffffffffffffffffffffffc7634d81f4372ddf581a0db248b0a77aecec196accc52973
def p384G : Nat × Nat :=
  (0xaa87ca22be8b05378eb1c71ef320ad746e1d3b628ba79b9859f741e082542a385502f25dbf55296c3a545e3872760ab7,
   0x3617de4a96262c6f5d9e98bf9292dc29f8f41dbd289a147ce9da3113b5f0b8c00a60b1ce1d7e819d7a431d7c90ea0e5f)

/-- b^e modulo m, over `n` bits of e, most significant first. -/
def powMod (n b e m : Nat) : Nat :=
  match n with
  | 0 => 1
  | k + 1 =>
    let r := powMod k b (e / 2) m
    if e % 2 = 1 then r * r % m * b % m else r * r % m

/-- The inverse modulo a prime below 2^384. -/
def invMod (a m : Nat) : Nat := powMod 384 (a % m) (m - 2) m

/-- Difference modulo p. -/
def subP (a b : Nat) : Nat := (a + p384P - b % p384P) % p384P

/-- The sum of two points; none is the point at infinity. -/
def ecAdd (a b : Option (Nat × Nat)) : Option (Nat × Nat) :=
  match a, b with
  | none, q => q
  | p, none => p
  | some (x1, y1), some (x2, y2) =>
    if x1 = x2 ∧ (y1 + y2) % p384P = 0 then none
    else
      let l := if x1 = x2 then subP (3 * x1 * x1) 3 * invMod (2 * y1) p384P % p384P
        else subP y2 y1 * invMod (subP x2 x1) p384P % p384P
      let x3 := subP (subP (l * l) x1) x2
      some (x3, subP (l * subP x1 x3) y1)

/-- A point as (X, Y, Z) for x = X / Z² and y = Y / Z³; Z = 0 is the point at infinity. -/
abbrev Jac := Nat × Nat × Nat

def mulP (a b : Nat) : Nat := a * b % p384P

/-- Twice a point. -/
def jacDbl (a : Jac) : Jac :=
  let (x, y, z) := a
  let d := mulP z z
  let g := mulP y y
  let b := mulP x g
  let l := mulP 3 (mulP (subP x d) (x + d))
  let x3 := subP (mulP l l) (8 * b)
  (x3, subP (mulP l (subP (4 * b) x3)) (8 * mulP g g), mulP (2 * y) z)

/-- The sum of two points. -/
def jacAdd (a b : Jac) : Jac :=
  let (x1, y1, z1) := a
  let (x2, y2, z2) := b
  if z1 = 0 then b
  else if z2 = 0 then a
  else
    let v1 := mulP z1 z1
    let v2 := mulP z2 z2
    let u1 := mulP x1 v2
    let s1 := mulP y1 (mulP v2 z2)
    let h := subP (mulP x2 v1) u1
    let r := subP (mulP y2 (mulP v1 z1)) s1
    if h = 0 then (if r = 0 then jacDbl a else (1, 1, 0))
    else
      let h2 := mulP h h
      let h3 := mulP h2 h
      let w := mulP u1 h2
      let x3 := subP (mulP r r) (h3 + 2 * w)
      (x3, subP (mulP r (subP w x3)) (mulP s1 h3), mulP h (mulP z1 z2))

/-- k times a point, over `n` bits of k. -/
def jacMulN (n k : Nat) (p : Jac) : Jac :=
  match n with
  | 0 => (1, 1, 0)
  | m + 1 =>
    let d := jacDbl (jacMulN m (k / 2) p)
    if k % 2 = 1 then jacAdd d p else d

/-- k times a point of the curve. -/
def ecMul (k : Nat) (p : Nat × Nat) : Option (Nat × Nat) :=
  let (x, y, z) := jacMulN 384 k (p.1, p.2, 1)
  if z = 0 then none
  else
    let i := invMod z p384P
    some (mulP x (mulP i i), mulP y (mulP i (mulP i i)))

/-- A point in SEC 1 uncompressed form; the identity has none. -/
def secOf1 (p : Option (Nat × Nat)) : List Byte :=
  match p with
  | some (x, y) => [0x04] ++ beBytes 48 x ++ beBytes 48 y
  | none => List.replicate 97 0

/-- The point of 97 bytes, where they are one on the curve. -/
def pointOf (l : List Byte) : Option (Nat × Nat) :=
  let x := beAt l 1 48
  let y := beAt l 49 48
  if beAt l 0 1 = 4 ∧ x < p384P ∧ y < p384P ∧ y * y % p384P = subP (x * x * x + p384B) (3 * x) then some (x, y) else none

/-- The public key of a private key. -/
def pubOf (d : Nat) : List Byte := secOf1 (ecMul d p384G)

/-- The x-coordinate of ECDH; none where the peer's key is no point. -/
def ecdhX (d : Nat) (peer : List Byte) : Option (List Byte) :=
  match pointOf peer with
  | some q => (ecMul d q).map fun r => beBytes 48 r.1
  | none => none

/-- ECDSA verification of a 48-byte hash. -/
def ecdsaVerify (pub hash sig : List Byte) : Bool :=
  let r := beAt sig 0 48
  let s := beAt sig 48 48
  match pointOf pub with
  | none => false
  | some q =>
    if r = 0 ∨ p384N ≤ r ∨ s = 0 ∨ p384N ≤ s then false
    else
      let w := invMod s p384N
      match ecAdd (ecMul (beNat hash * w % p384N) p384G) (ecMul (r * w % p384N) q) with
      | none => false
      | some v => v.1 % p384N = r

/-- The ECDSA signature of a 48-byte hash with private key d and nonce k. -/
def ecdsaSign (d k : Nat) (hash : List Byte) : List Byte :=
  match ecMul k p384G with
  | none => List.replicate 96 0
  | some v =>
    let r := v.1 % p384N
    beBytes 48 r ++ beBytes 48 ((beNat hash + r * d) % p384N * invMod k p384N % p384N)

end Sys2Proof.Machine
end

