-- ==== Sys2Proof/Machine/OpsUp.lean ====
section
/-!
DEFINITION. Allocation slots, transmit queues and bursts: the shared operations of chapter 04.
-/

namespace Sys2Proof.Machine

/-! ### Transmit queues (R146, R316) -/

/-- The FIFO of row r of the owning bed in queue q of a slot. -/
def fifoKey (slot q r : Nat) : Nat := (slot * 8 + q) * 4 + r
def fifo (s : State) (slot q r : Nat) : List UpFrame := s.burst.queues.get (fifoKey slot q r) []

def setFifo (s : State) (slot q r : Nat) (l : List UpFrame) : State :=
  { s with burst := { s.burst with queues := s.burst.queues.set (fifoKey slot q r) l [] } }

def setUpArb (s : State) (slot q : Nat) (a : Arb) : State :=
  { s with burst := { s.burst with arbs := s.burst.arbs.set (slot * 8 + q) a {} } }

def upArb (s : State) (slot q : Nat) : Arb := s.burst.arbs.get (slot * 8 + q) {}

/-- The row within its bed that a frame came from. -/
def UpFrame.row (f : UpFrame) : Nat := f.port / 8 % 4

/-- A frame joins the tail of its FIFO. -/
def pushUp (s : State) (f : UpFrame) : State :=
  let l := fifo s f.slot f.q f.row
  let s1 := if l.isEmpty then setUpArb s f.slot f.q ((upArb s f.slot f.q).join f.row) else s
  setFifo s1 f.slot f.q f.row (l ++ [f])

/-- A frame returns to the head of its FIFO (R137). -/
def unpopUp (s : State) (f : UpFrame) : State :=
  let l := fifo s f.slot f.q f.row
  let s1 := if l.isEmpty then setUpArb s f.slot f.q ((upArb s f.slot f.q).join f.row) else s
  setFifo s1 f.slot f.q f.row (f :: l)

/-- Every frame queued for a slot, queue 7 first. -/
def slotFrames (s : State) (slot : Nat) : List UpFrame :=
  (List.range 32).flatMap fun i => s.burst.queues.get (slot * 32 + (31 - i)) []

/-- A frame's size in a pod and in the reports: 2 + FLEN (R144). -/
def UpFrame.size (f : UpFrame) : Nat := 2 + f.bytes.length

/-- Bytes queued in one transmit queue. -/
def queueBytes (s : State) (slot q : Nat) : Nat :=
  (List.range 4).foldl (fun a r => (fifo s slot q r).foldl (fun x f => x + f.size) a) 0

/-- Arbiters whose members have lost their frames keep their V (R315). -/
def clearArbs (p : Nat → Bool) (t : Table Arb) : Table Arb :=
  t.filterMap fun e =>
    if p e.1 then (if e.2.clear = {} then none else some (e.1, e.2.clear)) else some e

/-- The queues of a slot emptied. -/
def emptySlot (s : State) (slot : Nat) : State :=
  { s with burst := { s.burst with
      queues := s.burst.queues.keep fun i => i / 32 ≠ slot
      arbs := clearArbs (fun i => i / 8 = slot) s.burst.arbs } }

/-- Frames that R137 returns: to the heads of their queues in their original order; those of a slot that is gone are
discarded. -/
def returnFrames (s : State) (l : List UpFrame) : State :=
  l.foldr (fun f t => if flag t (ALLOC_LO.VALID f.slot) then unpopUp t f else freeUp t f.port (cellsOf f.bytes.length)) s

/-- A burst that is not begun gives back what it chose: its frames (R137) and its tending pods. (In part DESIGN CHOICE, log entry 45.) -/
def returnBurst (s : State) (b : Burst) : State :=
  let s1 := returnFrames s b.frames
  let held : Bool := match b.slot with
    | some n => flag s (ALLOC_LO.VALID n)
    | none => false
  if held then { s1 with burst := { s1.burst with tend := b.tend ++ s1.burst.tend } } else s1

/-- The grants on upstream channel k from channel k's maps that are not yet served are discarded (R98). -/
def discardGrants (s : State) (k : Nat) : State :=
  let mine (g : Grant) : Bool := g.dn = k && g.ch = k
  let back := s.burst.bursts.filter fun b => mine b.grant
  let bs := { s.burst with
    grants := s.burst.grants.filter fun g => !mine g
    bursts := s.burst.bursts.filter fun b => !mine b.grant }
  back.foldr (fun b t => returnBurst t b) { s with burst := bs }

/-! ### Allocation slots (R155 to R157) -/

/-- The slot that holds an allocation ID (R134). -/
def slotOf (s : State) (id : Nat) : Option Nat :=
  firstBelow 256 fun n => flag s (ALLOC_LO.VALID n) && rd s (ALLOC_LO.ID n) = id

/-- The device's allocation slot. -/
def devSlot (s : State) : Option Nat :=
  firstBelow 256 fun n => flag s (ALLOC_LO.VALID n) && rd s (ALLOC_LO.OWNER n) = 8

/-- The result of R155 for a request. -/
def addResult (s : State) (id owner : Nat) : Nat :=
  if 9 ≤ owner ∨ (owner < 8 ∧ beds s ≤ owner) then 2
  else if (slotOf s id).isSome then 3
  else if owner = 8 ∧ (devSlot s).isSome then 4
  else if ((firstBelow 256 fun n => !flag s (ALLOC_LO.VALID n)) : Option Nat).isNone then 5
  else 1

/-- An allocation added under R155, with the result reported. -/
def addAlloc (s : State) (id owner key : Nat) : State :=
  let r := addResult s id owner
  let s1 := wr s BURST_ALLOC_ADD_HI.RESULT r
  if r = 1 then
    let n := (firstBelow 256 fun n => !flag s (ALLOC_LO.VALID n)).getD 0
    let s2 := wr (wr (setFlag s1 (ALLOC_LO.VALID n) true) (ALLOC_LO.OWNER n) owner) (ALLOC_LO.ID n) id
    let s3 := wr (wr s2 (ALLOC_HI.KEY n) key) BURST_ALLOC_ADD_HI.SLOT n
    wr s3 BURST_STATUS.ALLOC_USED (rd s BURST_STATUS.ALLOC_USED + 1)
  else if r = 5 then setFlag s1 BURST_STATUS.ALLOC_FULL true
  else s1

/-- A slot cleared. (In part DESIGN CHOICE, log entry 45.) -/
def clearSlot (s : State) (n : Nat) : State :=
  if flag s (ALLOC_LO.VALID n) then
    let s1 := wr (wr (wr s (ALLOC_LO.VALID n) 0) (ALLOC_LO.OWNER n) 0) (ALLOC_LO.ID n) 0
    wr (wr (wr s1 (ALLOC_LO.REMOVE n) 0) (ALLOC_HI.KEY n) 0) BURST_STATUS.ALLOC_USED (rd s BURST_STATUS.ALLOC_USED - 1)
  else s

/-- Is a burst of the slot in progress? -/
def slotOnAir (s : State) (n : Nat) : Bool := s.burst.air.any fun b => b.slot == some n

/-- A removal takes effect (R157): chosen frames come back, every frame is discarded and counted, scheduled grants to the
ID are not served and not counted. (In part DEDUCED, log entry 20.) -/
def applyRemove (s : State) (n : Nat) : State :=
  let id := rd s (ALLOC_LO.ID n)
  let mine := s.burst.bursts.filter fun b => b.slot == some n
  let back := mine.flatMap fun b => b.frames
  let bs := { s.burst with
    bursts := s.burst.bursts.filter fun b => b.slot != some n
    grants := s.burst.grants.filter fun g => !(g.kind ≠ 1 && g.alloc = id)
    tend := if rd s (ALLOC_LO.OWNER n) = 8 then [] else s.burst.tend
    removing := s.burst.removing.erase n }
  let s1 := returnFrames { s with burst := bs } back
  let all := slotFrames s1 n
  let s2 := bump (emptySlot s1 n) BURST_DROPX.REMOVED all.length
  clearSlot (freeUpAll s2 all) n

/-- Entering JOIN (R159): every slot cleared, every queued frame discarded without counting. -/
def clearSlots (s : State) : State :=
  let all := (List.range 256).flatMap (slotFrames s)
  let s1 := freeUpAll { s with burst := { s.burst with queues := [], arbs := clearArbs (fun _ => true) s.burst.arbs, tend := [], removing := [] } } all
  (List.range 256).foldl clearSlot s1

/-! ### Bursts in progress (R49, R137) -/

/-- Two grants on one channel overlap. -/
def overlaps (a b : Grant) : Bool :=
  a.ch = b.ch && a.t0 < b.t0 + b.len * 64 * 65536 && b.t0 < a.t0 + a.len * 64 * 65536

/-- Is a burst in progress on an upstream channel? -/
def onAir (s : State) (ch : Nat) : Bool := s.burst.air.any fun b => b.grant.ch = ch

/-- The value of C at the first symbol of a burst's ramp up, for a burst that leaves now: the guard is symbols 0 to 255 from
t_g0, where it leaves the block (R84, R139, R219). C goes on at its pace whatever happens to T. (In part DEDUCED, log entry 20.) -/
def rampAt (s : State) (g : Grant) : Nat :=
  let wait : Int := (g.t0 : Int) - 115 * (s.time.cal.get (64 + g.ch) 0 : Nat) + 256 * 65536 - 115 * (now s : Int)
  let tick : Int := 115 * 262144 * (2 ^ 48 + s.time.rate)
  (s.time.c + ((wait * 5 * 2 ^ 48 + tick - 1) / tick).toNat) % 2 ^ 64

/-- Has the ramp up of a burst that has left begun (R84)? -/
def rampBegun (s : State) (b : Burst) : Bool := decide ((s.time.c + 2 ^ 64 - b.lit) % 2 ^ 64 < 2 ^ 63)

/-- The transmitter of channel k, on its own channel or retuned (R190), is between the first symbol of a ramp up and the
last of a ramp down. -/
def emitting (s : State) (k : Nat) : Bool := s.burst.air.any fun b => b.grant.cnt = k && rampBegun s b

/-- The SOA of a channel goes dark in mid-burst: its burst is cut, its frames are lost, its grant counts in NOTX (R49). -/
def cutBurst (s : State) (ch : Nat) : State :=
  match s.burst.air.find? fun b => b.grant.ch = ch with
  | none => s
  | some b =>
    let s1 := { s with burst := { s.burst with air := s.burst.air.filter fun b => b.grant.ch ≠ ch } }
    emit (setFlag (bump s1 (BURST_SKIPX.NOTX b.grant.cnt) 1) (LTX_STATUS.SOA_ON b.grant.cnt) false) (.burstCut ch)

/-- Every SOA goes off: every burst in progress is cut (R49). -/
def cutBursts (s : State) : State := (List.range 64).foldl cutBurst s

end Sys2Proof.Machine
end

