-- ==== Sys2Proof/Machine/OpsLine.lean ====
section
/-!
DEFINITION. Lasers and the timing receiver: the shared operations of chapter 02.
-/

namespace Sys2Proof.Machine

/-! ### Engines and channels -/

/-- The receiver or transmitter engine that serves a channel. -/
def engOf (s : State) (tx : Bool) (k : Nat) : Nat := if tx then s.line.txEng.get k k else s.line.rxEng.get k k

/-- The key of an engine's laser: receivers at e, transmitters at 128 + e. -/
def laserKey (tx : Bool) (e : Nat) : Nat := if tx then 128 + e else e

def laserOf (s : State) (tx : Bool) (e : Nat) : Laser := s.line.lasers.get (laserKey tx e) {}

/-- The channel that an engine serves. -/
def servedCh (s : State) (tx : Bool) (e : Nat) : Option Nat := firstBelow (chans s) fun k => engOf s tx k = e

/-- The channel that an engine serves, or is being brought in to serve. -/
def chanOf (s : State) (tx : Bool) (e : Nat) : Option Nat :=
  match servedCh s tx e with
  | some k => some k
  | none => firstBelow (chans s) fun k => (if tx then s.line.txGraft else s.line.rxGraft).find k == some e

/-- Is the engine fenced? -/
def engFenced (s : State) (tx : Bool) (e : Nat) : Bool :=
  if tx then s.line.txFenced.contains e else s.line.rxFenced.contains e

/-- A laser's record replaced, and the LASER field of the channel that its engine serves. -/
def putLaser (s : State) (tx : Bool) (e : Nat) (l : Laser) : State :=
  let s1 := { s with line := { s.line with lasers := s.line.lasers.set (laserKey tx e) l {} } }
  match servedCh s tx e with
  | some k => if tx then wr s1 (LTX_STATUS.LASER k) l.st else wr s1 (LRX_STATUS.LASER k) l.st
  | none => s1

/-! ### The temperature polynomial (R50) -/

/-- The signed 16-bit range. -/
def sat16 (x : Int) : Int := clampInt (-32768) 32767 x

/-- The heater code for a temperature `t` in 1/256 °C. -/
def heaterCode (c : LaserCal) (t : Int) : Nat :=
  let x := sat16 (t - 25 * 256)
  let p1 := sat16 (roundHalfEven (c.a3 * x) (2 ^ 15) + c.a2)
  let p2 := sat16 (roundHalfEven (p1 * x) (2 ^ 15) + c.a1)
  (clampInt 0 65535 (c.hk + roundHalfEven (p2 * x) (2 ^ 18))).toNat

/-- The factory data of a laser for a channel. (In part DESIGN CHOICE, log entry 7.) -/
def calOf (s : State) (tx : Bool) (e ch : Nat) : LaserCal := s.line.cal.get (laserKey tx e * 64 + ch) {}

/-- The calibrated set point of a channel is applied (R48): TUNING. No laser is lit during R436. -/
def tuneLaser (s : State) (tx : Bool) (e ch : Nat) : State :=
  let l := laserOf s tx e
  if s.power.down.isSome then s
  else putLaser s tx e { l with st := 1, chan := ch, good := 0, temp := l.tnow, code := heaterCode (calOf s tx e ch) l.tnow }

/-- The laser is switched off: DARK. -/
def darkLaser (s : State) (tx : Bool) (e : Nat) : State := putLaser s tx e { laserOf s tx e with st := 0, good := 0 }

/-- A transmitter's SOA goes off at once: a burst on the channel that its laser stands on is cut (R48, R49). -/
def soaOff (s : State) (e : Nat) : State :=
  let l := laserOf s true e
  match servedCh s true e with
  | some _ => if l.st = 3 then cutBurst s l.chan else s
  | none => s

/-- The lasers of the enabled channels start to tune, on entry to JOIN. -/
def startLasers (s : State) : State :=
  (List.range (chans s)).foldl (fun t k =>
    let t1 := if flag t (LRX_CTRL.ENABLE k) && rd t (LRX_STATUS.LASER k) = 0 && !engFenced t false (engOf t false k)
      then tuneLaser t false (engOf t false k) k else t
    if flag t1 (LTX_CTRL.ENABLE k) && rd t1 (LTX_STATUS.LASER k) = 0 && !engFenced t1 true (engOf t1 true k)
      then tuneLaser t1 true (engOf t1 true k) k else t1) s

/-- A lock fault of the engine (R48, R408). -/
def lockFault (s : State) (tx : Bool) (e : Nat) : State :=
  match chanOf s tx e with
  | some k => raise s { kind := if tx then 3 else 1, scope := .row (k / 2), arg := k, loc := e }
  | none => s

/-- The transmitter of a channel is fit to emit (R136 check 4): LOCKED on its channel, enabled, licensed, not fenced. -/
def txReady (s : State) (k : Nat) : Bool :=
  k < chans s && flag s (LTX_CTRL.ENABLE k) && (laserOf s true (engOf s true k)).st = 3
    && (laserOf s true (engOf s true k)).chan = k && !engFenced s true (engOf s true k)

/-- The channel's receiver is fenced and nothing serves it (R428). -/
def rxGone (s : State) (k : Nat) : Bool := engFenced s false (engOf s false k)

/-! ### Receivers -/

def rxOf (s : State) (k : Nat) : Rx := s.line.rx.get k {}
def putRx (s : State) (k : Nat) (r : Rx) : State := { s with line := { s.line with rx := s.line.rx.set k r {} } }

/-- TIME ticks of one 0.5 µs segment. -/
def segTicks : Nat := 625

/-- A condition of R66 ends while channel k dozes: its run ends with the segment in progress. (In part DEDUCED, log entry 18.) -/
def cutDoze (s : State) (k : Nat) : State :=
  if flag s (LRX_STATUS.DOZING k) then
    let r := rxOf s k
    putRx s k { r with run := min r.run (1 + (s.time.c + 2 ^ 64 - r.since) % 2 ^ 64 / segTicks) }
  else s

/-! ### The Hunt's records (R94, R100, R567) -/

def huntOf (s : State) (k : Nat) : Hunt := s.hunts.get k {}
def putHunt (s : State) (k : Nat) (h : Hunt) : State := { s with hunts := s.hunts.set k h {} }

/-- Is the Hunt of channel k in SYNC? -/
def inSync (s : State) (k : Nat) : Bool := rd s (FRM_STATUS.STATE k) = 2

/-- EXT of channel k, while EXT_VALID is 1. -/
def extOf (s : State) (k : Nat) : Option Nat := if flag s (FRM_STATUS.EXT_VALID k) then some (huntOf s k).ext else none

/-- EXT_VALID of channel k clears: EXT is retained (R567), and EXT[47:32] holds 0 (R100). (In part DEDUCED, log entry 19.) -/
def dropExt (s : State) (k : Nat) : State :=
  if flag s (FRM_STATUS.EXT_VALID k) then
    let h := huntOf s k
    setFlag (putHunt s k { h with kept := some h.ext, ext := h.ext % 2 ^ 32 }) (FRM_STATUS.EXT_VALID k) false
  else s

/-- A cold reset ends the retention of R567 on every channel. (In part DEDUCED, log entry 19.) -/
def forgetExt (s : State) : State :=
  (List.range (chans s)).foldl (fun t k => putHunt t k { huntOf t k with kept := none }) s

/-- FREQ_ERR of a value in 1/1,024 MHz: units of 32 MHz, held within ±127. (In part DESIGN CHOICE, log entry 40.) -/
def freqErr (x : Int) : Int := clampInt (-127) 127 (roundHalfEven x 32768)

end Sys2Proof.Machine
end

