-- ==== Sys2Proof/Machine/OpsCipher.lean ====
section
/-!
DEFINITION. Tending messages on their way out, and the key vault: the shared operations of chapters 05 and 10.
-/

namespace Sys2Proof.Machine

/-! ### Tending messages sent (R163, R164, R167) -/

/-- A tending message: header, body, MCRC. -/
def tendMsg (ty seq : Nat) (body : List Byte) : List Byte :=
  let h : List Byte := beBytes 1 ty ++ [0] ++ beBytes 2 seq ++ beBytes 2 body.length ++ [0, 0] ++ body
  h ++ beBytes 4 (crc32c h)

/-- The keyed state in which replies go out sealed (R168): tending keys are loaded and the frame reference stands. -/
def keyed (s : State) : Bool := flag s JOIN_TEND_SLOTS.VALID && flag s FRM_EXT_REF_HI.REF_VALID

/-- One tending pod is queued on the device's allocation slot (R150); without that slot no grant can carry it (R182). -/
def queuePod (s : State) (sealed : Bool) (msg : List Byte) (mark : Nat) : State :=
  if (devSlot s).isNone then s
  else { s with burst := { s.burst with
      tend := s.burst.tend ++ [{ sealed := sealed, key := rd s JOIN_TEND_SLOTS.UP, body := msg, mark := mark }] } }

/-- A message with the terminal's own next SEQ is queued. -/
def sendTend (s : State) (sealed : Bool) (ty : Nat) (body : List Byte) (mark : Nat) : State :=
  let s1 := queuePod s sealed (tendMsg ty s.join.seq body) mark
  { s1 with join := { s1.join with seq := (s.join.seq + 1) % 65536 } }

/-- The answer to a directed message is kept for its repeats: the last 8 (R166). -/
def keepAnswer (s : State) (ty seq : Nat) (reply : Option (Nat × List Byte)) : State :=
  { s with join := { s.join with answers := ({ ty := ty, seq := seq, reply := reply } ::
      s.join.answers.filter fun a => !(a.ty = ty && a.seq = seq)).take 8 } }

/-- The body of a REPLY (R167). -/
def replyBody (refSeq refTy result detail : Nat) : List Byte :=
  beBytes 2 refSeq ++ beBytes 1 refTy ++ beBytes 1 result ++ beBytes 1 detail ++ [0, 0, 0]

/-- A REPLY to message (ty, seq), kept as its answer. -/
def replyTo (s : State) (ty seq result detail mark : Nat) : State :=
  let body := replyBody seq ty result detail
  sendTend (keepAnswer s ty seq (some (0x41, tendMsg 0x41 s.join.seq body))) (keyed s) 0x41 body mark

/-! ### Key slots (R336 to R343) -/

/-- The engine that serves row g downstream (`up` false) or upstream. -/
def logicalEng (g : Nat) (up : Bool) : Nat := if up then 32 + g else g

def slotAt (s : State) (n : Nat) : Slot := s.cipher.slots.get n {}

/-- The golden shadow of the cipher engines is the key vault (R418). -/
def vaultPool : Nat := 2 * 65536

/-- A key slot replaced, and the counts of LOADED and SEALED slots. -/
def putSlot (s : State) (n : Nat) (x : Slot) : State :=
  let old := slotAt s n
  let s1 := { s with cipher := { s.cipher with slots := s.cipher.slots.set n x {} } }
  let s2 := wr s1 CIPHER_STATUS.LOADED (rd s CIPHER_STATUS.LOADED + b2n (x.st = 1) - b2n (old.st = 1))
  wr s2 CIPHER_SEAL_STAT.SEALED (rd s CIPHER_SEAL_STAT.SEALED + b2n (x.st = 2) - b2n (old.st = 2))

/-- An entry of the seal log (R343). -/
def logSeal (s : State) (n cause : Nat) : State :=
  let l := s.cipher.sealLog
  let full : Bool := 256 ≤ l.length
  let s1 := { s with cipher := { s.cipher with sealLog := (if full then l.tail else l) ++ [(n, cause)] } }
  let s2 := if full then bump s1 CIPHER_SEAL_STAT.LOST 1 else s1
  if l.isEmpty && flag s CIPHER_CTRL.SEAL_EVT_EN then pulseNamed s2 (rd s CIPHER_CTRL.SEAL_EVT) else s2

/-- A seal event (R337): a LOADED slot is SEALED and logged; any other stays. -/
def sealSlot (s : State) (n cause : Nat) : State :=
  let x := slotAt s n
  if x.st = 1 then logSeal (touchShadow (putSlot s n { x with st := 2, cause := cause }) vaultPool) n cause else s

/-- A counter regression or wrap on channel k seals every LOADED slot whose mask bit k is set. -/
def sealChannel (s : State) (k : Nat) : State :=
  (s.cipher.slots.filter fun e => e.2.st = 1 && bitAt e.2.mask k).foldl (fun t e => sealSlot t e.1 1) s

/-- LIMIT of R339; below 1,024 it counts as 1,024. -/
def invLimit (s : State) : Nat := max 1024 (rd s CIPHER_INV_LIMIT_HI.LIMIT_HI * 2 ^ 32 + rd s CIPHER_INV_LIMIT_LO.LIMIT_LO)

/-- Usable for decryption of a pod type; usable for encryption (R338). -/
def Slot.decOk (x : Slot) (tend : Bool) : Bool := (x.use = 0 || x.use = 2) && (x.st = 1 || (x.st = 2 && tend))
def Slot.encOk (x : Slot) : Bool := x.st = 1 && (x.use = 1 || x.use = 2)

/-- Invocations of slot n that engine `eng` has reserved and not used. -/
def resvOf (s : State) (n eng : Nat) : Nat := s.cipher.resv.get (n * 256 + eng) 0

/-- The slot was sealed for its count, and engine `eng` has reserved invocations left, which stay usable (R339). -/
def resvLeft (s : State) (n eng : Nat) : Bool :=
  (slotAt s n).st = 2 && (slotAt s n).cause = 2 && decide (0 < resvOf s n eng)

/-- Slot n is usable by engine `eng` to decrypt; to encrypt (R338, R339). -/
def decUsable (s : State) (n eng : Nat) (tend : Bool) : Bool :=
  let x := slotAt s n
  x.decOk tend || ((x.use = 0 || x.use = 2) && resvLeft s n eng)
def encUsable (s : State) (n eng : Nat) : Bool :=
  let x := slotAt s n
  x.encOk || ((x.use = 1 || x.use = 2) && resvLeft s n eng)

/-- One invocation of a slot's key by an engine on channel k (R339): whether it takes place. -/
def invoke (s : State) (n eng k : Nat) : Bool × State :=
  let x := slotAt s n
  let r := resvOf s n eng
  let mark (t : State) (x : Slot) (r : Nat) : State :=
    let t1 := putSlot t n { x with mask := Nat.lor x.mask (2 ^ k) }
    { t1 with cipher := { t1.cipher with resv := t1.cipher.resv.set (n * 256 + eng) r 0 } }
  if 0 < r then (true, mark s x (r - 1))
  else if invLimit s ≤ x.count then (false, sealSlot s n 2)
  else
    let b := min 1024 (invLimit s - x.count)
    (true, mark s { x with count := x.count + b } (b - 1))

/-- Every reservation of a slot is forgotten. -/
def dropResv (s : State) (n : Nat) : State :=
  { s with cipher := { s.cipher with resv := s.cipher.resv.keep fun i => i / 256 ≠ n } }

/-! ### Loads (R337, R341, R342) -/

/-- A load command ends with a status; a KEY_LOAD is answered (R197). -/
def endLoad (s : State) (l : Load) (status : Nat) : State :=
  let s1 := wr (wr s CIPHER_LOAD_CTRL.STATUS status) CIPHER_LOAD_CTRL.GO
    (b2n (s.cipher.wait.any fun r => r.msg.isNone && r.tend.isNone))
  match l.msg with
  | none => s1
  | some seq =>
    let s2 := replyTo s1 0x0A seq (if status = 0 then 0 else 5) status 0
    if status = 0 then { s2 with join := { s2.join with rekeys := s2.join.rekeys.filter fun r => r.slot ≠ l.slot } } else s2

/-- The refusal of R341 that applies first, if one does: 3, 4, 1, 2; otherwise the unwrapped key. -/
def checkLoad (s : State) (slot use : Nat) (wrapped : List Byte) : Except Nat (List Byte) :=
  if 2 < use then .error 3
  else if flag s JOIN_TEND_SLOTS.VALID ∧ (slotAt s slot).tending ∧ (slot = rd s JOIN_TEND_SLOTS.UP ∨ slot = rd s JOIN_TEND_SLOTS.DOWN) then .error 4
  else
    match s.cipher.kek with
    | none => .error 1
    | some kek =>
      match keyUnwrap kek wrapped with
      | none => .error 2
      | some key => .ok key

/-- The registers of a load command as firmware writes them. -/
def loadRegs (s : State) (r : LoadReq) : State :=
  let s1 := (List.range 10).foldl (fun t i => wr t (CIPHER_LOAD_W.WRAPPED i) (beAt r.wrapped (4 * i) 4)) s
  wr (wr s1 CIPHER_LOAD_CTRL.SLOT r.slot) CIPHER_LOAD_CTRL.USE r.use

/-- The vault takes a load command: firmware has written its registers, GO is set, and the command is refused or starts. A
tending key of the terminal's own needs no unwrap (R342). -/
def startLoad (s : State) (r : LoadReq) : State :=
  match r.tend with
  | some key => { s with cipher := { s.cipher with
      loads := s.cipher.loads ++ [{ slot := r.slot, use := r.use, key := key, tending := true, msg := none }] } }
  | none =>
    let s1 := loadRegs s r
    match checkLoad s1 r.slot r.use r.wrapped with
    | .error c => endLoad s1 { slot := r.slot, use := r.use, key := [], tending := false, msg := r.msg } c
    | .ok key =>
      let l : Load := { slot := r.slot, use := r.use, key := key, tending := false, msg := r.msg }
      setFlag { s1 with cipher := { s1.cipher with loads := s1.cipher.loads ++ [l] } } CIPHER_LOAD_CTRL.GO true

/-- The load commands of `l`, which wait, in their turn: each while no load is under way (R341). -/
def drainLoads (l : List LoadReq) (s : State) : State :=
  match l with
  | [] => { s with cipher := { s.cipher with wait := [] } }
  | r :: rs =>
    if s.cipher.loads.isEmpty then drainLoads rs (startLoad { s with cipher := { s.cipher with wait := rs } } r)
    else { s with cipher := { s.cipher with wait := l } }

/-- A load command is issued; GO stands while one of a register write waits. (In part DEDUCED, log entry 24.) -/
def issueLoad (s : State) (r : LoadReq) : State :=
  drainLoads (s.cipher.wait ++ [r]) (if r.msg.isNone then setFlag s CIPHER_LOAD_CTRL.GO true else s)

/-- The new key of a load is in every engine: the switch of R337 and R340. -/
def switchKey (s : State) (l : Load) : State :=
  touchShadow (dropResv (putSlot s l.slot { st := 1, use := l.use, key := l.key, tending := l.tending }) l.slot) vaultPool

/-- A slot is emptied; a load under way for it is cancelled with status 6 (R337). -/
def eraseSlot (s : State) (n : Nat) : State :=
  let x := slotAt s n
  if x.st = 0 then s
  else
    let gone := s.cipher.loads.filter fun l => l.slot = n
    let s1 := { s with cipher := { s.cipher with loads := s.cipher.loads.filter fun l => l.slot ≠ n } }
    let s2 := touchShadow (dropResv (putSlot s1 n {}) n) vaultPool
    drainLoads s.cipher.wait (gone.foldl (fun t l => endLoad t l 6) s2)

/-- A cold reset, or entry to LOAD: every slot emptied, kek cleared, loads under way cancelled with status 6. -/
def clearVault (s : State) : State :=
  let any := !s.cipher.loads.isEmpty
  let s1 := { s with cipher := { s.cipher with slots := [], loads := [], wait := [], kek := none, resv := [] } }
  let s2 := wr (wr (wr s1 CIPHER_STATUS.LOADED 0) CIPHER_SEAL_STAT.SEALED 0) CIPHER_STATUS.KEK_VALID 0
  let s3 := if any then wr (wr s2 CIPHER_LOAD_CTRL.STATUS 6) CIPHER_LOAD_CTRL.GO 0 else s2
  touchShadow s3 vaultPool

/-- Is that engine fenced without a spare (R428)? -/
def engGone (s : State) (g : Nat) (up : Bool) : Bool := s.cipher.fenced.contains (logicalEng g up)

/-- The 96-bit IV of R334. -/
def ivOf (tid : Nat) (up : Bool) (k ext index : Nat) : Nat :=
  (tid * 16 + (if up then 8 else 0)) * 2 ^ 80 + k * 2 ^ 72 + ext * 2 ^ 24 + index * 2 ^ 8

end Sys2Proof.Machine
end

