-- ==== Sys2Proof/Machine/Flags.lean ====
section
/-!
DEFINITION. The flags Z, N, C and V of the Trowel integer unit, and the results that set them (R350, R368).
-/

namespace Sys2Proof.Machine

/-! ### The integer unit (R368) -/

/-- Z and N of a 32-bit result. -/
def Core.setZN (k : Core) (v : Nat) : Core := (k.setSt 0 (w32 v = 0)).setSt 1 (bitAt v 31)

/-- C and V. -/
def Core.setCV (k : Core) (c v : Bool) : Core := (k.setSt 2 c).setSt 3 v

/-- Outside the signed 32-bit range. -/
def ovf32 (x : Int) : Bool := x < -2147483648 || 2147483647 < x

/-- d := a + b + cin, with Z N C V. -/
def Core.addOp (k : Core) (d a b cin : Nat) : Core :=
  let v := a + b + cin
  let k' := (k.setZN v).setCV (2 ^ 32 ≤ v) (ovf32 (toSigned 32 a + toSigned 32 b + cin))
  (k'.setReg d v).adv

/-- d := a - b - bin, with Z N C V; C is 1 for no borrow. -/
def Core.subOp (k : Core) (d a b bin : Nat) : Core :=
  let v := ofSigned 32 ((a : Int) - b - bin)
  let k' := (k.setZN v).setCV (b + bin ≤ a) (ovf32 (toSigned 32 a - toSigned 32 b - bin))
  (k'.setReg d v).adv

/-- A bitwise result: Z N, and V := 0. -/
def Core.logicOp (k : Core) (d v : Nat) : Core := (((k.setZN v).setSt 3 false).setReg d v).adv

/-- The shifts of R368. -/
inductive Shift where
  | sll | srl | sra
  deriving DecidableEq, Repr

/-- The shifted value; an amount of 32 or more gives 0, or a full sign fill for SRA. -/
def Shift.val (h : Shift) (a n : Nat) : Nat :=
  match h with
  | .sll => if n < 32 then w32 (a * 2 ^ n) else 0
  | .srl => w32 a / 2 ^ n
  | .sra => ofSigned 32 ((toSigned 32 a).fdiv (2 ^ n : Nat))

/-- The last bit shifted out, 0 for amount 0. -/
def Shift.out (h : Shift) (a n : Nat) : Bool :=
  if n = 0 then false
  else
    match h with
    | .sll => if n ≤ 32 then bitAt a (32 - n) else false
    | .srl => if n ≤ 32 then bitAt a (n - 1) else false
    | .sra => if n ≤ 32 then bitAt a (n - 1) else bitAt a 31

/-- d := a shifted by n: Z N; C the last bit out; V := 0. -/
def Core.shiftOp (k : Core) (h : Shift) (d a n : Nat) : Core :=
  let v := h.val a n
  (((k.setZN v).setCV (h.out a n) false).setReg d v).adv

/-- A result that sets Z and N alone. -/
def Core.znOp (k : Core) (d v : Nat) : Core := ((k.setZN v).setReg d v).adv

/-- How many leading bits of a 32-bit value equal bit 31, less 1. -/
def clsOf (a : Nat) : Nat :=
  ((List.range 31).takeWhile fun i => bitAt a (30 - i) == bitAt a 31).length

/-- DIVQ (R368): the quotient truncated toward 0 and the remainder with the dividend's sign; none for a divisor of 0 or a
quotient outside the 32-bit range of its kind. -/
def divq (sgn : Bool) (hi lo b : Nat) : Option (Nat × Nat) :=
  if b = 0 then none
  else if sgn then
    let n := toSigned 64 (hi * 2 ^ 32 + lo)
    let q := n.tdiv (toSigned 32 b)
    if ovf32 q then none else some (ofSigned 32 q, ofSigned 32 (n.tmod (toSigned 32 b)))
  else
    let n := hi * 2 ^ 32 + lo
    if 2 ^ 32 ≤ n / b then none else some (n / b, n % b)

end Sys2Proof.Machine
end

