-- ==== Sys2Proof/Machine/TrowelCore.lean ====
section
/-!
DEFINITION. The frame that every Trowel instruction runs in, calls and returns, the multiplier and the accumulators (R353 to
R364, R378).
-/

namespace Sys2Proof.Machine

/-! ### Running an instruction -/

/-- The physical core behind logical core n. -/
def physCore (s : State) (n : Nat) : Nat := s.phys.get n n

/-- Logical core n halts with a cause of TROWEL_CORE_n_STATUS. -/
def haltCore (s : State) (n cause : Nat) : State :=
  wr (wr s (TROWEL_CORE_STATUS.STATE n) 3) (TROWEL_CORE_STATUS.HALT_CAUSE n) cause

/-- A window collapse (cause 4) or a double trap (cause 5) (R357, R358): the core halts before the instruction changes
anything, COLLAPSES counts it, and the Rake hears of it. -/
def collapseCore (s : State) (n cause : Nat) : State :=
  raise (bump (haltCore s n cause) (TROWEL_CORE_CNT.COLLAPSES n) 1)
    { kind := 10, scope := .dev, arg := n, loc := physCore s n }

/-- A suppressed access is counted for its core (R382). -/
def countAccess (s : State) (n cause : Nat) : State :=
  if cause = 5 then
    raise (bump s (TROWEL_CORE_CNT.ACCESS_FAULTS n) 1) { kind := 12, scope := .dev, arg := n, loc := physCore s n }
  else s

/-- The outcome of an instruction on the block. -/
def applyOut (s : State) (n : Nat) (k : Core) (o : CoreOut) : State :=
  match o with
  | .next k' => putCore s n k'
  | .trap cause detail addr =>
    let s' := countAccess s n cause
    if k.trapMode then collapseCore s' n 5
    else putCore s' n (k.enterTrap cause detail addr (if cause = 9 then w32 (k.pc + 4) else k.pc))
  | .collapse => collapseCore s n 4

/-- Does an admitted event trap now (R378): IE at 1, TRAP at 0? -/
def Core.takesEvent (k : Core) : Bool := k.admitted && k.ie && !k.trapMode

/-- The EVENT trap: TADDR is the lowest admitted event, TPC the next instruction (R354, R355). -/
def Core.enterEvent (k : Core) : Core :=
  k.enterTrap 10 0 ((firstBelow 64 (bitAt (Nat.land k.evtPend k.evtMask))).getD 0) k.pc

/-- Logical core n exists and runs. -/
def coreRuns (s : State) (n : Nat) : Bool := n < cores s && rd s (TROWEL_CORE_STATUS.STATE n) = 1

/-- The frame of every instruction: logical core n must be running; an admitted event is taken first (R378), a bad PC
traps at the fetch (R369), and otherwise the instruction `f` runs on the core. -/
def onCore (s : State) (n : Nat) (f : State → Core → State) : State :=
  if coreRuns s n then
    let k := coreAt s n
    if k.takesEvent then putCore s n k.enterEvent
    else
      match k.fetchCheck with
      | some o => applyOut s n k o
      | none => f s k
  else s

/-- An instruction that acts on its core alone. (In part DESIGN CHOICE, log entry 1.) -/
def runCore (s : State) (n : Nat) (f : Core → CoreOut) : State := onCore s n fun t k => applyOut t n k (f k)

/-- TROWEL cycles up to the present count of C, modulo 2^64: TROWEL divides STOCK by 10, TIME by 8 (R451), and five
turns of C are four of this count. (In part DEDUCED, log entry 10.) -/
def trowelCycles (s : State) : Nat := 8 * (s.time.turns * 2 ^ 64 + s.time.c) / 10 % 2 ^ 64

/-- The 64-bit cycle counter of a core, from its last restart (R351). (In part DEDUCED, log entry 10.) -/
def cycleCount (s : State) (k : Core) : Nat := (trowelCycles s + 2 ^ 64 - k.cyc0) % 2 ^ 64

/-! ### Calls and returns (R353) -/

/-- CALL and CALLR to an address. -/
def Core.callTo (k : Core) (t : Nat) : CoreOut :=
  if k.trapMode then .collapse
  else if 5 ≤ k.depth then .trap 1 0 t
  else
    let k1 := { k with status := putBits (putBits k.status 26 3 ((k.cwp + 1) % 7)) 23 3 (k.depth + 1) }
    .next { k1.setReg 11 (k.pc + 4) with pc := t }

/-- RET. -/
def Core.retCall (k : Core) : CoreOut :=
  if k.trapMode then .collapse
  else if k.depth = 0 then .trap 2 0 0
  else .next { k with pc := k.reg 11, status := putBits (putBits k.status 26 3 ((k.cwp + 6) % 7)) 23 3 (k.depth - 1) }

/-- A branch taken or not (R369). -/
def Core.branch (k : Core) (b : Bool) (off : Nat) : Core := if b then { k with pc := k.target 16 off } else k.adv

/-! ### Multiplier and accumulators (R360 to R364) -/

/-- ACC_A for 0, ACC_B otherwise. -/
def Core.acc (k : Core) (x : Nat) : Int := if x = 0 then k.accA else k.accB

/-- An accumulator written with the exact result v (R361). -/
def Core.setAcc (k : Core) (x : Nat) (v : Int) : Core :=
  let tooMuch : Bool := v < -(2 ^ 39) || 2 ^ 39 - 1 < v
  let r := if tooMuch then (if k.sat then clampInt (-(2 ^ 39)) (2 ^ 39 - 1) v else toSigned 40 (ofSigned 40 v)) else v
  let k1 := (k.stick 7 (tooMuch && k.sat)).stick (if x = 0 then 4 else 5) tooMuch
  if x = 0 then { k1 with accA := r } else { k1 with accB := r }

/-- Z and N from a 40-bit result (R371). -/
def Core.accZN (k : Core) (x : Nat) : Core := (k.setSt 0 (k.acc x = 0)).setSt 1 (k.acc x < 0)

/-- An accumulator instruction that leaves `v` in ACC_X. -/
def Core.accOp (k : Core) (x : Nat) (v : Int) : Core := ((k.setAcc x v).accZN x).adv

/-- A multiply operand (R360): the high or low half of a word, signed or unsigned. -/
def halfOf (v : Nat) (high uns : Bool) : Int :=
  let h := if high then bits v 16 16 else bits v 0 16
  if uns then (h : Int) else toSigned 16 h

/-- The product that HA, HB, UA and UB (bits 3 to 0 of `f`) select. -/
def Core.product (k : Core) (a b f : Nat) : Int :=
  halfOf (k.reg a) (bitAt f 3) (bitAt f 1) * halfOf (k.reg b) (bitAt f 2) (bitAt f 0)

/-- rhe(v, s) of R362. -/
def rhe (v : Int) (s : Nat) : Int := roundHalfEven v (2 ^ s : Nat)

/-- The shift of an autoscaled move, if one in 0 to 8 fits (R363). -/
def autoShift (v : Int) : Option Nat := firstBelow 9 fun s => !ovf32 (rhe v s)

/-- FIX; 9 to 15 count as 8. -/
def Core.fix (k : Core) : Nat := min 8 (bits k.scale 24 4)

/-- EXP raised by s, held within ±32,767 (R363, R364). -/
def Core.addExp (k : Core) (s : Nat) : Core :=
  { k with scale := putBits k.scale 0 16 (ofSigned 16 (clampInt (-32767) 32767 (toSigned 16 (bits k.scale 0 16) + s))) }

/-- MVA: REG := ACC_X under R363. -/
def Core.mva (k : Core) (d x : Nat) : Core :=
  let acc := k.acc x
  let out (k' : Core) (s : Nat) (v : Int) : Core :=
    let k2 := { k' with scale := putBits k'.scale 16 4 s }
    k2.znOp d (ofSigned 32 v)
  if k.sat then
    let v := rhe acc k.fix
    out (k.stick 7 (ovf32 v)) k.fix (clampInt (-2147483648) 2147483647 v)
  else if bitAt k.scale 31 then
    match autoShift acc with
    | some s => out (k.addExp s) s (rhe acc s)
    | none => out ((k.stick 6 true).addExp 8) 8 2147483647
  else
    let v := rhe acc k.fix
    out (k.stick 6 (ovf32 v)) k.fix v

end Sys2Proof.Machine
end

