-- ==== Sys2Proof/Machine/OpsRake.lean ====
section
/-!
DEFINITION. The Rake: sources, records, fences and grafts, the shared operations of chapter 13.
-/

namespace Sys2Proof.Machine

/-! ### The bed rings' registers (R431, R488) -/

def BEDF_POP.V (b i : Nat) : Fld := ⟨bedBase b + 0xA0000 + 4 * i, 0, 32, .ro, 0⟩
def BEDF_STAT.OVERFLOW (b : Nat) : Fld := ⟨bedBase b + 0xA0010, 16, 16, .rc, 0⟩
def BEDF_STAT.COUNT (b : Nat) : Fld := ⟨bedBase b + 0xA0010, 0, 11, .ro, 0⟩

/-! ### Scopes and units -/

/-- SCOPE, BED and ROW of a record (R413). -/
def Scope.code : Scope → Nat
  | .dev => 0
  | .bed _ => 1
  | .row _ => 2
def Scope.bedOf : Scope → Nat
  | .dev => 0
  | .bed b => b
  | .row g => g / 4
def Scope.rowOf : Scope → Nat
  | .row g => g % 4
  | _ => 0
def Scope.num (x : Scope) : Nat := x.code * 64 + 4 * x.bedOf + x.rowOf

/-- The level kinds of R408. -/
def levelKind (k : Nat) : Bool := k = 4 || k = 18 || k = 19 || k = 20

/-- The unit whose memory reports an error (kinds 5 and 6): of a row, the parser stage or, from 2,048 on, the reshuffler that
the tile memory belongs to; else a table bank or a buffer bank. (In part DESIGN CHOICE, log entry 15.) -/
def memUnit (e : FaultEv) : Option RUnit :=
  match e.scope with
  | .row _ => some (if e.loc < 2048 then { cls := .parser, idx := e.loc } else { cls := .reshuf, idx := e.loc - 2048 })
  | .dev => some (if e.arg = 2 then { cls := .table, idx := e.loc } else { cls := .bank, idx := e.loc })
  | .bed _ => none

/-- The physical unit whose source reports an event (R408), if it is one that the Rake can fence. -/
def unitOf (e : FaultEv) : Option RUnit :=
  match e.kind with
  | 1 => some { cls := .lrx, idx := e.loc }
  | 2 => some { cls := .lrx, idx := e.loc }
  | 3 => some { cls := .ltx, idx := e.loc }
  | 5 => memUnit e
  | 6 => memUnit e
  | 7 => some { cls := .parser, idx := e.loc }
  | 8 => some { cls := .reshuf, idx := e.loc }
  | 9 => some { cls := .cipher, idx := e.loc }
  | 10 => some { cls := .trowel, idx := e.loc }
  | 11 => some { cls := .trowel, idx := e.loc }
  | 12 => some { cls := .trowel, idx := e.loc }
  | 13 => some { cls := .trowel, idx := e.loc }
  | 17 => some { cls := .lane, idx := 34 * e.scope.bedOf + e.arg }
  | _ => none

/-- The places of the unit's class that the variant has. -/
def placeExists (s : State) (c : UCls) (i : Nat) : Bool :=
  match c with
  | .lrx => i < chans s
  | .ltx => i < chans s
  | .cipher => i < rows s || (32 ≤ i && i < 32 + rows s)
  | .trowel => i < cores s
  | .bank => i < upCells s / 8192 || (96 ≤ i && i < 96 + dnCells s / 8192)
  | .parser => i < 64 * rows s
  | .reshuf => i < 64 * rows s
  | .lane => i < 34 * beds s && i % 34 < 32
  | .table => true

/-- The place that a physical unit serves, if it serves one. Lanes: 32·b + slot. -/
def servesOf (s : State) (u : RUnit) : Option Nat :=
  match u.cls with
  | .lrx => firstBelow (chans s) fun k => engOf s false k = u.idx
  | .ltx => firstBelow (chans s) fun k => engOf s true k = u.idx
  | .trowel => firstBelow (cores s) fun n => physCore s n = u.idx
  | .lane => (laneSlot s (u.idx / 34) (u.idx % 34)).map fun i => 32 * (u.idx / 34) + i
  | c =>
    match s.rake.place.find u.code with
    | some 0 => none
    | some (i + 1) => some i
    | none => if placeExists s c u.idx && !(allSpares s (poolOf u)).contains u.idx then some u.idx else none

/-- The unit is fenced (R417). -/
def unitFenced (s : State) (u : RUnit) : Bool := s.rake.fenced.any fun f => f.unit = u

/-- The graft or scrub that brings the unit in. -/
def graftOf (s : State) (u : RUnit) : Option Graft := s.rake.grafts.find? fun g => g.spare = u

/-! ### Records (R412 to R416) -/

/-- What tells the sources of one kind and scope apart beside the unit: ARG, but for kind 20, which has one source (R459). -/
def srcArg (e : FaultEv) : Nat := if e.kind = 20 then 0 else e.arg

/-- The location code of an event's unit, 20 bits. -/
def locOf (e : FaultEv) : Nat :=
  (match unitOf e with
   | some u => Config.locCode u.code
   | none => Config.locCode (16 * 65536 + e.kind * 65536 + e.scope.num * 64 + srcArg e)) % 2 ^ 20

/-- The source number of an event (R407). -/
def FaultEv.source (e : FaultEv) : Nat := Config.sourceNo e.kind e.scope.num (srcArg e) e.loc % 4096

/-- The record of an event (R413). -/
def makeRec (s : State) (ty : Nat) (e : FaultEv) (u : Option RUnit) : Rec :=
  { ty := ty, kind := e.kind, u := now s, tvalid := flag s TIME_STATUS.VALID, inj := e.inj, scope := e.scope,
    arg := e.arg, source := e.source
    loc := (match u with | some x => Config.locCode x.code % 2 ^ 20 | none => locOf e), srcKey := (e.arg, e.loc) }

/-- A record joins a ring of `cap` places: the ring, and whether it overwrote the oldest record. -/
def Ring.push (x : Ring) (cap : Nat) (r : Rec) : Ring × Bool :=
  let l := x.recs ++ [{ r with seq := x.next }]
  let tooMuch : Bool := decide (cap < l.length)
  ({ recs := if tooMuch then l.tail else l, next := (x.next + 1) % 65536 }, tooMuch)

/-- The record of an event is put in the queue of those that wait (R412); its kind's sticky bit is set (R416). `u` is the
unit that the record is about. -/
def record (s : State) (ty : Nat) (e : FaultEv) (u : Option RUnit) : State :=
  let r := makeRec s ty e u
  let s1 := wr s RAKE_STICKY.KINDS (Nat.lor (rd s RAKE_STICKY.KINDS) (2 ^ (e.kind - 1)))
  if s.rake.recQ.length < 256 then { s1 with rake := { s1.rake with recQ := s.rake.recQ ++ [r] } }
  else bump s1 RAKE_STATUS.REC_LOST 1

/-- RAKE_ACTIVE shows the level kinds with a source whose condition holds. -/
def showActive (s : State) : State :=
  wr s RAKE_ACTIVE.KINDS
    (s.rake.sources.foldl (fun a x => if x.active then Nat.lor a (2 ^ (x.kind - 1)) else a) 0)

/-- The places without a unit, as RAKE_DEG_ROW and RAKE_DEG_DEV show them. -/
def degRowOf (f : Fenced) : Option Nat :=
  match f.unit.cls with
  | .lrx => some (f.serves / 2)
  | .ltx => some (f.serves / 2)
  | .cipher => some (f.serves % 32)
  | .parser => some (f.serves / 64)
  | .reshuf => some (f.serves / 64)
  | .lane => some (f.serves / 8)
  | _ => none

def showDegraded (s : State) : State :=
  let has (c : UCls) : Bool := s.rake.unserved.any fun f => f.unit.cls = c
  let rowsBits := s.rake.unserved.foldl (fun a f =>
    match degRowOf f with
    | some g => Nat.lor a (2 ^ g)
    | none => a) 0
  let s1 := wr s RAKE_DEG_ROW.ROWS rowsBits
  let s2 := setFlag (setFlag s1 RAKE_DEG_DEV.BANK (has .bank)) RAKE_DEG_DEV.TROWEL (has .trowel)
  setFlag (setFlag (setFlag s2 RAKE_DEG_DEV.CIPHER (has .cipher)) RAKE_DEG_DEV.LTX (has .ltx)) RAKE_DEG_DEV.LRX (has .lrx)

/-- GRAFTING of the Rake and of each bed kept true to the grafts in progress. -/
def showGrafting (s : State) : State :=
  let s1 := setFlag s RAKE_STATUS.GRAFTING (!s.rake.grafts.isEmpty)
  (List.range (beds s)).foldl (fun t b =>
    setFlag t (HL_BED.GRAFTING b) (t.rake.grafts.any fun g => g.unit.cls = .lane && g.unit.idx / 34 = b)) s1

/-! ### Fencing (R417, R428) -/

/-- A table bank is served from the table's shadow from now on (R425). -/
def shadowServes (s : State) (i : Nat) : State := { s with rake := { s.rake with tableShadow := i :: s.rake.tableShadow.erase i } }

/-- What isolating a unit does to its block, apart from the place it served. -/
def isolate (s : State) (u : RUnit) : State :=
  match u.cls with
  | .lrx => darkLaser { s with line := { s.line with rxFenced := u.idx :: s.line.rxFenced.erase u.idx } } false u.idx
  | .ltx =>
    let s1 := soaOff s u.idx
    darkLaser { s1 with line := { s1.line with txFenced := u.idx :: s1.line.txFenced.erase u.idx } } true u.idx
  | .trowel =>
    match servesOf s u with
    | some n => if rd s (TROWEL_CORE_STATUS.STATE n) = 1 ∨ rd s (TROWEL_CORE_STATUS.STATE n) = 2 then haltCore s n 6 else s
    | none => s
  | .lane =>
    let b := u.idx / 34
    let l := u.idx % 34
    let s1 := wr (wr s (HL_LANE_STAT.STATE b l) 5) (HL_LANE_STAT.SLOT b l) 0x3F
    wr (wr (wr s1 (HL_LANE_STAT.GRAFTED b l) 0) (HL_LANE_STAT.TX_DOZE b l) 0) (HL_LANE_STAT.RX_DOZE b l) 0
  | .table => shadowServes s u.idx
  | _ => s

/-- A unit is fenced (R417): isolated, generation 0, FENCED. -/
def fenceUnit (s : State) (u : RUnit) (serves : Nat) (e : FaultEv) : State :=
  let s1 := setGen (isolate s u) u 0
  let s2 := { s1 with rake := { s1.rake with
    fenced := s1.rake.fenced ++ [{ unit := u, serves := serves, ev := e }]
    place := s1.rake.place.insert u.code 0 } }
  record s2 3 e (some u)

/-- The place has no unit already. (In part DESIGN CHOICE, log entry 15.) -/
def placeLost (s : State) (c : UCls) (serves : Nat) : Bool :=
  s.rake.unserved.any fun f => f.unit.cls = c && f.serves = serves

/-- A place is left without a unit (R428). -/
def losePlace (s : State) (u : RUnit) (serves : Nat) (e : FaultEv) : State :=
  if placeLost s u.cls serves then s else
  let s1 := showDegraded { s with rake := { s.rake with
    unserved := s.rake.unserved ++ [{ unit := u, serves := serves, ev := e }] } }
  match u.cls with
  | .cipher => { s1 with cipher := { s1.cipher with fenced := serves :: s1.cipher.fenced.erase serves } }
  | .trowel => wr s1 (TROWEL_CORE_STATUS.STATE serves) 5
  | .bank =>
    if serves < 96 then wr s1 SCHED_UP_USE.USED (rd s1 SCHED_UP_USE.USED + 8192)
    else wr s1 SCHED_DN_USE.USED (rd s1 SCHED_DN_USE.USED + 8192)
  | .lane =>
    let b := serves / 32
    let s2 := { s1 with lane := { s1.lane with pos := s1.lane.pos.insert serves 63 } }
    match portOfSlot s2 b (serves % 32) with
    | some p => reformPort s2 p
    | none => s2
  | .parser => if rowGone s1 (serves / 64) then (rowPlaces (serves / 64)).foldl (fun t p =>
      if portFormed t p then portLeave t p 0 else t) s1 else s1
  | .reshuf => if rowGone s1 (serves / 64) then (rowPlaces (serves / 64)).foldl (fun t p =>
      if portFormed t p then portLeave t p 0 else t) s1 else s1
  | _ => s1

/-- A unit is fenced and no spare is free (R418 step 1): FENCED, NO_SPARE, degraded. -/
def fenceBare (s : State) (u : RUnit) (serves : Nat) (e : FaultEv) (fenced : Bool) : State :=
  let s1 := if fenced then s else fenceUnit s u serves e
  losePlace (record s1 5 e (some u)) u serves e

/-! ### Grafting (R418 to R420) -/

/-- The spare with the least wear, between equals the lower number (R463). -/
def leastWorn (s : State) (tx : Bool) (l : List Nat) : Option Nat :=
  l.foldl (fun a e =>
    match a with
    | none => some e
    | some b => if (laserOf s tx e).wear < (laserOf s tx b).wear then some e else some b) none

/-- The free, licensed spare that the Rake chooses for a unit (R418, R463, R532). -/
def chooseSpare (s : State) (u : RUnit) : Option Nat :=
  let l := freeSpares s (poolOf u)
  match u.cls with
  | .lrx => leastWorn s false l
  | .ltx => leastWorn s true l
  | .lane => if flag s (HL_BED.PARTNER_HS (u.idx / 34)) then l.head? else none
  | .table => none
  | _ => l.head?

/-- A unit is fenced, and no spare is called (ACTION 2 of R409); NO_SPARE where none is free
(R412, R532). -/
def fenceOnly (s : State) (u : RUnit) (serves : Nat) (e : FaultEv) : State :=
  if (chooseSpare s u).isNone then fenceBare s u serves e false else losePlace (fenceUnit s u serves e) u serves e

/-- A number put into a rising list. -/
def insertNat (n : Nat) (l : List Nat) : List Nat :=
  match l with
  | [] => [n]
  | m :: r => if n < m then n :: m :: r else if n = m then l else m :: insertNat n r

/-- A graft goes on with spare i from step 2 of R418; a Trowel core is fenced first (R358). `fenced` tells that the failing
unit is fenced already. -/
def graftWith (s : State) (u : RUnit) (serves : Nat) (e : FaultEv) (fenced : Bool) (i : Nat) : State :=
  let sp : RUnit := { cls := u.cls, idx := i }
  let first := u.cls = .trowel && !fenced
  let s1 := if first then fenceUnit s u serves e else s
  let s2 := setGen (setFree s1 (poolOf u) ((freeSpares s1 (poolOf u)).filter (· ≠ i))) sp 0
  let g : Graft := {
    unit := u, spare := sp, serves := serves, fenced := fenced || first, ev := e, ready := false,
    tries := 0, busy := 0, gen := shadowGen s (poolOf u) }
  showGrafting { s2 with rake := { s2.rake with grafts := s2.rake.grafts ++ [g] } }

/-- A graft starts from step 1 of R418. Of two that need the last free spare, the one that is taken first has it (R411,
R420). -/
def startGraft (s : State) (u : RUnit) (serves : Nat) (e : FaultEv) (fenced : Bool) : State :=
  match chooseSpare s u with
  | none => fenceBare s u serves e fenced
  | some i => graftWith s u serves e fenced i

/-- A graft's record replaced. -/
def putGraft (s : State) (g : Graft) : State :=
  { s with rake := { s.rake with grafts := s.rake.grafts.map fun x => if x.spare = g.spare then g else x } }

/-- A graft leaves the list. -/
def dropGraft (s : State) (g : Graft) : State :=
  { s with rake := { s.rake with grafts := s.rake.grafts.filter fun x => x.spare ≠ g.spare } }

/-- The preparation of a graft in its own block is undone. -/
def unprepare (s : State) (g : Graft) : State :=
  match g.unit.cls with
  | .lrx => { s with line := { s.line with rxGraft := s.line.rxGraft.erase g.serves, rxPar := s.line.rxPar.erase g.serves } }
  | .ltx => { s with line := { s.line with txGraft := s.line.txGraft.erase g.serves } }
  | .cipher => { s with cipher := { s.cipher with grafts := s.cipher.grafts.erase g.serves } }
  | .lane =>
    let b := g.spare.idx / 34
    match laneGraft s g.spare.idx with
    | none => s
    | some h =>
      let s1 := { s with lane := { s.lane with graft := s.lane.graft.erase g.spare.idx } }
      let s2 := wr s1 (HL_LANE_STAT.STATE b h.spare) 0
      if h.old < 34 ∧ rd s2 (HL_LANE_STAT.STATE b h.old) = 4 then wr s2 (HL_LANE_STAT.STATE b h.old) 2 else s2
  | _ => s

/-- What waited for a lane graft of the bed takes effect: MODE writes (R520) and a bed reset (R505). -/
def afterLaneGraft (s : State) (g : Graft) : State :=
  if g.unit.cls = .lane then
    releaseBed ((List.range 4).foldl (fun t r => releaseMode t (4 * (g.spare.idx / 34) + r)) s) (g.spare.idx / 34)
  else s

/-- R419: the graft stops, its spare is fenced, GRAFT_ABORT, and step 1 runs again. -/
def abortGraft (s : State) (g : Graft) (e : FaultEv) : State :=
  let s1 := fenceUnit (unprepare (dropGraft s g) g) g.spare g.serves e
  let s2 := record s1 6 g.ev (some g.spare)
  showGrafting (afterLaneGraft (startGraft s2 g.unit g.serves g.ev g.fenced) g)

/-- The work of a place moves to its spare. (In part DEDUCED, log entry 24.) -/
def moveWork (s : State) (g : Graft) : State :=
  let i := g.spare.idx
  let own : Bool := i = g.serves
  match g.unit.cls with
  | .lrx =>
    let k := g.serves
    let ln := { s.line with
      rxEng := s.line.rxEng.set k i k, rxGraft := s.line.rxGraft.erase k, rxFenced := s.line.rxFenced.erase i }
    wr (setFlag { s with line := ln } (LRX_STATUS.GRAFTED k) (!own)) (LRX_STATUS.LASER k) (laserOf s false i).st
  | .ltx =>
    let k := g.serves
    let ln := { s.line with
      txEng := s.line.txEng.set k i k, txGraft := s.line.txGraft.erase k, txFenced := s.line.txFenced.erase i }
    wr (setFlag { s with line := ln } (LTX_STATUS.GRAFTED k) (!own)) (LTX_STATUS.LASER k) (laserOf s true i).st
  | .cipher => { s with cipher := { s.cipher with
      grafts := s.cipher.grafts.erase g.serves, fenced := s.cipher.fenced.erase g.serves
      resv := s.cipher.resv.keep fun i => i % 256 ≠ g.serves } }
  | .trowel =>
    let n := g.serves
    let s1 := { s with phys := s.phys.set n i n }
    setFlag (wr (wr s1 (TROWEL_CORE_STATUS.STATE n) 4) (TROWEL_CORE_STATUS.HALT_CAUSE n) 0) (TROWEL_CORE_STATUS.GRAFTED n) (!own)
  | .bank =>
    if s.rake.unserved.any fun f => f.unit.cls = .bank && f.serves = g.serves then
      if g.serves < 96 then wr s SCHED_UP_USE.USED (rd s SCHED_UP_USE.USED - 8192)
      else wr s SCHED_DN_USE.USED (rd s SCHED_DN_USE.USED - 8192)
    else s
  | .lane =>
    let b := g.serves / 32
    let slot := g.serves % 32
    let l := i % 34
    let s1 := { s with lane := { s.lane with pos := s.lane.pos.set g.serves l slot, graft := s.lane.graft.erase i } }
    setFlag (wr (wr s1 (HL_LANE_STAT.STATE b l) 2) (HL_LANE_STAT.SLOT b l) slot) (HL_LANE_STAT.GRAFTED b l) (l ≠ slot)
  | _ => s

/-- The spare holds its shadow's present generation (R423). -/
def admits (s : State) (g : Graft) : Bool := unitGen s g.spare = shadowGen s (poolOf g.spare)

/-- A spare whose shadow has changed since its scrub is scrubbed once more before its switch-over (R423). -/
def rescrub (s : State) (g : Graft) : State :=
  putGraft s { g with ready := false, tries := 0, busy := 0, gen := shadowGen s (poolOf g.spare) }

/-- Switch-over (R418 steps 4 and 5): the work moves, GRAFTED, and the failing unit is fenced unless it is so already. -/
def admitGraft (s : State) (g : Graft) : State :=
  let s1 := followShadow (moveWork (dropGraft s g) g) g.spare
  let keep (f : Fenced) : Bool := !(f.unit.cls = g.unit.cls && f.serves = g.serves)
  let s2 := showDegraded { s1 with rake := { s1.rake with
    unserved := s1.rake.unserved.filter keep
    place := (s1.rake.place.insert g.unit.code 0).insert g.spare.code (g.serves + 1) } }
  let s3 := record s2 4 g.ev (some g.spare)
  let s4 := if g.fenced then s3 else fenceUnit s3 g.unit g.serves g.ev
  let s5 := if g.unit.cls = .lane then
      (match portOfSlot s4 (g.serves / 32) (g.serves % 32) with
       | some p => tryTrain s4 p
       | none => s4)
    else if rowGone s4 (g.serves / 64) then s4
    else if g.unit.cls = .parser || g.unit.cls = .reshuf then (rowPlaces (g.serves / 64)).foldl tryTrain s4
    else s4
  showGrafting (afterLaneGraft s5 g)

/-- The switch-over point of a ready graft is reached: the spare is admitted, if its generation is its shadow's (R423). -/
def finishGraft (s : State) (g : Graft) : State := if admits s g then admitGraft s g else rescrub s g

/-- R420: the domains of the grafts of `p` stop: GRAFT_ABORT, the failing units fenced and their places without a unit
(R428), the spares back in their pools. (In part DESIGN CHOICE, log entry 15.) -/
def stopGrafts (p : Graft → Bool) (s : State) : State :=
  (s.rake.grafts.filter p).foldl (fun t g =>
    if g.unit.cls = .table then dropGraft t g
    else
      let t1 := record (unprepare (dropGraft t g) g) 6 g.ev (some g.spare)
      let t2 := if g.fenced then t1 else fenceUnit t1 g.unit g.serves g.ev
      let pool := poolOf g.unit
      let t3 := setGen (setFree t2 pool (insertNat g.spare.idx (freeSpares t2 pool))) g.spare 0
      showGrafting (afterLaneGraft (losePlace t3 g.unit g.serves g.ev) g)) s

/-- A mode change from `was` to `m` stops the clock domain of a graft's units (R420, R451). -/
def graftStops (was m : Nat) (g : Graft) : Bool := domState was g.unit.domain = 0 && domState m g.unit.domain ≠ 0

/-! ### Severe sources (R409, R418) -/

/-- ACTION in force for a kind (R409). -/
def actionOf (s : State) (k : Nat) : Nat :=
  if k = 10 ∨ k = 11 then 1
  else if !flag s RAKE_CTRL.ACT_EN then 0
  else if rd s (RAKE_KIND.ACTION k) = 3 then 0
  else rd s (RAKE_KIND.ACTION k)

/-- A table bank is scrubbed in place; the shadow serves its lookups meanwhile (R425). (In part DESIGN CHOICE, log entry 15.) -/
def scrubTable (s : State) (u : RUnit) (e : FaultEv) : State :=
  let g : Graft := {
    unit := u, spare := u, serves := u.idx, fenced := true, ev := e, ready := false, tries := 0,
    busy := 0, gen := shadowGen s (poolOf u) }
  let s1 := shadowServes s u.idx
  showGrafting { s1 with rake := { s1.rake with grafts := s1.rake.grafts ++ [g] } }

/-- The Rake acts on a severe source. (In part DESIGN CHOICE, log entry 15.) -/
def actSevere (s : State) (e : FaultEv) : State :=
  match unitOf e with
  | none => s
  | some u =>
    let act := actionOf s e.kind
    if act = 0 then s
    else
      match graftOf s u with
      | some g => if u.cls = .table then s else abortGraft s g e
      | none =>
        if s.rake.grafts.any (fun g => g.unit = u) then s
        else if u.cls = .table then
          if act = 2 then fenceUnit s u u.idx e else scrubTable s u e
        else
          match servesOf s u with
          | none => s
          | some i =>
            if act = 1 then startGraft s u i e false
            else fenceOnly s u i e

/-! ### What an error destroys or spoils (R418, R426) -/

/-- The n-th of the items that a table of queues holds: its queue's key and its place there. -/
def nthHeld {α : Type} (t : Table (List α)) (n : Nat) : Option (Nat × Nat) :=
  match t with
  | [] => none
  | (k, l) :: r => if n < l.length then some (k, n) else nthHeld r (n - l.length)

/-- How many items a table of queues holds. -/
def heldCount {α : Type} (t : Table (List α)) : Nat := t.foldl (fun a e => a + e.2.length) 0

/-- One frame of the upstream buffer, or none, is discarded: which frame has the cell is a free value. -/
def loseUp (s : State) : State :=
  match nthHeld s.burst.queues (freeBelow s (heldCount s.burst.queues + 1)) with
  | none => useFree s
  | some (k, i) =>
    let l := s.burst.queues.get k []
    let s1 := setFifo (useFree s) (k / 32) (k / 4 % 8) (k % 4) (l.eraseIdx i)
    let s2 := if l.length ≤ 1 then setUpArb s1 (k / 32) (k / 4 % 8) ((upArb s1 (k / 32) (k / 4 % 8)).leave (k % 4)) else s1
    freeUpAll s2 ((l.drop i).take 1)

/-- The same in the downstream buffer; a Sprinkler frame holds no cell of it (R318). -/
def loseDn (s : State) : State :=
  match nthHeld s.sched.q (freeBelow s (heldCount s.sched.q + 1)) with
  | none => useFree s
  | some (k, i) =>
    let l := s.sched.q.get k []
    let c := queueCells ((l.drop i).take 1)
    if c = 0 then useFree s
    else
      let s1 := setDnQueue (useFree s) (k / 8) (k % 8) (l.eraseIdx i)
      let s2 := if l.length ≤ 1 then setArb s1 (k / 8) ((s1.sched.arb.get (k / 8) {}).leave (k % 8)) else s1
      freeDn s2 (k / 8) c

/-- The same among the frames that wait in the tiles of row g. -/
def loseTile (s : State) (g : Nat) : State :=
  let i := freeBelow s (s.sieve.frames.length + 1)
  match s.sieve.frames[i]? with
  | some f =>
    if f.port / (if f.up then 8 else 2) = g then useFree { s with sieve := { s.sieve with frames := s.sieve.frames.eraseIdx i } }
    else useFree s
  | none => useFree s

/-- An uncorrectable error, injected or not, destroys the frame that holds its cell (R418, R430). (In part DESIGN CHOICE, log entry 15.) -/
def destroyFrame (s : State) (e : FaultEv) : State :=
  if e.kind = 6 then
    match e.scope with
    | .row g => loseTile s g
    | .dev => if e.arg = 0 then loseUp s else if e.arg = 1 then loseDn s else s
    | .bed _ => s
  else s

/-- The units that a golden shadow belongs to. -/
def poolUnits (s : State) (pool : Nat) : List RUnit :=
  let i := pool % 65536
  match pool / 65536 with
  | 0 => (List.range (64 + spares s)).map fun n => { cls := .lrx, idx := n }
  | 1 => (List.range (64 + spares s)).map fun n => { cls := .ltx, idx := n }
  | 2 => (List.range (64 + spares s)).map fun n => { cls := .cipher, idx := n }
  | 3 => (List.range 14).map fun n => { cls := .trowel, idx := n }
  | 5 => (List.range 16).map fun n => { cls := .parser, idx := 16 * i + n }
  | 6 => (List.range 16).map fun n => { cls := .reshuf, idx := 16 * i + n }
  | 7 => (List.range 34).map fun n => { cls := .lane, idx := 34 * i + n }
  | 8 => [{ cls := .table, idx := i }]
  | _ => []

/-- An error in a golden shadow (R426), whose pool the event's location names: it is rebuilt from a unit in service that
reads back clean; without one, every later scrub from it fails until LOAD. Whether a unit in service reads back clean is a free value. (In part DESIGN CHOICE, log entry 15.) -/
def mendShadow (s : State) (e : FaultEv) : State :=
  if e.kind = 21 then
    let served : Bool := !poolIdle s e.loc && (poolUnits s e.loc).any fun u => (servesOf s u).isSome && !unitFenced s u
    let s1 := useFree s
    if s.rake.badShadow.contains e.loc || (served && freeBelow s 2 = 1) then s1
    else { s1 with rake := { s1.rake with badShadow := e.loc :: s1.rake.badShadow } }
  else s

/-- The unit of a code: class · 65,536 + index. -/
def unitOfCode (c : Nat) : Option RUnit :=
  let i := c % 65536
  match c / 65536 with
  | 0 => some { cls := .lrx, idx := i }
  | 1 => some { cls := .ltx, idx := i }
  | 2 => some { cls := .cipher, idx := i }
  | 3 => some { cls := .trowel, idx := i }
  | 4 => some { cls := .bank, idx := i }
  | 5 => some { cls := .parser, idx := i }
  | 6 => some { cls := .reshuf, idx := i }
  | 7 => some { cls := .lane, idx := i }
  | 8 => some { cls := .table, idx := i }
  | _ => none

/-- The event that a unit's own failed test stands for; `p` is the place that it serves. -/
def testEv (u : RUnit) (p : Nat) : FaultEv :=
  match u.cls with
  | .lrx => { kind := 1, scope := .row (p / 2), arg := p, loc := u.idx }
  | .ltx => { kind := 3, scope := .row (p / 2), arg := p, loc := u.idx }
  | .cipher => { kind := 9, scope := .row (p % 32), arg := p / 32, loc := u.idx }
  | .trowel => { kind := 11, scope := .dev, arg := p, loc := u.idx }
  | .bank => { kind := 6, scope := .dev, arg := if p < 96 then 0 else 1, loc := u.idx }
  | .parser => { kind := 7, scope := .row (p / 64), arg := p / 16 % 4, loc := u.idx }
  | .reshuf => { kind := 8, scope := .row (p / 64), arg := p / 16 % 4, loc := u.idx }
  | .lane => { kind := 17, scope := .bed (u.idx / 34), arg := u.idx % 34, loc := u.idx }
  | .table => { kind := 6, scope := .dev, arg := 2, loc := u.idx }

/-! ### Waking (R422, R423, R451) -/

/-- The unit's generation is not its shadow's: it is scrubbed before it is admitted (R423). -/
def needsScrub (s : State) (u : RUnit) : Bool := unitGen s u ≠ shadowGen s (poolOf u)

/-- The units whose scrub on their return fails: told by two failed read-backs, or from a shadow that nothing could mend. -/
def badWakers (s : State) : List RUnit :=
  (s.rake.badShadow.flatMap (poolUnits s)) ++
    ((s.rake.woken.filter fun e => 2 ≤ e.2).filterMap fun e => unitOfCode e.1).filter fun u => !s.rake.badShadow.contains (poolOf u)

/-- A unit comes back into service with the change from mode `was` to mode `m`. -/
def wakes (was m : Nat) (u : RUnit) : Bool := domState was u.domain ≠ 0 && domState m u.domain = 0

/-- The units that return from DEEP or SLEEP with the change from mode `was` of the state `old` (R423, R451): one whose
generation is not its shadow's is scrubbed first and then holds the shadow's, or is fenced after a second mismatch. (In part DESIGN CHOICE, log entry 15.) -/
def admitWoken (old : State) (s : State) : State :=
  let back (u : RUnit) : Bool := wakes (mode old) (mode s) u
  let lost := (badWakers old).filter fun u => back u && needsScrub old u && (servesOf old u).isSome && !unitFenced old u
  let s1 := { s with rake := { s.rake with
    slept := s.rake.slept.keep fun p => poolIdle s p
    woken := s.rake.woken.keep fun c => ((unitOfCode c).map back).getD false = false } }
  lost.foldl (fun t u =>
    let p := (servesOf old u).getD 0
    record (fenceOnly t u p (testEv u p)) 7 (testEv u p) (some u)) s1

/-! ### Taking an event -/

/-- The unit of an event is fenced or powered down in the present mode (R407): a spare that waits, or a unit out of the variant. (In part DESIGN CHOICE, log entry 15.) -/
def evIgnored (s : State) (e : FaultEv) : Bool :=
  match unitOf e with
  | none => false
  | some u =>
    if u.cls = .table then unitFenced s u
    else unitDown s u || unitFenced s u || ((servesOf s u).isNone && (graftOf s u).isNone)

/-- A source reports an event: R410, R416, and the action when it becomes severe; a collapsed core is fenced and grafted
whatever its kind's N says (R358, R409). `dry`: no action (R430). (In part DESIGN CHOICE, log entry 15.) -/
def takeEvent (s : State) (e : FaultEv) (dry : Bool) : State :=
  if e.kind = 0 ∨ 21 < e.kind ∨ evIgnored s e then s
  else
    let us := s.time.c / 1250
    let same (x : RSource) : Bool := x.kind = e.kind && x.scope = e.scope && (x.arg = e.arg || e.kind = 20) && x.loc = e.loc
    let old : RSource := (s.rake.sources.find? same).getD
      { kind := e.kind, scope := e.scope, arg := e.arg, loc := e.loc, count := 0, wstart := 0, active := false }
    let n := rd s (RAKE_KIND.N e.kind)
    let opens : Bool := old.count = 0 || decide (max 1 (rd s (RAKE_KIND.WINDOW e.kind)) ≤ us - old.wstart)
    let count := if opens then 1 else min (old.count + 1) 255
    let severe : Bool := n ≠ 0 && decide (n ≤ count)
    let new : RSource := { old with
      arg := e.arg
      count := if severe then 0 else count
      wstart := if opens then us else old.wstart
      active := levelKind e.kind }
    let s0 := mendShadow (destroyFrame s e) e
    let s1 := { s0 with rake := { s0.rake with sources := (s0.rake.sources.filter fun x => !same x) ++ [new] } }
    let s2 := showActive (wr s1 RAKE_STICKY.KINDS (Nat.lor (rd s1 RAKE_STICKY.KINDS) (2 ^ (e.kind - 1))))
    if severe then
      let s3 := record s2 2 e (unitOf e)
      if dry then s3 else actSevere s3 e
    else
      let s3 := if opens then record s2 1 e (unitOf e) else s2
      if e.kind = 10 then actSevere s3 e else s3

end Sys2Proof.Machine
end

