-- ==== Sys2Proof/Machine/OpsSieve.lean ====
section
/-!
DEFINITION. The Sieve: parsing, keys, the endpoint table and its versions, the shared operations of chapter 08.
-/

namespace Sys2Proof.Machine

/-! ### Staged registers and their active values (R286, R294) -/

/-- Is the register at this offset staged: SIEVE_BED_b_DN_CFG to _UP_DEF, SIEVE_FOX_*? -/
def svStaged (a : Nat) : Bool :=
  (decide (0x500100 ≤ a) && decide (a < 0x500200) && decide (a % 0x20 < 0x10)) ||
  (decide (0x500400 ≤ a) && decide (a < 0x500600))

/-- The register fields among State.regs that are staged. -/
def stagedRegs (s : State) : Table Nat := s.regs.filter fun e => svStaged (e.1 / 32 * 4)

/-- The active value of a staged field. -/
def rdAct (s : State) (f : Fld) : Nat := s.sieve.active.get f.key f.rst

/-- KT of a bed for a direction, 7 on the NL-7720-16 (R276), 6 treated as 0 (R277). (In part DESIGN CHOICE, log entry 5.) -/
def bedKt (s : State) (b : Nat) (up : Bool) : Nat :=
  let k := rdAct s (if up then SIEVE_BED_UP_CFG.KT b else SIEVE_BED_DN_CFG.KT b)
  if s.fuses.variant = 2 then 7 else if k = 6 then 0 else k

/-- SIEVE_VER.PENDING, USED and FREE kept true. -/
def svShow (s : State) : State :=
  let any := s.sieve.tbl.any fun e => e.2.addPending || e.2.removePending
  let s1 := setFlag s SIEVE_VER.PENDING (any || s.sieve.dirty)
  wr (wr s1 SIEVE_STATUS.USED s.sieve.tbl.length) SIEVE_OP_STATUS.FREE (64 - s.sieve.buf.length)

/-! ### Op records (R12, R282) -/

/-- The bits of word w of an op record that are not reserved; word 6 is reserved where DIR is 0 (R282). -/
def svMask (up : Bool) (w : Nat) : Nat :=
  match w with
  | 0 => 0xFE00FFFF
  | 5 => 0xFFFFFFF0
  | 6 => if up then 0x1FFF else 0
  | 7 => 0xE000FFFF
  | _ => 0xFFFFFFFF

/-- A write of SIEVE_OP_w, w below 7; word 6 is kept whatever DIR is, which the read and the submit judge (R12). (In part DESIGN CHOICE, log entry 45.) -/
def svOpStore (w : Nat) (v : Word) (s : State) : State := wr s (SIEVE_OP.V w) (Nat.land v.toNat (svMask true w))

/-- What SIEVE_OP_w reads as (R12). -/
def svOpView (s : State) (w : Nat) : Nat := Nat.land (rd s (SIEVE_OP.V w)) (svMask (bitAt (rd s (SIEVE_OP.V 0)) 28) w)

/-! ### Parsing (R274 to R278) -/

/-- Is a type a tag's TPID? -/
def isTpid (t : Nat) : Bool := t = 0x8100 || t = 0x88A8

/-- Window w of the fixed-offset extractor (R278); none when a byte with mask bits lies past the end. -/
def window (s : State) (b : Nat) (up : Bool) (w : Nat) (l : List Byte) : Option Nat :=
  let d := b2n up
  let off := rdAct s (SIEVE_FOX_A.OFFSET b d w)
  let mask := rdAct s (SIEVE_FOX_A.MASK_HI b d w) * 2 ^ 32 + rdAct s (SIEVE_FOX_B.MASK_LO b d w)
  let past := (List.range 6).any fun i => decide (l.length ≤ off + i) && bits mask (8 * (5 - i)) 8 ≠ 0
  if past then none else some (Nat.land (beAt l off 6) mask)

/-- What steps 1 to 3 of R274 find: the outer tag's VID if there is one, the type after the tags and the offset of what
follows; none on a parse failure of R275. -/
def parseEth (l : List Byte) : Option (Option Nat × Nat × Nat) :=
  let n := l.length
  let t0 := beAt l 12 2
  if n < 14 then none
  else if !isTpid t0 then some (none, t0, 14)
  else if n < 18 then none
  else
    let vid := beAt l 14 2 % 4096
    let t1 := beAt l 16 2
    if t0 = 0x8100 then if t1 = 0x88A8 then none else some (some vid, t1, 18)
    else if t1 = 0x8100 then
      if n < 22 then none
      else if isTpid (beAt l 20 2) then none
      else some (some vid, beAt l 20 2, 22)
    else some (some vid, t1, 18)

/-- The key data of a frame for key type `kt` (R277); none on a parse failure (R275). -/
def keyData (s : State) (b : Nat) (up : Bool) (kt : Nat) (l : List Byte) : Option Nat :=
  if kt = 7 then
    match window s b up 0 l, window s b up 1 l, window s b up 2 l with
    | some x, some y, some z => some (x * 2 ^ 96 + y * 2 ^ 48 + z)
    | _, _, _ => none
  else
    match parseEth l with
    | none => none
    | some (tag, ty, o) =>
      let pvid := rdAct s (if up then SIEVE_BED_UP_CFG.PVID b else SIEVE_BED_DN_CFG.PVID b)
      let t := tag.getD 0
      let vid := if t = 0 then pvid else t
      let first := beAt l o 1
      let v4 := ty = 0x0800 ∧ o + 20 ≤ l.length ∧ first / 16 = 4 ∧ 5 ≤ first % 16
      let v6 := ty = 0x86DD ∧ o + 40 ≤ l.length ∧ first / 16 = 6
      match kt with
      | 0 => some (vid * 2 ^ 48 + beAt l 0 6)
      | 1 => some (vid * 2 ^ 48 + beAt l 6 6)
      | 2 => if v4 then some (vid * 2 ^ 48 + beAt l (o + 16) 4) else none
      | 3 => if v4 then some (vid * 2 ^ 48 + beAt l (o + 12) 4) else none
      | 4 => if v6 then some (beAt l (o + 24) 16) else none
      | _ => if v6 then some (beAt l (o + 8) 16) else none

/-- The 160-bit key (R277). -/
def svKey (kt : Nat) (up : Bool) (b data : Nat) : Nat := kt * 2 ^ 157 + b2n up * 2 ^ 156 + b * 2 ^ 153 + data

/-! ### The endpoint table (R279 to R281, R293) -/

/-- H1 and H2 of a key (R279). -/
def svH1 (key : Nat) : Nat := crc32c (beBytes 20 key)
def svH2 (key : Nat) : Nat := crc32 (beBytes 20 key)

/-- The candidate buckets (R279). -/
def bucket1 (key : Nat) : Nat := svH1 key % 16384
def bucket2 (key : Nat) : Nat :=
  let b := svH2 key % 16384
  if b = bucket1 key then Nat.xor b 0x2000 else b

/-- The places at which a key's entries can stand: both buckets and the stash. -/
def svPlaces (key : Nat) : List Nat :=
  (List.range 8).map (8 * bucket1 key + ·) ++ (List.range 8).map (8 * bucket2 key + ·) ++
    (List.range 64).map (0x20000 + ·)

/-- The first entry of a key that satisfies `p`, with its place. -/
def svFind (s : State) (key : Nat) (p : SvEntry → Bool) : Option (Nat × SvEntry) :=
  (svPlaces key).findSome? fun i =>
    match s.sieve.tbl.find i with
    | some e => if e.key = key && p e then some (i, e) else none
    | none => none

/-- Visibility to a frame of version v (R293). -/
def visible (cur v : Nat) (e : SvEntry) : Bool :=
  let age (x : Nat) := (cur + 16 - x) % 16
  !e.addPending && (e.addRetired || decide (age v ≤ age e.addVer)) &&
    (!e.removed || e.removePending || decide (age e.removeVer < age v))

/-- The entry of a key in the pending view (R288). -/
def svPending (s : State) (key : Nat) : Option (Nat × SvEntry) := svFind s key fun e => !e.removed

/-- The lowest free way of a bucket. -/
def freeWay (t : Table SvEntry) (b : Nat) : Option Nat := firstBelow 8 fun w => !t.has (8 * b + w)

/-- The moves of a path, last place first: the entry at each place goes to the next one, `dst` after the last. -/
def shiftPath (path : List Nat) (dst : Nat) (t : Table SvEntry) : Table SvEntry × Nat :=
  path.reverse.foldl (fun (x : Table SvEntry × Nat) p =>
    match x.1.find p with
    | some e => ((x.1.insert x.2 e).erase p, p)
    | none => (x.1, p)) (t, dst)

/-- The walk of R281: at most `n` places, from (b, w). The table after the moves and the place freed, or none. -/
def svWalk (n : Nat) (t : Table SvEntry) (path : List Nat) (b w : Nat) : Option (Table SvEntry × Nat) :=
  match n with
  | 0 => none
  | m + 1 =>
    let p := 8 * b + w
    if path.contains p then none
    else
      match t.find p with
      | none => none
      | some v =>
        let a := if bucket1 v.key = b then bucket2 v.key else bucket1 v.key
        match freeWay t a with
        | some f => some (shiftPath (path ++ [p]) (8 * a + f) t)
        | none => svWalk m t (path ++ [p]) a ((w + 1) % 8)

/-- A place for a new entry, and the table after the moves that it takes (R281). -/
def svPlace (t : Table SvEntry) (key : Nat) : Option (Table SvEntry × Nat) :=
  match freeWay t (bucket1 key) with
  | some w => some (t, 8 * bucket1 key + w)
  | none =>
    match freeWay t (bucket2 key) with
    | some w => some (t, 8 * bucket2 key + w)
    | none =>
      match svWalk 16 t [] (bucket1 key) (bits (svH1 key) 14 3) with
      | some x => some x
      | none => (firstBelow 64 fun i => !t.has (0x20000 + i)).map fun i => (t, 0x20000 + i)

/-! ### Tag operations (R283, R284) -/

/-- A tag of TPID 0x8100 and DEI 0. -/
def tagBytes (pcp vid : Nat) : List Byte := beBytes 2 0x8100 ++ beBytes 2 (pcp * 8192 + vid)

/-- TAG_OP applied to a frame. -/
def tagApply (op pcp vid : Nat) (l : List Byte) : List Byte :=
  let tagged : Bool := decide (16 ≤ l.length) && isTpid (beAt l 12 2)
  match op with
  | 1 => if tagged then l.take 12 ++ l.drop 16 else l
  | 2 => l.take 12 ++ tagBytes pcp vid ++ l.drop 12
  | 3 =>
    if tagged then l.take 14 ++ beBytes 2 (pcp * 8192 + bits (beAt l 14 2) 12 1 * 4096 + vid) ++ l.drop 16
    else l.take 12 ++ tagBytes pcp vid ++ l.drop 12
  | _ => l

/-- A push that would raise FLEN above 9,596. -/
def tagTooLong (op : Nat) (l : List Byte) (pcp vid : Nat) : Bool :=
  decide (l.length < (tagApply op pcp vid l).length) && decide (9596 < (tagApply op pcp vid l).length)

/-! ### Frames into the Sieve (R271, R272) -/

/-- Bytes of the input buffer that a channel's waiting frames fill, FLEN words included. -/
def tileBytes (s : State) (k : Nat) : Nat :=
  s.sieve.frames.foldl (fun a f => if !f.up && f.port = k then a + 2 + f.bytes.length else a) 0

/-- A frame of a pod reaches the tile of channel k, or finds its 64 KiB input buffer full. -/
def svDown (s : State) (k bed : Nat) (l : List Byte) : State :=
  if 65536 < tileBytes s k + 2 + l.length then bump s (SIEVE_OVR.COUNT (k / 2)) 1
  else { s with sieve := { s.sieve with frames := s.sieve.frames ++ [{ up := false, port := k, bed := bed, tile := k % 2, bytes := l }] } }

/-- A host frame reaches its row's upstream tiles 0 and 1 in turn (R21); the merge behind them keeps the arrival order, so
one queue holds the frames of both. -/
def svUp (s : State) (p : Nat) (l : List Byte) : State :=
  let g := p / 8
  let odd := s.sched.tile.contains g
  { s with
    sieve := { s.sieve with frames := s.sieve.frames ++ [{ up := true, port := p, bed := p / 32, tile := b2n odd, bytes := l }] }
    sched := { s.sched with tile := if odd then s.sched.tile.erase g else g :: s.sched.tile } }

/-- The entries of a packet pod's plaintext (R119); `n` bounds their number. -/
def podEntries (n : Nat) (l : List Byte) : List (List Byte) :=
  match n with
  | 0 => []
  | m + 1 =>
    let f := beAt l 0 2
    if l.length < 2 ∨ f < 60 ∨ 9596 < f ∨ l.length < 2 + f then []
    else (l.drop 2).take f :: podEntries m (l.drop (2 + f))

/-- The bed that SIEVE_SLOTBED names for a key slot (R272). -/
def slotBed (s : State) (key : Nat) : Nat := bits (rd s (SIEVE_SLOTBED.BEDS (key / 8))) (4 * (key % 8)) 4

/-- The frames of a decrypted packet pod reach the Sieve; those of a pod without a bed are dropped and counted. -/
def podFrames (s : State) (k bed : Nat) (pt : List Byte) : State :=
  (podEntries pt.length pt).foldl (fun t l =>
    if beds t ≤ bed then bump t SIEVE_NOBED.COUNT 1 else svDown t k bed l) s

end Sys2Proof.Machine
end

