-- ==== Sys2Proof/Machine/OpsGate.lean ====
section
/-!
DEFINITION. Gate lists (R323 to R328), the pauses received (R321, R322) and the meters' buckets (R302, R303).
-/

namespace Sys2Proof.Machine

/-! ### Lists -/

/-- BASE of list l of row g, in units of 2^-16 ns. -/
def gateBase (s : State) (g l : Nat) : Nat :=
  ((rd s (SCHED_GATE_CFG.SEC_HI g l) * 2 ^ 32 + rd s (SCHED_GATE_BASE_SEC.SEC_LO g l)) * 1000000000 +
    rd s (SCHED_GATE_BASE_NS.NS g l)) * 65536

/-- CYCLE and LEN within their limits. -/
def gateCycle (s : State) (g l : Nat) : Nat := clampNat 1000 1000000000 (rd s (SCHED_GATE_CYCLE.CYCLE g l)) * 65536
def gateLen (s : State) (g l : Nat) : Nat := clampNat 1 256 (rd s (SCHED_GATE_CFG.LEN g l))

/-- (T − BASE) mod CYCLE. -/
def gatePhase (s : State) (g l u : Nat) : Nat := (((u : Int) - gateBase s g l) % (gateCycle s g l : Int)).toNat

/-- The entries of a list that count: number, GATES, INTERVAL. When every INTERVAL is 0, the last entry stands alone. -/
def gateEntries (s : State) (g l : Nat) : List (Nat × Nat × Nat) :=
  let n := gateLen s g l
  let es := (List.range n).filterMap fun e =>
    let t := rd s (SCHED_GCL.INTERVAL g l e)
    if t = 0 then none else some (e, rd s (SCHED_GCL.GATES g l e), t * 65536)
  if es.isEmpty then [(n - 1, rd s (SCHED_GCL.GATES g l (n - 1)), gateCycle s g l)] else es

/-- One cycle of a list: entry, gates, duration; the rest cut off at its end, the last entry held to it. -/
def gateCut (cyc : Nat) (l : List (Nat × Nat × Nat)) : List (Nat × Nat × Nat) :=
  match l with
  | [] => []
  | [(e, gt, _)] => if cyc = 0 then [] else [(e, gt, cyc)]
  | (e, gt, t) :: r => if cyc = 0 then [] else (e, gt, min t cyc) :: gateCut (cyc - min t cyc) r
def gateSegs (s : State) (g l : Nat) : List (Nat × Nat × Nat) := gateCut (gateCycle s g l) (gateEntries s g l)

/-- What is left of a cycle from a phase on. -/
def segsFrom (pos : Nat) (l : List (Nat × Nat × Nat)) : List (Nat × Nat × Nat) :=
  match l with
  | [] => []
  | (e, gt, t) :: r => if pos < t then (e, gt, t - pos) :: r else segsFrom (pos - t) r

/-- How long gate q stays open from the start of `l`. -/
def openRun (q : Nat) (l : List (Nat × Nat × Nat)) : Nat :=
  match l with
  | [] => 0
  | (_, gt, t) :: r => if bitAt gt q then t + openRun q r else 0

/-- The longest interval in which gate q stays open, over `l`. -/
def longestRun (q : Nat) (l : List (Nat × Nat × Nat)) : Nat :=
  (l.foldl (fun (x : Nat × Nat) e =>
    let c := if bitAt e.2.1 q then x.2 + e.2.2 else 0
    (max x.1 c, c)) (0, 0)).1

/-- Gate q of row g never closes. -/
def neverCloses (s : State) (g q : Nat) : Bool :=
  !flag s (SCHED_GATE_CTRL.GATE_EN g) || (gateSegs s g (rd s (SCHED_GATE_CTRL.OPER g))).all fun e => bitAt e.2.1 q

/-- The entry in force and its gates, by T. -/
def gateNow (s : State) (g : Nat) : Nat × Nat :=
  let l := rd s (SCHED_GATE_CTRL.OPER g)
  match segsFrom (gatePhase s g l (now s)) (gateSegs s g l) with
  | [] => (0, 0xFF)
  | (e, gt, _) :: _ => (e, gt)

/-- Time from now until gate q closes under the operational list; 0 when it is closed. -/
def closesIn (s : State) (g q : Nat) : Nat :=
  let l := rd s (SCHED_GATE_CTRL.OPER g)
  let segs := gateSegs s g l
  openRun q (segsFrom (gatePhase s g l (now s)) segs ++ segs)

/-! ### Frames at the port MAC (R283, R284, R325, R524) -/

/-- A queued frame as the port MAC sends it, without FCS. -/
def DnFrame.sent (f : DnFrame) : List Byte :=
  let l := tagApply f.tag.1 f.tag.2.1 f.tag.2.2 f.bytes
  if l.length < 60 then padTo 60 l else l

/-- Its transmission, from the preamble to the last byte, in units of 2^-16 ns at the port's rate (R519). -/
def txTime (s : State) (p n : Nat) : Nat := ceilDiv ((n + 12) * 65536) (25 * max 1 (rd s (HL_PORT.WIDTH p)))

/-- The heads of a queue that could never complete while its gate is open are discarded (R325). -/
def dropHeads (n : Nat) (p q : Nat) (s : State) : State :=
  match n with
  | 0 => s
  | m + 1 =>
    match dnQueue s p q with
    | [] => s
    | f :: r =>
      let g := p / 8
      let segs := gateSegs s g (rd s (SCHED_GATE_CTRL.OPER g))
      if neverCloses s g q || decide (txTime s p f.sent.length ≤ longestRun q (segs ++ segs)) then s
      else
        let s1 := freeDn (setDnQueue s p q r) p f.cells
        let s2 := if r.isEmpty then setArb s1 p ((s1.sched.arb.get p {}).leave q) else s1
        dropHeads m p q (bump s2 (SCHED_DN_QDROP.GATE_OVER p q) 1)
def dropOver (s : State) (p : Nat) : State := (List.range 8).foldl (fun t q => dropHeads (dnQueue t p q).length p q t) s

/-- Members that become eligible again after a closed gate or a pause (R315). -/
def wakeQueues (s : State) (p mask : Nat) : State :=
  setArb s p ((List.range 8).foldl (fun a q => if bitAt mask q then a.wake q else a) (s.sched.arb.get p {}))

/-- Is queue q of port p paused (R321)? -/
def qPaused (s : State) (p q : Nat) : Bool := bitAt (rd s (SCHED_DN_PORT_STAT.PAUSED p)) q || flag s (SCHED_DN_PORT_STAT.LINK_PAUSED p)

/-- The gates in force of row g. -/
def gatesOf (s : State) (g : Nat) : Nat := if flag s (SCHED_GATE_CTRL.GATE_EN g) then s.sched.gopen.get g 0xFF else 0xFF

/-- The operational list applies the entry that T names (R323); queues whose gates open become eligible again. -/
def applyGates (g : Nat) (s : State) : State :=
  let old := gatesOf s g
  if flag s (SCHED_GATE_CTRL.GATE_EN g) then
    let n := gateNow s g
    let s1 := { s with sched := { s.sched with gpos := s.sched.gpos.set g n.1 0, gopen := s.sched.gopen.set g n.2 0xFF } }
    (rowPlacesOf g).foldl (fun t p => if portFormed t p then wakeQueues t p (n.2 - Nat.land n.2 old) else t) s1
  else s
where
  /-- The ports of a row. -/
  rowPlacesOf (g : Nat) : List Nat := (List.range 8).map (8 * g + ·)

/-- The operational list takes over (R325): its gates, and the heads that can never pass them. -/
def takeOver (g : Nat) (s : State) : State :=
  (List.range 8).foldl (fun t i => if portFormed t (8 * g + i) then dropOver t (8 * g + i) else t) (applyGates g s)

/-- A write of GATE_EN (R323). -/
def gateEnable (g : Nat) (on : Bool) (s : State) : State :=
  let was := flag s (SCHED_GATE_CTRL.GATE_EN g)
  let old := gatesOf s g
  let s1 := setFlag s (SCHED_GATE_CTRL.GATE_EN g) on
  if on && !was then takeOver g s1
  else if was && !on then
    let s2 := { s1 with sched := { s1.sched with gpos := s1.sched.gpos.erase g, gopen := s1.sched.gopen.erase g } }
    (List.range 8).foldl (fun t i =>
      if portFormed t (8 * g + i) then wakeQueues t (8 * g + i) (0xFF - Nat.land 0xFF old) else t) s2
  else s1

/-- A trigger with ACTION 4 (R326); `u` is the time of its firing. -/
def gateTrigger (s : State) (g u : Nat) : State :=
  if rows s ≤ g then s
  else if flag s (SCHED_GATE_CTRL.ARM g) && !flag s (SCHED_GATE_CTRL.PENDING g) then
    let l := 1 - rd s (SCHED_GATE_CTRL.OPER g)
    let b := gateBase s g l
    let c := gateCycle s g l
    let ct := if u ≤ b then b else b + ceilDiv (u - b) c * c
    setFlag { s with sched := { s.sched with gct := s.sched.gct.insert g (ct + 1) } } (SCHED_GATE_CTRL.PENDING g) true
  else setFlag s (SCHED_GATE_CTRL.UNARMED g) true

/-- After an accepted step or set, every row that runs a list takes its new position (R328). -/
def gatesStep (s : State) : State :=
  (List.range (rows s)).foldl (fun t g =>
    if flag t (SCHED_GATE_CTRL.GATE_EN g) then setFlag (applyGates g t) (SCHED_GATE_CTRL.STEP_SEEN g) true else t) s

/-! ### Pauses received (R321, R322) -/

/-- A pause timer of port p loaded: q is a priority, or 8 for PAUSE. A time of 0 ends the pause. -/
def loadPause (s : State) (p q t : Nat) : State :=
  let s1 := { s with sched := { s.sched with timer := s.sched.timer.set (16 * p + q) t 0 } }
  let was := rd s (SCHED_DN_PORT_STAT.PAUSED p)
  if q = 8 then
    let s2 := setFlag s1 (SCHED_DN_PORT_STAT.LINK_PAUSED p) (t ≠ 0)
    if t = 0 ∧ flag s (SCHED_DN_PORT_STAT.LINK_PAUSED p) then wakeQueues s2 p (0xFF - was % 256) else s2
  else
    let s2 := wr s1 (SCHED_DN_PORT_STAT.PAUSED p) (was - Nat.land was (2 ^ q) + (if t = 0 then 0 else 2 ^ q))
    if t = 0 ∧ bitAt was q ∧ ¬ flag s (SCHED_DN_PORT_STAT.LINK_PAUSED p) then wakeQueues s2 p (2 ^ q) else s2

/-- A PAUSE or PFC frame received on port p (R321). -/
def pauseIn (s : State) (p : Nat) (l : List Byte) : State :=
  if beAt l 14 2 = 1 then loadPause s p 8 (beAt l 16 2)
  else
    (List.range 8).foldl (fun t q => if bitAt (beAt l 16 2) q then loadPause t p q (beAt l (18 + 2 * q) 2) else t) s

/-! ### Meters (R302 to R305) -/

/-- The bursts of a meter, in bytes. -/
def polBurst (s : State) (m : Nat) : Nat := max 9620 (rd s (METER_CFG.POL_BURST m))
def shpBurst (s : State) (m : Nat) : Nat := rd s (METER_SHPB.SHP_BURST m)

/-- C[31:0]. -/
def cLow (s : State) : Nat := s.time.c % 2 ^ 32

/-- Both buckets of a meter refreshed to the present C. -/
def meterFresh (s : State) (m : Nat) : Meter :=
  let x := s.sched.meters.get m {}
  let d : Int := ((cLow s + 2 ^ 32 - x.last) % 2 ^ 32 : Nat)
  let up (b : Int) (rate burst : Nat) : Int := min (b + rate * d) (burst * 2 ^ 24 : Nat)
  { pol := up x.pol (rd s (METER_POL_RATE.RATE m)) (polBurst s m)
    shp := up x.shp (rd s (METER_SHP_RATE.RATE m)) (shpBurst s m)
    last := cLow s }

def putMeter (s : State) (m : Nat) (x : Meter) : State := { s with sched := { s.sched with meters := s.sched.meters.set m x {} } }

/-- A write to the meter fills its buckets. -/
def meterFill (s : State) (m : Nat) : State :=
  putMeter s m { pol := (polBurst s m * 2 ^ 24 : Nat), shp := (shpBurst s m * 2 ^ 24 : Nat), last := cLow s }

end Sys2Proof.Machine
end

