-- ==== Sys2Proof/Machine/OpsTime.lean ====
section
/-!
DEFINITION. The time engine's arithmetic: rate commits, steps, calibration entries and the one-way delay, the shared
operations of chapter 06.
-/

namespace Sys2Proof.Machine

/-! ### Status -/

/-- A change of TIME_STATUS[3:0] between two states produces notifications of type 4 (R502). -/
def noteStatus (old new : State) : State :=
  let b (s : State) : Nat := rd s TIME_STATUS.VALID + 2 * rd s TIME_STATUS.LOCKED + 4 * rd s TIME_STATUS.HOLDOVER +
    8 * rd s TIME_STATUS.HOLD_FREE
  if b old = b new then new else notifyAll new (fns new) 4 (b new)

/-! ### Rate (R211, R212, R232) -/

/-- A rate commit at the present cycle: OFFSET := T, B := C, the new rate; the staged low word follows. -/
def commitRate (s : State) (r : Int) : State :=
  let t := { s.time with
    ofs := now s, base := s.time.c, rate := r
    rates := (s.time.sf, r) :: s.time.rates.filter fun e => decide (s.time.sf < e.1 + 1024) }
  let c := ofSigned 40 r
  wr (wr { s with time := t } TIME_RATE_LO.RATE_LO c) TIME_RATE_HI.RATE_HI (c / 2 ^ 32)

/-- The mean of the rates committed over the last 1,024 superframes, the present rate where there is none. A mean between
two codes of ρ takes either, by a free value. (In part DESIGN CHOICE, log entry 9.) -/
def meanRate (s : State) : Int × State :=
  let l := s.time.rates.filter fun e => decide (s.time.sf < e.1 + 1024)
  if l.isEmpty then (s.time.rate, s)
  else
    let sum : Int := l.foldl (fun a e => a + e.2) 0
    let n : Int := l.length
    if sum.fmod n = 0 then (sum.fdiv n, s) else (sum.fdiv n + (freeBelow s 2 : Nat), useFree s)

/-- The second's measurement in SERVICE of REFCLK against the recovered clock (R232): what it finds is a free value of 40
signed bits. (In part DESIGN CHOICE, log entry 9.) -/
def measureRatio (s : State) : State :=
  if mode s = 4 then useFree { s with time := { s.time with ratio := toSigned 40 (freeBelow s (2 ^ 40)) } } else s

/-- Rate `r` of the recovered clock as the rate of a clock that runs at 1 + d · 2^-48 of it: T goes on at the same pace.
Rounded half to even and held to the 40 bits of ρ. (In part DESIGN CHOICE, log entry 9.) -/
def ratioRate (r d : Int) : Int :=
  clampInt (-(2 ^ 39)) (2 ^ 39 - 1) (roundHalfEven ((2 ^ 48 + r) * 2 ^ 48) (2 ^ 48 + d) - 2 ^ 48)

/-- The holdover rate of R232 is committed; in free holdover the measured frequency ratio adjusts it, 1 while REFCLK is not
judged stable (R456), and the rate in force before is kept for the way back. (In part DESIGN CHOICE, log entry 9.) -/
def holdoverCommit (s : State) (lof : Bool) : State :=
  let m := meanRate s
  let s1 := { m.2 with time := { m.2.time with resume := if lof then some s.time.rate else none } }
  commitRate s1 (if lof && flag s CLK_STATUS.REFCLK_OK then ratioRate m.1 s.time.ratio else m.1)

/-- STOCK passes to reference `src` (R454, R456); its judgement begins afresh (R452). -/
def stockTo (s : State) (src : Nat) : State :=
  wr { s with power := { s.power with pass := s.power.pass.keep (· < 2), failW := s.power.failW.keep (· < 2) } }
    CLK_STATUS.STOCK_SRC src

/-! ### Steps and sets (R213 to R216) -/

/-- THRESH in units of 2^-16 ns. -/
def jumpThresh (s : State) : Nat := rd s TIME_JUMP.THRESH * 65536

/-- The target of trigger n, with the FRAC that only the PPS edge placement uses. -/
def trigEdge (s : State) (n : Nat) : Nat :=
  mkTime (rd s (TIME_TRIG_SEC.SEC n) * 65536 + rd s (TIME_TRIG_MID.SEC_LO n)) (rd s (TIME_TRIG_NS.NS n))
    (rd s (TIME_TRIG_MID.FRAC n))

/-- The target of trigger n, which ignores FRAC. -/
def trigTarget (s : State) (n : Nat) : Nat :=
  mkTime (rd s (TIME_TRIG_SEC.SEC n) * 65536 + rd s (TIME_TRIG_MID.SEC_LO n)) (rd s (TIME_TRIG_NS.NS n)) 0

/-- OFFSET moved by `d`, with the triggers jumped over remembered (R216). LOCKED clears (R231). (In part DEDUCED, log entry 22.) -/
def addOffset (s : State) (d : Int) : State :=
  let u := now s
  let tooMuch := (List.range 64).filter fun n =>
    flag s (TIME_TRIG_CTRL.ARM n) && decide (u < trigTarget s n) && decide ((trigTarget s n : Int) ≤ u + d)
  let s1 := { s with time := { s.time with
    ofs := ((s.time.ofs + d) % (timeWrap : Nat)).toNat, jumped := s.time.jumped ++ tooMuch, good := 0 } }
  setFlag (if d = 0 then s1 else setFlag s1 TIME_STATUS.STEPPED true) TIME_STATUS.LOCKED false

/-- A step or set of size `d` requested (R213, R215): RESULT, and the flags. (In part DEDUCED, log entry 22.) -/
def requestStep (s : State) (d : Int) (set : Bool) : State :=
  let small : Bool := d.natAbs ≤ jumpThresh s
  let valid := flag s TIME_STATUS.VALID
  let force := flag s TIME_ADJ.FORCE
  let clr (t : State) : State := setFlag (setFlag (setFlag t TIME_ADJ.GO_STEP false) TIME_ADJ.GO_SET false) TIME_ADJ.FORCE false
  if small || !valid || force then
    let s1 := addOffset s d
    let s2 := gatesStep (if set then setFlag s1 TIME_STATUS.VALID true else s1)
    noteStatus s (clr (wr s2 TIME_ADJ.RESULT (if small || !valid then 1 else 3)))
  else clr (setFlag (wr s TIME_ADJ.RESULT 2) TIME_STATUS.STEP_REFUSED true)

/-- D of a set to time `u` (R214). -/
def setDelta (s : State) (u : Nat) : Int := (u : Int) - now s

/-- PPS output x falls, where it is high. -/
def ppsDrop (s : State) (x : Nat) : State :=
  if s.time.pulse.has x then emit { s with time := { s.time with pulse := s.time.pulse.erase x } } (.ppsLow x) else s

/-! ### Calibration (R219, R220) -/

/-- One entry computed from the factory data `d25`, `d1`, `d2` at temperature code `x`. (In part DESIGN CHOICE, log entry 7.) -/
def calEntry (d25 : Nat) (d1 d2 x : Int) : Nat :=
  let p := sat16 (roundHalfEven (d2 * x) (2 ^ 15) + d1)
  (clampInt 0 (2 ^ 32 - 1) (d25 + roundHalfEven (p * x) (2 ^ 11))).toNat

/-- The connector in use, 0 LINE_A, 1 LINE_B. -/
def connNo (s : State) : Nat := rd s LINE_STATUS.CONN % 2

/-- Entry `i` recomputed at temperature code `x`. -/
def recalEntry (s : State) (i : Nat) (x : Int) : State :=
  let f := s.time.d25.get (128 * connNo s + i) (0, 0, 0)
  { s with time := { s.time with cal := s.time.cal.set i (calEntry f.1 f.2.1 f.2.2 x) 0, calX := s.time.calX.insert i x } }

/-- Firmware's recomputation when the path's temperature code is `x`: only when it has moved by 128 or more. -/
def recalMaybe (s : State) (i : Nat) (x : Int) : State :=
  match s.time.calX.find i with
  | some y => if 128 ≤ (x - y).natAbs then recalEntry s i x else s
  | none => recalEntry s i x

/-- The channel whose transmitter serves the bursts of upstream channel u: its own, and for a ranging channel that the
variant does not license, the highest licensed one (R189, R190). -/
def txPath (s : State) (u : Nat) : Option Nat :=
  if u < chans s then some u else if u % 32 = 31 ∧ u < 64 then some (chans s - 1) else none

/-- The temperature code of the optical engine of the transmit or receive path of channel k. -/
def pathX (s : State) (tx : Bool) (k : Nat) : Int := sat16 ((laserOf s tx (engOf s tx k)).tnow - 6400)

/-- Every entry of a path of the variant recomputed at the present temperature of its path's engine, on a protection
switch; the ranging channels of R190 among them. -/
def recalAll (s : State) : State :=
  let s1 := (List.range (chans s)).foldl (fun t k => recalEntry t k (pathX s false k)) s
  (List.range 64).foldl (fun t u => (txPath s u).elim t fun k => recalEntry t (64 + u) (pathX s true k)) s1

/-! ### The one-way delay (R221 to R225) -/

/-- tq of R224 for channel k, in 2^-14 symbol. -/
def delayTq (t : TimeSt) (k : Nat) : Int :=
  let ns : Int := k * t.n1 + k * k * t.n2
  let na : Int := 38 * (t.n1 + 2 * k * t.n2)
  roundHalfEven (128 * t.q0 + 128 * (ns + na)) 62496

/-- dn of R222 for channel k, in 2^-16 ns. -/
def delayDn (t : TimeSt) (k : Nat) : Int := roundHalfEven (delayTq t k * 4) 115

/-- aq of R222 for channel k. -/
def delayAq (t : TimeSt) (k : Nat) : Int := roundHalfEven (38 * (t.n1 + 2 * k * t.n2) * 256) 62496

/-- The channel of the timing receiver. -/
def timingCh (s : State) : Nat := rd s LINE_CLK_SRC.CURRENT

/-- The delay registers show the estimate for the timing channel (R222, R225). -/
def showDelay (s : State) : State :=
  if s.time.fit then
    let k := timingCh s
    let dn := (delayDn s.time k).toNat
    let s1 := wr (setFlag (wr s TIME_DC_STATUS.DN_FRAC (dn % 65536)) TIME_DC_STATUS.VALID true) TIME_DC_STATUS.CHANNEL k
    wrInt (wr s1 TIME_DC_DN_NS.DN_NS (dn / 65536)) TIME_DC_ASYM.ASYM (delayAq s.time k)
  else s

/-- K_H of the tree (R221). -/
def headDelay (s : State) : Int := s.boot.kH

/-- RTD register n. -/
def rtdOf (s : State) (n : Nat) : Int := rd s (JOIN_RTD.RTD n)

/-- The symmetric estimate of R223, where JOIN_RTD_0 holds a value. -/
def symmetricFit (s : State) : State :=
  if bitAt (rd s JOIN_STATUS.RTD_VALID) 0 then
    let t := { s.time with q0 := 62496 * (rtdOf s 0 - headDelay s), n1 := 0, n2 := 0, fit := true }
    showDelay (setFlag { s with time := t } TIME_DC_STATUS.SYM true)
  else s

/-- The fit after a DC_RANGE_RESULT whose VALID bits were `valid` (R222, R223). -/
def fitDelay (s : State) (valid : Nat) : State :=
  let m0 := rtdOf s 1 - headDelay s
  let u1 := rtdOf s 2 - headDelay s - m0
  let u2 := rtdOf s 3 - headDelay s - m0
  let t := { s.time with q0 := 62496 * m0, n1 := 3969 * u1 - 961 * u2, n2 := 31 * u2 - 63 * u1, fit := true }
  let tq := delayTq t (timingCh s)
  let err := if valid % 8 ≠ 7 then 1 else if 2 ^ 19 ≤ u1.natAbs ∨ 2 ^ 19 ≤ u2.natAbs then 2
    else if tq < 0 ∨ 2 ^ 40 - 1 < tq then 3 else 0
  let s1 := wr s TIME_DC_STATUS.ERR err
  if err = 0 then showDelay (setFlag { s1 with time := t } TIME_DC_STATUS.SYM false) else symmetricFit s1

/-- A new RTD on upstream channel c (R223, R224). -/
def shiftDelay (s : State) (c : Nat) : State :=
  if s.time.fit then
    let q := 62496 * (rtdOf s 0 - headDelay s) - ((c : Int) * s.time.n1 + c * c * s.time.n2)
    showDelay { s with time := { s.time with q0 := q } }
  else if rd s JOIN_STATUS.PROFILE = 2 then symmetricFit s
  else s

/-- The RTD records are cleared (R172, R228). -/
def clearRtd (s : State) : State :=
  let s1 := (List.range 4).foldl (fun t n => wr t (JOIN_RTD.RTD n) 0) s
  setFlag (wr { s1 with time := { s1.time with fit := false } } JOIN_STATUS.RTD_VALID 0) TIME_DC_STATUS.VALID false

end Sys2Proof.Machine
end

