-- ==== Sys2Proof/Machine/OpsMode.lean ====
section
/-!
DEFINITION. Modes and resets: the transitions of R38, the resets of R172 and the entries to LOAD, JOIN, SERVICE and
HOLDOVER that several chapters call for.
-/

namespace Sys2Proof.Machine

/-! ### Joining resets (R171, R172) -/

/-- The place under EQD `v` of a scheduled grant whose upstream frame begins, under `v`, at or after the instant `w`; none
for a grant of an earlier frame and for a discovery grant, which keep the place they have (R133, R173). -/
def Grant.moved (g : Grant) (w : Int) (v : Nat) : Option Grant :=
  let base : Int := g.t0 - (1840000 + g.eqd + 64 * g.start : Nat) * 65536
  if g.kind = 1 ∨ base + (1840000 + v : Nat) * 65536 < w then none
  else some { g with eqd := v, t0 := (base + (1840000 + v + 64 * g.start : Nat) * 65536).toNat }

/-- The scheduled grants of the next and later upstream frames take EQD `v`; one that would overlap a burst that keeps its
place is not served (R133, R136). (In part DEDUCED, log entry 21.) -/
def retimeGrants (s : State) (w : Int) (v : Nat) : State :=
  let stay (g : Grant) : Bool := (g.moved w v).isNone
  let kept := (s.burst.grants ++ s.burst.bursts.map (·.grant)).filter stay ++ s.burst.air.map (·.grant)
  let go (g : Grant) : Grant := (g.moved w v).getD g
  let lost (g : Grant) : Bool := !stay g && kept.any (overlaps (go g))
  let bs := { s.burst with
    grants := (s.burst.grants.filter fun g => !lost g).map go
    bursts := (s.burst.bursts.filter fun b => !lost b.grant).map fun b => { b with grant := go b.grant } }
  let gone := s.burst.bursts.filter fun b => lost b.grant
  let s1 := gone.foldr (fun b t => returnBurst t b) { s with burst := bs }
  ((s.burst.grants ++ s.burst.bursts.map (·.grant)).filter lost).foldl (fun t g => bump t (BURST_SKIPX.CONFLICT g.cnt) 1) s1

/-- BURST_EQD.EQD takes a value, staged for the upstream frames that begin after the write (R133). (In part DEDUCED, log entry 21.) -/
def setEqd (s : State) (v : Nat) : State :=
  let w : Int := 115 * (now s : Int)
  let s1 := retimeGrants s w v
  let b := { s1.burst with eqds := (w, rd s BURST_EQD.EQD) :: s1.burst.eqds }
  setFlag (wr { s1 with burst := b } BURST_EQD.EQD v) BURST_STATUS.EQD_PENDING true

/-- The transmitter that R190 retunes: that of the highest licensed channel. -/
def ownCh (s : State) : Nat := chans s - 1

/-- That transmitter is given channel ch (R48, R190): from TUNING, LOCKING or LOCKED its SOA goes off at once and the set
point is applied; a LOST laser waits for its 1 ms, and a DARK one stays dark. -/
def retune (s : State) (ch : Nat) : State :=
  let e := engOf s true (ownCh s)
  let l := laserOf s true e
  if l.st = 0 then s
  else if l.st = 4 then putLaser s true e { l with chan := ch }
  else tuneLaser (soaOff s e) true e ch

/-- The retuned transmitter returns to its own channel (R190). -/
def restoreTuning (s : State) : State :=
  let s1 := { s with join := { s.join with visits := [], tuned := none } }
  if s.join.tuned.isSome then retune s1 (ownCh s1) else s1

/-- R172: a warm reset. -/
def warmReset (s : State) : State :=
  let s1 := setFlag s JOIN_TID.VALID false
  let s2 := match devSlot s1 with
    | some n => applyRemove s1 n
    | none => s1
  let s3 := restoreTuning (clearRtd (setEqd s2 0))
  { s3 with join := { s3.join with plan := none } }

/-- R172: a cold reset. -/
def coldReset (s : State) : State :=
  let s1 := setFlag (setFlag (warmReset s) JOIN_STATUS.WARM false) JOIN_TREE.VALID false
  let s2 := wr (setFlag s1 JOIN_TEND_SLOTS.VALID false) JOIN_STATUS.PROFILE 0
  let s3 := forgetExt (clearVault (clearSlots s2))
  { s3 with join := { s3.join with
      answers := [], rekeys := [], h2 := none, offered := false, sealWait := false, swTarget := none } }

/-- Which windows the scheduled discovery bursts answer is forgotten (R177). (In part DEDUCED, log entry 21.) -/
def forgetWins (s : State) : State :=
  { s with burst := { s.burst with
    grants := s.burst.grants.map fun g => { g with win := none }
    bursts := s.burst.bursts.map fun b => { b with grant := { b.grant with win := none } } } }

/-- The join logic enters LISTEN. -/
def joinListen (s : State) : State :=
  let s1 := forgetWins (wr (wr s JOIN_STATUS.STATE 0) JOIN_STATUS.CW 1)
  { s1 with join := { s1.join with search := none, count := 0, wins := [], used := [], lastWin := 0, h2 := none, offered := false } }

/-- The join logic enters DISCOVER (R174, R177). -/
def joinDiscover (s : State) : State :=
  let s1 := forgetWins (wr s JOIN_STATUS.STATE 1)
  { s1 with join := { s1.join with search := none, count := 0, wins := [], used := [], lastWin := 0, h2 := none, offered := false } }

/-- A cold reset that ends in DISCOVER, with its cause. -/
def joinRestart (s : State) (exit : Nat) : State := wr (joinDiscover (coldReset s)) JOIN_STATUS.LAST_EXIT exit

/-! ### Modes (R38, R451) -/

/-- MODE and the clock domains of a mode. -/
def showMode (s : State) (m : Nat) : State :=
  (List.range 25).foldl (fun t i => wr t (CLK_DOM.STATE (i + 1)) (domState m (i + 1))) (wr s MODE_STATUS.MODE m)

/-- The mode changes under R38: Trowel event 59 and notifications of type 2; outside SERVICE no receiver dozes on (R66);
the grafts whose domains stop end (R420), and units that return are admitted or fenced (R423). -/
def setMode (s : State) (m : Nat) : State :=
  let s0 := stopGrafts (graftStops (mode s) m) s
  let s1 := if m = 4 then s0 else (List.range (chans s0)).foldl cutDoze s0
  notifyAll (pulse (admitWoken s1 (showMode s1 m)) 59) (fns s) 2 m

/-- The frame reference and every channel's EXT_VALID are cleared, on every entry to JOIN (R104). -/
def clearExt (s : State) : State :=
  let s1 := setFlag s FRM_EXT_REF_HI.REF_VALID false
  (List.range (chans s)).foldl dropExt { s1 with join := { s1.join with eref := none } }

/-- What every entry to JOIN does (R104, R159, R166, R244, R312, R570): from LOAD the lasers start and pad groups 0 and 6
are released, and from every mode the ports of every row are formed anew. -/
def joinEntry (s : State) : State :=
  let was := mode s
  let s1 := clearSlots (clearExt (setMode s 3))
  let s2 := { s1 with join := { s1.join with seq := 0, inbox := [] } }
  let s3 := setFlag (setFlag s2 TIME_STATUS.HOLDOVER false) TIME_STATUS.HOLD_FREE false
  let s4 := if was = 2 then wr s3 MODE_PAD.HOLD (rd s3 MODE_PAD.HOLD - Nat.land (rd s3 MODE_PAD.HOLD) 0x41) else s3
  let s5 := formAll (unformAll s4)
  noteStatus s (holdPorts (stopSpr (joinListen (if was = 2 then startLasers s5 else s5))))

/-- Entry to JOIN with a cold reset, and its cause (R171). -/
def enterJoinCold (s : State) (exit : Nat) : State := wr (forgetExt (joinEntry (coldReset s))) JOIN_STATUS.LAST_EXIT exit

/-- Entry to JOIN on a protection switch: a warm reset, WARM set (R171). -/
def enterJoinWarm (s : State) : State :=
  wr (setFlag (joinEntry (warmReset s)) JOIN_STATUS.WARM true) JOIN_STATUS.LAST_EXIT 10

/-- Entry to JOIN from LOAD. -/
def enterJoinFirst (s : State) : State := joinEntry (coldReset s)

/-- Entry to SERVICE (R230, R312): from JOIN on ACTIVATE, from HOLDOVER under R234. -/
def enterService (s : State) : State :=
  let s1 := wr (setFlag (setMode s 4) JOIN_STATUS.WARM false) JOIN_STATUS.STATE 7
  let s2 := wr (wr s1 TIME_STATUS.REFUSED_RUN 0) TIME_STATUS.LOST_RUN 0
  let s3 := setFlag (setFlag s2 TIME_STATUS.HOLDOVER false) TIME_STATUS.HOLD_FREE false
  noteStatus s (holdPorts { s3 with time := { s3.time with missed := 0, back := 0 } })

/-- Entry to HOLDOVER (R232, R233, R312, R456): `lof` tells tree LOF from lost or refused time messages. -/
def enterHoldover (s : State) (lof : Bool) : State :=
  let s1 := setFlag (setFlag (setMode s 5) TIME_STATUS.HOLDOVER true) TIME_STATUS.HOLD_FREE lof
  let s2 := wr (setFlag s1 TIME_STATUS.LOCKED false) TIME_HOLD.ELAPSED 0
  let s3 := holdoverCommit { s2 with time := { s2.time with back := 0, good := 0 } } lof
  let s4 := if lof then stockTo s3 (if flag s CLK_STATUS.REFCLK_OK then 0 else 2) else s3
  noteStatus s (holdPorts s4)

/-- Leaving SERVICE or HOLDOVER on a deactivation, in JOIN a return to LISTEN (R170): `exit` is the cause. -/
def leaveCold (s : State) (exit : Nat) : State :=
  if inService s then enterJoinCold s exit
  else if mode s = 3 then wr (joinListen (coldReset s)) JOIN_STATUS.LAST_EXIT exit
  else s

/-! ### Entries to LOAD, DORMANT and SENTRY (R436, R438, R439) -/

/-- The registers that show fused facts and the variant's counts (R3, R161, R247, R477). -/
def fuseRegs (s : State) : State :=
  let f := s.fuses
  let s1 := wr (wr s DEV_IDENT.VENDOR f.vendor) DEV_IDENT.VARIANT f.variant
  let s2 := wr (wr s1 JOIN_SERIAL_LO.UNIT_LO f.serial) JOIN_SERIAL_HI.UNIT_HI (f.serial / 2 ^ 32)
  let s3 := wr (wr s2 JOIN_SERIAL_HI.VENDOR (f.serial / 2 ^ 48)) SPR_CLKID_LO.V f.serial
  let s3' := wr (wr s3 SPR_GM_LO.V f.serial) SPR_GM_HI.V (f.serial / 2 ^ 32)
  let s4 := wr (wr s3' SPR_CLKID_HI.V (f.serial / 2 ^ 32)) HL_OSSP.OUI f.oui
  let s5 := wr (wr (wr s4 BOOT_FUSE.FLOOR f.floor) BOOT_FUSE.REVOKED f.revoked) BOOT_FUSE.LOADED f.loaded
  let s6 := wr (wr s5 LINE_SPARES.RX_FREE (spares s)) LINE_SPARES.TX_FREE (spares s)
  let s7 := wr (wr s6 CIPHER_STATUS.SPARES_FREE (spares s)) TROWEL_STATUS.CORES (cores s)
  let s8 := wr (wr s7 TROWEL_STATUS.SPARES_FREE (allSpares s (3 * 65536)).length) RAKE_STATUS.BANKS_FREE
    (allSpares s (4 * 65536)).length
  let s9 := if s.fuses.variant = 2 then
      (let r := (List.range (beds s)).foldl (fun t b => wr (wr t (SIEVE_BED_DN_CFG.KT b) 7) (SIEVE_BED_UP_CFG.KT b) 7) s8
       { r with sieve := { r.sieve with active := stagedRegs r } })
    else s8
  poolUpdate s9

/-- The AON registers that keep their values in every mode; MODE takes the new mode, and PENDING ends with its request. (In part DEDUCED, log entry 16.) -/
def aonFlds : List Fld :=
  [ MODE_WAKE.EN, MODE_WAKE.ADDR, MODE_SENTRY.PERIOD, MODE_SENTRY.SETTLE, MODE_SENTRY.CONSEC, MODE_SENTRY.TEMP_EN,
   MODE_SENTRY.DARK_EN, MODE_SENTRY.LIGHT_EN, MODE_SENTRY_THR.LIGHT_DBM, MODE_SENTRY_THR.TEMP, MODE_STATUS.WAKE_CAUSE,
   MODE_STATUS.REFUSED]

/-- What keeps its value outside power-on reset: the AON registers, and the MODE of every row (R570). -/
def keptFlds : List Fld := aonFlds ++ (List.range 32).map HL_ROW.MODE

/-- A laser dark, with its wear. -/
def Laser.dark (l : Laser) : Laser := { wear := l.wear, tnow := l.tnow }

/-- The block with everything but the AON domain at its reset state: what is fused, calibrated or in flash stays, and so
do the registers of `keptFlds`. -/
def aonOnly (s : State) : State :=
  let base := { State.reset with
    fuses := s.fuses
    line := { cal := s.line.cal, lasers := s.line.lasers.filterMap fun e =>
      if e.2.dark = {} then none else some (e.1, e.2.dark) }
    time := { d25 := s.time.d25 }
    lane := { delay := s.lane.delay }
    boot := { flash := s.boot.flash, ledger := s.boot.ledger }
    mgmt := { perst := s.mgmt.perst }
    freeCtr := s.freeCtr
    readData := s.readData
    out := s.out
    pending := s.pending }
  fuseRegs (keptFlds.foldl (fun t f => wr t f (rd s f)) base)

/-- Every pad group is held in its state of R444: a PPS output that is high falls. `was` is the state that the hold finds. -/
def holdPads (was s : State) : State := wr ([0, 1].foldl (fun t x => if was.time.pulse.has x then emit t (.ppsLow x) else t) s) MODE_PAD.HOLD 0xFF

/-- The main ring that a device reset keeps (R433), with a GRAFT_ABORT record of each graft whose domains it stops (R420),
and how many records that overwrote. (In part DESIGN CHOICE, log entry 15.) -/
def keptRing (s : State) : Ring × Nat :=
  (s.rake.grafts.filter fun g => g.unit.cls ≠ .table && graftStops (mode s) 2 g).foldl (fun a g =>
    let x := a.1.push 1024 (makeRec s 6 g.ev (some g.spare))
    (x.1, a.2 + b2n x.2)) (s.rake.main, 0)

/-- Entry to LOAD at a step of R438: 2 from DORMANT, 3 from SENTRY, 4 on a device reset, with its cause; the pads are
held, and a pending load is cancelled with status 6 (R337). PWR_EN and the crystal are as they stand at that step. -/
def enterLoad (s : State) (step cause : Nat) : State :=
  let s1 := wr (showMode (aonOnly s) 2) MODE_STATUS.WAKE_CAUSE cause
  let s2 := setFlag (holdPads s s1) CLK_STATUS.AON_OK (step ≠ 2)
  let s3 := { s2 with power := { step := step, pwrEn := 3 ≤ step, pwrGood := step = 4 && s.power.pwrGood
                                 resetLow := s.power.resetLow, rstPin := s.power.rstPin } }
  let s4 := if step = 3 then emit s3 (.pin "PWR_EN" true) else s3
  if step = 4 then
    let ring := keptRing s
    let r : RakeSt := { s4.rake with main := ring.1 }
    let s5 := bump (wr (wr { s4 with rake := r } RAKE_RING_STAT.COUNT ring.1.recs.length) RAKE_RING_STAT.OVERFLOW
      (rd s RAKE_RING_STAT.OVERFLOW)) RAKE_RING_STAT.OVERFLOW ring.2
    if s.cipher.loads.isEmpty && s.cipher.wait.isEmpty then s5 else wr s5 CIPHER_LOAD_CTRL.STATUS 6
  else s4

/-- A wake of R438: from DORMANT the crystal starts first. (In part DEDUCED, log entry 16.) -/
def wakeUp (s : State) (cause : Nat) : State := enterLoad s (if s.power.xtal then 3 else 2) cause

/-- A device reset (R439): every SOA goes dark, so a burst in progress is cut (R49). Where PWR_EN is low, the supplies have
to come up first, after the crystal where it is still starting. -/
def deviceReset (s : State) (cause : Nat) : State :=
  let s1 := cutBursts s
  if s.power.pwrEn then enterLoad s1 4 cause
  else if mode s = 2 then enterLoad s1 2 cause
  else wakeUp s1 cause

/-- The end of R436: DORMANT or SENTRY. A wake latched meanwhile waits for PWR_GOOD to fall (R437). -/
def enterDown (s : State) (m : Nat) : State :=
  let s1 := showMode (aonOnly s) m
  let s2 := wr (holdPads s s1) MODE_STATUS.WAKE_CAUSE 0
  let s3 := { s2 with power := { step := 0, pwrEn := false, pwrGood := s.power.pwrGood, wake := s.power.wake
                                 rstPin := s.power.rstPin } }
  emit (setFlag s3 CLK_STATUS.AON_OK true) (.pin "PWR_EN" false)

end Sys2Proof.Machine
end

