-- ==== Sys2Proof/Machine/OpsHunt.lean ====
section
/-!
DEFINITION. The Hunt's transitions, the timing receiver, tree LOF and the reading of maps: the shared operations of
chapters 02 to 05.
-/

namespace Sys2Proof.Machine

/-! ### The JOIN state LISTEN (R170) -/

/-- LISTEN with tree LOF clear: PROFILE_LOW, or DISCOVER when joining is enabled and no deactivation hold is active. -/
def listenCheck (s : State) : State :=
  if mode s = 3 ∧ rd s JOIN_STATUS.STATE = 0 ∧ flag s FRM_TREE.TREE_LOF = false then
    if rd s FRM_TREE.PROFILE < 2 then setFlag s JOIN_STATUS.PROFILE_LOW true
    else
      let s1 := setFlag s JOIN_STATUS.PROFILE_LOW false
      if flag s JOIN_CTRL.ENABLE && !flag s JOIN_STATUS.HOLD then joinDiscover s1 else s1
  else s

/-! ### The timing receiver (R70, R131) -/

/-- The channels whose Hunt is in SYNC, lowest first. -/
def syncChans (s : State) : List Nat := (List.range (chans s)).filter (inSync s)

/-- The timing receiver that R70 calls for, and FALLBACK; none while no channel is in SYNC. (In part DEDUCED, log entry 39.) -/
def wantTiming (s : State) : Option (Nat × Bool) :=
  match syncChans s with
  | [] => none
  | low :: _ =>
    let keep := if s.line.timed && inSync s (timingCh s) then timingCh s else low
    let named := rd s LINE_CLK_SRC.CHANNEL
    if flag s LINE_CLK_SRC.AUTO then some (keep, false)
    else if inSync s named then some (named, false)
    else some (keep, true)

/-- UFC_LOCK: the upstream frame clock follows a timing receiver in SYNC (R130). -/
def showUfc (s : State) : State :=
  setFlag s BURST_STATUS.UFC_LOCK (s.line.timed && s.burst.ufcOk && inSync s (timingCh s))

/-- Channel k becomes the timing receiver; the upstream frame clock does not step (R131), and the servo recomputes the
delay for the new channel (R225). (In part DEDUCED, log entry 39.) -/
def moveTiming (s : State) (k : Nat) (fb : Bool) : State :=
  let old := timingCh s
  let off := if !s.line.timed then 0
    else if k = old then s.burst.ufcOff
    else if flag s (BURST_SKEW.VALID k) then rdInt s (BURST_SKEW.SKEW k) + s.burst.ufcOff
    else 0
  let s1 := setFlag (wr (setFlag s (LRX_STATUS.CLOCK_SRC old) false) LINE_CLK_SRC.CURRENT k) (LRX_STATUS.CLOCK_SRC k) true
  let s2 := setFlag { s1 with line := { s1.line with timed := true }, burst := { s1.burst with ufcOff := off } }
    LINE_CLK_SRC.FALLBACK fb
  showUfc (showDelay (cutDoze (if rd s2 CLK_STATUS.STOCK_SRC = 1 then wr s2 CLK_STATUS.SRC_CH k else s2) k))

/-- The terminal first needs a timing receiver (R70). -/
def firstTiming (s : State) : State :=
  if s.line.timed then s
  else
    match wantTiming s with
    | some w => moveTiming s w.1 w.2
    | none => s

/-! ### Tree LOF (R96) -/

/-- Tree LOF while the mode is JOIN (R170). -/
def joinLof (s : State) : State :=
  let st := rd s JOIN_STATUS.STATE
  if mode s = 3 ∧ st ≠ 0 ∧ st ≠ 7 then
    wr (joinListen (if flag s JOIN_STATUS.WARM then warmReset s else coldReset s)) JOIN_STATUS.LAST_EXIT 9
  else s

/-- TREE_LOF made to agree with the Hunts: Trowel event 60, STOCK held (R456), the mode (R38) and the JOIN state. (In part DEDUCED, log entry 16.) -/
def checkTree (s : State) : State :=
  let lof := (syncChans s).isEmpty
  if lof = flag s FRM_TREE.TREE_LOF then showUfc s
  else
    let s1 := showUfc (pulse (setFlag s FRM_TREE.TREE_LOF lof) 60)
    if lof then
      let s2 := stockTo s1 2
      if s.power.down.isSome then s2
      else if mode s = 4 then enterHoldover s2 true else joinLof s2
    else listenCheck s1

/-! ### EXT (R100 to R103, R567) -/

/-- A counter regression on channel k: FC_REGRESS, and the cipher block is told (R337). -/
def regress (s : State) (k : Nat) : State := sealChannel (setFlag s (FRM_STATUS.FC_REGRESS k) true) k

/-- EXT on entering SYNC or accepting a jump, from the prediction P48 (R102). (In part DEDUCED, log entry 39.) -/
def jumpExt (s : State) (k fc p48 : Nat) : State :=
  let d := signed32 fc (p48 % 2 ^ 32)
  let s1 := putHunt s k { huntOf s k with ext := (((p48 : Int) + d) % (2 ^ 48 : Nat)).toNat }
  let s2 := if d ≠ 0 then setFlag s1 (FRM_STATUS.FC_JUMP k) true else s1
  if d < 0 then regress s2 k else s2

/-- EXT advances by one frame (R100, R103). -/
def stepExt (s : State) (k : Nat) : State :=
  let h := huntOf s k
  if flag s (FRM_STATUS.EXT_VALID k) then
    let s1 := putHunt s k { h with ext := (h.ext + 1) % 2 ^ 48 }
    if h.ext = 2 ^ 48 - 1 then sealChannel (setFlag s1 (FRM_STATUS.EXT_WRAP k) true) k else s1
  else putHunt s k { h with ext := (h.ext + 1) % 2 ^ 32 }

/-- The frame reference gives channel k its EXT (R101), compared with the one it retained (R567). -/
def giveExt (s : State) (eref k : Nat) : State :=
  let h := huntOf s k
  let new := (((eref : Int) + signed32 h.fc (eref % 2 ^ 32)) % (2 ^ 48 : Nat)).toNat
  let old := if flag s (FRM_STATUS.EXT_VALID k) then some h.ext else h.kept
  let s1 := setFlag (putHunt s k { h with ext := new, eLast := new }) (FRM_STATUS.EXT_VALID k) true
  match old with
  | some o => if signed48 new o < 0 then regress s1 k else s1
  | none => s1

/-- R101: E_ref is loaded and applied to every channel in SYNC. -/
def loadRef (s : State) (eref : Nat) : State :=
  let s1 := wr (wr s FRM_EXT_REF_LO.REF_LO eref) FRM_EXT_REF_HI.REF_HI (eref / 2 ^ 32)
  let s2 := setFlag (setFlag s1 FRM_EXT_REF_HI.REF_VALID true) FRM_EXT_REF_HI.LOAD false
  (syncChans s).foldl (fun t k => giveExt t eref k) { s2 with join := { s2.join with eref := some eref } }

/-! ### Transitions -/

/-- The Hunt's state; a channel that leaves SYNC loses its grants (R98) and wakes its receiver (R66). -/
def setHunt (s : State) (k st : Nat) : State :=
  let s1 := wr s (FRM_STATUS.STATE k) st
  if inSync s k && st ≠ 2 then discardGrants (putRx s1 k { rxOf s1 k with doze := 0 }) k else s1

/-- The last row of R94: ENABLE := 0, a receiver laser that leaves LOCKED, or a protection switch. (In part DEDUCED, log entry 39.) -/
def resetHunt (s : State) (k : Nat) : State :=
  let s1 := setHunt (dropExt s k) k 0
  let h := huntOf s1 k
  let r := rxOf s1 k
  let s2 := putRx (putHunt s1 k { kept := h.kept }) k { r with back := false, doze := 0, run := 0, inbox := [] }
  setFlag s2 (LRX_STATUS.DOZING k) false

/-- One channel's Hunt is reset, and tree LOF follows. -/
def loseChannel (s : State) (k : Nat) : State := checkTree (resetHunt s k)

/-! ### Headers and maps (R89 to R91, R105 to R111) -/

/-- The 128 header bits of a segment's first 16 payload bytes. -/
def hdrOf (g : DecSeg) : Nat := beAt g.payload 0 16
def hdrFc (h : Nat) : Nat := bits h 80 32
def hdrSf (h : Nat) : Nat := bits h 63 7

/-- R91: the segment begins with a valid header of channel k. -/
def hdrValid (k : Nat) (g : DecSeg) : Bool :=
  let h := hdrOf g
  !g.dead && !g.bad.contains 0 && bits h 112 16 = 0x5A1D && crc16 (slice g.payload 0 14) = bits h 0 16
    && bits h 74 6 = k && hdrSf h ≤ 124

/-- R111: the map of a frame whose header was good is errored all the same. -/
def mapBad (g : DecSeg) : Bool :=
  g.dead || g.bad.any (fun c => c < 3) || crc32c (slice g.payload 16 1820) ≠ beAt g.payload 1836 4
    || 211 < bits (hdrOf g) 54 8

/-- R106: the segments of the next frame that hold something for this terminal. -/
def occupancy (s : State) (g : DecSeg) : Nat :=
  (List.range 33).foldl (fun a i =>
    let e := beAt g.payload (16 + 4 * i) 4
    if i = 0 ∨ (flag s JOIN_TID.VALID ∧ bits e 20 12 = rd s JOIN_TID.TID) then Nat.lor a (bits e 0 16) else a) 0

/-! ### Grants (R134 to R136, R173, R174, R186, R568) -/

/-- One frame, in units of 2^-16/115 ns. -/
def frameUnits : Int := 8000 * 65536 * 115

/-- T_N of frame count n on the upstream frame clock (R130). (In part DESIGN CHOICE, log entry 45.) -/
def ufcTime (s : State) (n : Nat) : Int := s.burst.ufcT + signed32 n s.burst.ufcFc * frameUnits

/-- The grants scheduled and not yet ended. -/
def scheduled (s : State) : List Grant :=
  s.burst.grants ++ s.burst.bursts.map (·.grant) ++ s.burst.air.map (·.grant)

/-- The discovery window that a KIND 1 entry in frame `fc` of channel `k` opens to this terminal (R174). While the burst of
another window is scheduled, its result cannot have come. (In part DEDUCED, log entry 21.) -/
def openWindow (s : State) (k fc : Nat) : Option Win :=
  if mode s = 3 ∧ rd s JOIN_STATUS.STATE = 1 ∧ s.join.used = [] ∧ (scheduled s).all (·.win.isNone) then
    s.join.wins.find? fun w => w.channel = k && w.winFc = fc && some w.search == s.join.search
  else none

/-- The mode test of R176. -/
def prefixFits (s : State) (w : Win) : Bool :=
  w.prefixLen ≤ 64 && s.fuses.serial / 2 ^ (64 - w.prefixLen) = w.pfx / 2 ^ (64 - w.prefixLen)

/-- Ranging grants go to DEV_ALLOC; they are served in RANGING, DC_RANGING, SERVICE and HOLDOVER (R186), KIND 3 under
profile 3 (R183). -/
def rangingOk (s : State) (kind alloc : Nat) : Bool :=
  flag s JOIN_TID.VALID && rd s JOIN_TID.DEV_ALLOC = alloc && (kind = 2 || rd s JOIN_STATUS.PROFILE = 3)
    && (inService s || (mode s = 3 && (rd s JOIN_STATUS.STATE = 3 || rd s JOIN_STATUS.STATE = 4)))

/-- R135: the mode lets a data grant to slot n be served. -/
def dataOk (s : State) (n : Nat) : Bool :=
  flag s BURST_CTRL.ENABLE && (inService s || (mode s = 3 && rd s (ALLOC_LO.OWNER n) = 8))

/-- The ranging channel that R568 names for a KIND 3 entry in frame fc of channel k: the channel itself where it is
licensed and no retune serves the map. -/
def dcChannel (s : State) (k fc : Nat) : Option Nat :=
  if s.fuses.variant ≠ 0 ∧ k = ownCh s then
    match s.join.plan with
    | none => none
    | some (_, f31, f63) => if f63 = fc then some 63 else if f31 = fc then some 31 else none
  else some k

/-- The mode and, for a data grant, the slot still allow the grant (check 4 of R136). (In part DEDUCED, log entry 19.) -/
def grantAllowed (s : State) (g : Grant) : Bool :=
  match g.kind with
  | 0 => match slotOf s g.alloc with
    | some n => dataOk s n
    | none => false
  | 1 => mode s = 3 && rd s JOIN_STATUS.STATE = 1
  | _ => rangingOk s g.kind g.alloc

/-- The transmitter that serves channel ch for this grant: the retuned one stands in for a channel that the variant does
not license (R190). -/
def grantTx (s : State) (g : Grant) : Bool :=
  if g.ch < chans s then txReady s g.ch
  else
    let o := ownCh s
    let l := laserOf s true (engOf s true o)
    g.kind = 3 && flag s (LTX_CTRL.ENABLE o) && l.st = 3 && l.chan = g.ch && !engFenced s true (engOf s true o)

/-- A grant names the device's allocation ID. -/
def Grant.toDev (s : State) (g : Grant) : Bool := g.kind ≠ 1 && flag s JOIN_TID.VALID && g.alloc = rd s JOIN_TID.DEV_ALLOC

/-- Check 4 of R136. -/
def check4 (s : State) (g : Grant) : Bool := grantTx s g && grantAllowed s g

/-- A grant to DEV_ALLOC is scheduled, assembled or in progress. -/
def grantToDev (s : State) : Bool := (scheduled s).any (Grant.toDev s)

/-- A map entry grants to the allocation ID `alloc`: where that is DEV_ALLOC, what waits for a grant to it goes with its
burst, whether or not this one is served (R201, R206). -/
def noteDevGrant (s : State) (alloc : Nat) : State :=
  if flag s JOIN_TID.VALID && alloc = rd s JOIN_TID.DEV_ALLOC then { s with join := { s.join with swGrant := true }, power := { s.power with gaspGrant := true } } else s

/-- R136: a grant to this terminal is scheduled, or counted as not served. `raw` is the entry's own LEN. (In part DEDUCED, log entry 19.) -/
def decideGrant (s : State) (g : Grant) (raw : Nat) : State :=
  let least := if g.kind ≠ 0 || g.long then 60 else 48
  if 14375 ≤ g.start ∨ 14375 < g.start + raw ∨ raw < least then bump s (BURST_SKIP.BAD g.cnt) 1
  else if (g.t0 : Int) - 115 * (now s : Int) < 6000 * 65536 * 115 then bump s (BURST_SKIP.LATE g.cnt) 1
  else if (scheduled s).any (overlaps g) then bump s (BURST_SKIPX.CONFLICT g.cnt) 1
  else if !check4 s g then bump s (BURST_SKIPX.NOTX g.cnt) 1
  else { s with burst := { s.burst with grants := s.burst.grants ++ [g] } }

/-- The grant of an entry, its burst's time under R132. -/
def mkGrant (s : State) (kind ch k alloc fc eqd start len : Nat) (long req : Bool) (win : Option (Nat × Nat)) : Grant :=
  let t := ufcTime s fc + (1840000 + eqd + 64 * start : Nat) * 65536
  { kind := kind, ch := ch, dn := k, cnt := if ch < chans s then ch else ownCh s, alloc := alloc, fc := fc,
    long := long, req := req, start := start, len := len, eqd := eqd, t0 := t.toNat, win := win }

/-- The first KIND 1 entry of a window that passes R174: the mode test, the count of R175, and the grant. -/
def openGrant (s : State) (k fc alloc start raw : Nat) (w : Win) : State :=
  let s1 := { s with join := { s.join with wins := s.join.wins.filter fun x => x ≠ w } }
  let g := mkGrant s1 1 k k alloc fc w.eqd start 60 true false (some (w.mode, w.window))
  if w.mode = 1 then
    if prefixFits s w then decideGrant s1 g raw else s1
  else if s.join.count = 0 then decideGrant s1 g raw
  else { s1 with join := { s1.join with count := s.join.count - 1 } }

/-- The equalization delay of an upstream frame whose T_N is `base`: a value is in force for the frames whose grain 0, under
that value, comes at or after its write, and for the frames before them the value before it is (R133). (In part DEDUCED, log entry 21.) -/
def eqdAmong (base : Int) (v : Nat) (l : List (Int × Nat)) : Nat :=
  match l with
  | [] => v
  | (w, old) :: r => if base + (1840000 + v : Nat) * 65536 < w then eqdAmong base old r else v

/-- The equalization delay of the upstream frame of frame count fc. -/
def eqdFor (s : State) (fc : Nat) : Nat := eqdAmong (ufcTime s fc) (rd s BURST_EQD.EQD) s.burst.eqds

/-- One map entry of frame fc, read on channel k. -/
def decideEntry (k fc : Nat) (s0 : State) (e : Nat) : State :=
  let alloc := bits e 48 16
  let kind := bits e 44 4
  let s := if kind = 0 ∨ kind = 2 ∨ kind = 3 then noteDevGrant s0 alloc else s0
  let start := bits e 26 14
  let raw := bits e 12 14
  let eqd := eqdFor s fc
  match kind with
  | 0 =>
    match (slotOf s alloc).filter fun n => !s.burst.removing.contains n with
    | some _ => decideGrant s (mkGrant s 0 k k alloc fc eqd start raw (bitAt e 42) (bitAt e 43) none) raw
    | none => s
  | 1 =>
    match openWindow s k fc with
    | some w => openGrant s k fc alloc start raw w
    | none => s
  | 2 => if rangingOk s 2 alloc then decideGrant s (mkGrant s 2 k k alloc fc eqd start 60 true (bitAt e 43) none) raw else s
  | 3 =>
    if rangingOk s 3 alloc then
      match dcChannel s k fc with
      | some u => decideGrant s (mkGrant s 3 u k alloc fc eqd start 60 true (bitAt e 43) none) raw
      | none => s
    else s
  | _ => s

/-- The entries of a map in list order (R109, R136). -/
def readMap (s : State) (k fc : Nat) (g : DecSeg) : State :=
  (List.range (bits (hdrOf g) 54 8)).foldl (fun t i => decideEntry k fc t (beAt g.payload (148 + 8 * i) 8)) s

/-! ### What a frame read in SYNC does -/

/-- The frame-start record of the timing receiver (R93, R227) and the upstream frame clock (R130, R131). -/
def recordStart (s : State) (k : Nat) : State :=
  let h := huntOf s k
  let x : FsRec := { fc := h.fc, ts := tsOf h.uStart, frac := fracOf h.uStart, ext := h.ext }
  let t := (115 * h.uStart : Int) - s.burst.ufcOff * 65536
  showUfc { s with
    time := { s.time with ring := s.time.ring.insert (h.ext % 128) x }
    burst := { s.burst with ufcFc := h.fc, ufcT := t, ufcOk := true } }

/-- The skew of another channel in SYNC against the timing receiver (R131). (In part DEDUCED, log entry 19; DESIGN CHOICE, log entry 45.) -/
def recordSkew (s : State) (k : Nat) : State :=
  if s.burst.ufcOk && inSync s (timingCh s) then
    let h := huntOf s k
    let own := ufcTime s h.fc + s.burst.ufcOff * 65536
    let sym := roundHalfEven ((115 * h.uStart : Int) - own) 65536
    setFlag (wrInt s (BURST_SKEW.SKEW k) (sat16 sym)) (BURST_SKEW.VALID k) true
  else s

/-- R456: the timing receiver has regained SYNC; STOCK returns to the recovered clock, and the rate in force before the
holdover commit is committed. -/
def stockBack (s : State) : State :=
  if rd s CLK_STATUS.STOCK_SRC = 1 then s
  else
    let s1 := wr (stockTo s 1) CLK_STATUS.SRC_CH (timingCh s)
    match s.time.resume with
    | some r => commitRate { s1 with time := { s1.time with resume := none } } r
    | none => s1

/-- TRIB_PAGE of a valid header of the timing receiver that carries SF_INDEX 0, in the frame that began at C = `c` (R125). -/
def tribPage (s : State) (c page : Nat) : State :=
  let kept (m : Option Nat) : State := { s with trellis := { s.trellis with miss := m } }
  if page = rd s TRELLIS_STATUS.ACTIVE then kept none
  else if flag s TRELLIS_CTRL.READY then setFlag (wr (kept none) TRELLIS_STATUS.ACTIVE page) TRELLIS_CTRL.READY false
  else setFlag (kept (some c)) TRELLIS_STATUS.PAGE_MISS true

/-- Does the frame that began at C = `c` lie in the 125 frames of a superframe of page miss (R124, R125)? -/
def pageMissed (s : State) (c : Nat) : Bool :=
  s.trellis.miss.any fun m => decide (((c + 2 ^ 64 - m) % 2 ^ 64 + 5000) / 10000 < 125)

/-- A valid header that the timing receiver reads, in whatever state its Hunt is, in the frame that began at C = `c` (R125, R126). -/
def headerPage (s : State) (k h c : Nat) : State :=
  if s.line.timed && k = timingCh s && hdrSf h = 0 then tribPage s c (bits h 62 1) else s

/-- The Trellis at the start of a frame of the timing receiver (R122, R125, R126): `hdr` is its valid header, if it has one. (In part DEDUCED, log entry 39.) -/
def trellisFrame (s : State) (k : Nat) (hdr : Option Nat) : State :=
  let h := huntOf s k
  let s1 := match hdr with
    | some v => headerPage s k v h.cLast
    | none => s
  let f : TrellisFrame := { fc := h.fc, ext := h.ext, page := rd s1 TRELLIS_STATUS.ACTIVE, miss := pageMissed s1 h.cLast }
  { s1 with trellis := { s1.trellis with prev := s1.trellis.cur, cur := some f } }

/-- The start of a superframe on channel k: FEC_ALARM of the one that ended; on the timing channel the count of R169. -/
def superframe (s : State) (k : Nat) : State :=
  if (huntOf s k).sf = 0 then
    let r := rxOf s k
    let s1 := setFlag (putRx s k { r with unc := false }) (LRX_STATUS.FEC_ALARM k) r.unc
    if k = timingCh s then { s1 with join := { s1.join with directed := 0 } } else s1
  else s

/-- PROFILE and TREE_ID of the timing receiver's valid header (R92), the exit from LISTEN, and a changed TREE_ID (R171). -/
def treeHeader (s : State) (k h : Nat) : State :=
  if s.line.timed && k = timingCh s then
    let s1 := listenCheck (wr (wr s FRM_TREE.PROFILE (bits h 70 4)) FRM_TREE.TREE_ID (bits h 38 16))
    if rd s1 JOIN_STATUS.STATE = 7 ∧ inService s1 ∧ flag s1 JOIN_TREE.VALID ∧ rd s1 JOIN_TREE.TREE_ID ≠ bits h 38 16 then
      enterJoinCold s1 11
    else s1
  else s

/-- The pod area of a segment waits to be delineated (R88, R112). -/
def pushArea (s : State) (k : Nat) (g : DecSeg) (off : Nat) : State :=
  if g.dead then s
  else
    let h := huntOf s k
    let a : PodArea := { ext := h.ext, extOk := flag s (FRM_STATUS.EXT_VALID k), fc := h.fc, bad := g.bad,
                         payload := padTo 50115 g.payload, off := off }
    putHunt s k { h with areas := h.areas ++ [a] }

/-- The place, from segment 0 of the Hunt's present frame on, of the segment that follows those received. -/
def airSeg (s : State) (k : Nat) : Nat :=
  (rxOf s k).inbox.foldl (fun a g => a + 1 + g.skip) (if (huntOf s k).seg = 0 then 16 else (huntOf s k).seg)

/-- The frame count of the frame that the segment in the air belongs to. -/
def airFrame (s : State) (k : Nat) : Nat := ((huntOf s k).fc + airSeg s k / 16) % 2 ^ 32

/-- An errored map of frame `fc` keeps every receiver awake through the frame after it (R66, R111): one that dozes there
wakes. -/
def wakeAll (s : State) (fc : Nat) : State :=
  let next := (fc + 1) % 2 ^ 32
  let s1 := { s with line := { s.line with wake := (next :: s.line.wake.erase next).take 4 } }
  (List.range (chans s)).foldl (fun t k => if airFrame t k = next then cutDoze t k else t) s1

/-- A frame of channel k read in SYNC: its records, its map (`good` tells that the header was as expected) and its first
pod area. `was` tells that the channel was in SYNC before. (In part DEDUCED, log entry 39.) -/
def readFrame (s : State) (k : Nat) (g : DecSeg) (good was : Bool) : State :=
  let h0 := huntOf s k
  let u := (((g.u : Int) - (s.time.cal.get k 0 : Nat)) % (timeWrap : Nat)).toNat
  let live (fc : Nat) : Bool := h0.areas.any fun a => a.fc = fc
  let h := { h0 with seg := 1, uStart := u, eLast := h0.ext, cLast := g.c, sync1 := some h0.fc, sync2 := h0.sync1
                     seen := h0.seen.filter (fun x => live x.1), groups := h0.groups.filter fun x => live x.1 }
  let s1 := wr (putHunt s k h) (FRM_STATUS.SF_INDEX k) h.sf
  let timing := s1.line.timed && k = timingCh s1
  let hdr := if hdrValid k g then some (hdrOf g) else none
  let s2 := superframe (if timing then trellisFrame (recordStart (if was then stockBack s1 else s1) k) k hdr
    else recordSkew s1 k) k
  let s3 := match hdr with
    | some v => treeHeader s2 k v
    | none => s2
  let s4 := if good && !mapBad g then
      let occ := occupancy s3 g
      let r := rxOf s3 k
      readMap (putRx s3 k { r with doze := r.doze / 65536 + (0xFFFE - Nat.land 0xFFFE occ) * 65536 }) k h.fc g
    else
      let r := rxOf s3 k
      wakeAll (bump (putRx s3 k { r with doze := r.doze / 65536 }) (FRM_MAP.ERRORED k) 1) h.fc
  pushArea s4 k g 1840

/-! ### The state table of R94 -/

/-- A segment examined as in HUNT or LOSS. -/
def examine (s : State) (k : Nat) (g : DecSeg) (loss : Bool) : State :=
  if hdrValid k g then
    let v := hdrOf g
    let h := { huntOf s k with pred := (hdrFc v + 1) % 2 ^ 32, conf := 0, fromLoss := loss, sf := hdrSf v, fc := hdrFc v, seg := 1 }
    treeHeader (headerPage (wr (setHunt (putHunt s k h) k 1) (FRM_STATUS.SF_INDEX k) h.sf) k v g.c) k v
  else setHunt (putHunt s k { huntOf s k with seg := 0 }) k (if loss then 3 else 0)

/-- The channel enters SYNC on the frame of segment g: the extension rule (R101, R102, R571), tree LOF, and the frame. -/
def enterSync (s : State) (k : Nat) (g : DecSeg) : State :=
  let fc := hdrFc (hdrOf g)
  let h := huntOf s k
  let s1 := setHunt (putHunt s k { h with fc := fc, lof := false, miss := 0, jump := none, sync1 := none, sync2 := none }) k 2
  let n := ((g.c + 2 ^ 64 - h.cLast) % 2 ^ 64 + 5000) / 10000
  let s2 := if flag s (FRM_STATUS.EXT_VALID k) then jumpExt s1 k fc ((h.eLast + n) % 2 ^ 48)
    else
      match s.join.eref with
      | some e => giveExt s1 e k
      | none => putHunt s1 k { huntOf s1 k with ext := fc }
  readFrame (checkTree (treeHeader (firstTiming s2) k (hdrOf g))) k g true false

/-- A segment at the place of the next frame's segment 0, in PRESYNC. (In part DEDUCED, log entry 19.) -/
def presyncFrame (s : State) (k : Nat) (g : DecSeg) : State :=
  let h := huntOf s k
  let v := hdrOf g
  if hdrValid k g && hdrFc v = h.pred && hdrSf v = (h.sf + 1) % 125 then
    let h1 := { h with pred := (hdrFc v + 1) % 2 ^ 32, sf := hdrSf v, fc := hdrFc v, conf := h.conf + 1, seg := 1 }
    let s1 := wr (putHunt s k h1) (FRM_STATUS.SF_INDEX k) h1.sf
    if 2 ≤ h1.conf then enterSync s1 k g else treeHeader (headerPage s1 k v g.c) k v
  else examine s k g h.fromLoss

/-- A segment at the place of the next frame's segment 0, in SYNC. (In part DEDUCED, log entry 39.) -/
def syncFrame (s : State) (k : Nat) (g : DecSeg) : State :=
  let h := huntOf s k
  let v := hdrOf g
  let ok := hdrValid k g
  if ok && hdrFc v = h.pred && hdrSf v = (h.sf + 1) % 125 then
    let s1 := stepExt s k
    readFrame (putHunt s1 k { huntOf s1 k with
      miss := 0, jump := none, pred := (hdrFc v + 1) % 2 ^ 32, sf := hdrSf v, fc := hdrFc v }) k g true true
  else if ok && hdrFc v ≠ h.pred && h.jump.any (fun f => hdrFc v = (f + 1) % 2 ^ 32) then
    let s1 := if flag s (FRM_STATUS.EXT_VALID k) then jumpExt s k (hdrFc v) ((h.ext + 1) % 2 ^ 48)
      else putHunt s k { h with ext := hdrFc v }
    readFrame (putHunt s1 k { huntOf s1 k with
      miss := 0, jump := none, pred := (hdrFc v + 1) % 2 ^ 32, sf := hdrSf v, fc := hdrFc v }) k g true true
  else
    let s1 := stepExt (bump s (if ok then FRM_HDR.MISMATCH k else FRM_HDR.MISSED k) 1) k
    let s2 := readFrame (putHunt s1 k { huntOf s1 k with
      miss := h.miss + 1, jump := if ok && hdrFc v ≠ h.pred then some (hdrFc v) else none
      pred := (h.pred + 1) % 2 ^ 32, sf := (h.sf + 1) % 125, fc := h.pred }) k g false true
    if 4 ≤ h.miss + 1 then
      let s3 := setHunt (putHunt s2 k { huntOf s2 k with lof := true, seg := 0 }) k 3
      checkTree (setFlag s3 (FRM_STATUS.LOF_EVENT k) true)
    else s2

/-- One decoded segment steps the Hunt of channel k (R94). -/
def huntStep (s : State) (k : Nat) (g : DecSeg) : State :=
  let st := rd s (FRM_STATUS.STATE k)
  let h := huntOf s k
  if st = 0 then examine s k g false
  else if st = 3 then examine s k g true
  else
    let i := (h.seg + g.skip) % 16
    if i = 0 then (if st = 1 then presyncFrame s k g else syncFrame s k g)
    else
      let s1 := putHunt s k { h with seg := (i + 1) % 16 }
      if st = 2 then pushArea s1 k g 0 else s1

/-! ### Lasers and segments (R48, R63 to R68) -/

/-- The Hunts of channels whose receiver is no longer LOCKED are reset (R94, R428), and tree LOF follows. (In part DESIGN CHOICE, log entry 15.) -/
def sweepHunts (s : State) : State :=
  let gone (t : State) (k : Nat) : Bool := (laserOf t false (engOf t false k)).st ≠ 3 && rd t (FRM_STATUS.STATE k) ≠ 0
  if (List.range (chans s)).any (gone s) then
    checkTree ((List.range (chans s)).foldl (fun t k => if gone t k then resetHunt t k else t) s)
  else s

/-- A laser leaves its state for good reasons of its own: the transmitter's SOA goes off first (R49), a receiver's Hunt is
reset (R94). -/
def retireLaser (s : State) (tx : Bool) (e : Nat) (f : State → State) : State :=
  if tx then f (soaOff s e) else sweepHunts (f s)

/-- One paced measurement of a laser (R48): FREQ_ERR shows the error of the engine that serves the channel (R566), and the
calibration entries of the paths that it serves follow its temperature (R220). -/
def laserMeasure (s : State) (m : LaserMeas) : State :=
  let l0 := laserOf s m.tx m.e
  let x := sat16 (m.temp - 6400)
  let s0 := match servedCh s m.tx m.e with
    | some k => if m.tx then
        (List.range (64 - chans s)).foldl (fun t i => if txPath s (chans s + i) = some k then recalMaybe t (64 + chans s + i) x else t)
          (recalMaybe (wrInt s (LTX_STATUS.FREQ_ERR k) (freqErr (m.err * 1024))) (64 + k) x)
        else recalMaybe s k x
    | none => s
  let l := { l0 with tnow := m.temp }
  if l.st = 2 then
    let good := if m.err.natAbs ≤ 1500 then l.good + 1 else 0
    putLaser s0 m.tx m.e { l with good := good, st := if 8 ≤ good then 3 else 2 }
  else if l.st = 3 then
    if 3000 < m.err.natAbs then
      lockFault (retireLaser s0 m.tx m.e fun t => putLaser t m.tx m.e { l with st := 4, good := 0 }) m.tx m.e
    else if 128 ≤ (m.temp - l.temp).natAbs then
      putLaser s0 m.tx m.e { l with temp := m.temp, code := heaterCode (calOf s m.tx m.e l.chan) m.temp }
    else putLaser s0 m.tx m.e l
  else putLaser s0 m.tx m.e l

/-- The run of dozed segments that begins at place p of a 32-bit mask: it ends at the latest before a segment 0. -/
def dozeRun (mask : Nat) (p n : Nat) : Nat :=
  match n with
  | 0 => 0
  | m + 1 => if p % 16 ≠ 0 && bitAt mask p then 1 + dozeRun mask (p + 1) m else 0

/-- The receiver switches its DSP off where R66 lets it. (In part DEDUCED, log entry 18.) -/
def dozeCheck (s : State) (k : Nat) : State :=
  let r := rxOf s k
  let n := dozeRun r.doze (airSeg s k) 16
  if mode s = 4 ∧ flag s (LRX_CTRL.DOZE_EN k) ∧ k ≠ timingCh s ∧ inSync s k ∧ r.stay = false ∧
      s.line.wake.contains (airFrame s k) = false ∧ 0 < n then
    setFlag (putRx s k { r with run := n, since := s.time.c }) (LRX_STATUS.DOZING k) true
  else s

/-- The receiver of channel k sees segments: it is enabled, LOCKED on its channel and awake, and the switch has settled. (In part DEDUCED, log entry 18.) -/
def rxAwake (s : State) (k : Nat) : Bool :=
  lineUp s && k < chans s && flag s (LRX_CTRL.ENABLE k) && (laserOf s false (engOf s false k)).st = 3 && !rxGone s k
    && !flag s LINE_STATUS.SWITCHING && !flag s (LRX_STATUS.DOZING k)

/-- What a receiver makes of one segment. -/
structure Acquired where
  rx : Rx                  -- its record after it
  det : Bool               -- the Dibber detected the preamble
  dead : Bool              -- its FEC blocks are discarded
  dec : Decoded            -- what the decoders made of the others

/-- A receiver acquires and decodes one segment (R54, R59, R63, R65): without a detection it keeps gain, AFC value and
alignment, and discards the segment when it is the first after doze. (In part DEDUCED, log entry 18; DESIGN CHOICE, log entry 40.) -/
def acquireSeg (thresh : Nat) (r : Rx) (g : DspSeg) : Acquired :=
  let det := dibber thresh g.samples
  let hit := det.isSome
  let dead := !hit && r.back
  let align := det.getD r.align
  { rx := { r with
      gain := if hit then g.gain else r.gain
      afc := if hit then r.afc + roundHalfEven (g.est - r.afc) 4 else r.afc
      align := align
      taps := g.taps
      tail := segmentTail align g.samples
      back := false
      stay := !hit && (r.stay || r.back) }
    det := hit
    dead := dead
    dec := if dead then { payload := [], bad := [], corrected := 0 } else decodeSegment align g.samples }

/-- The decoded segment that an acquisition hands to a Hunt. -/
def Acquired.seg (a : Acquired) (s : State) (phase skip : Nat) : DecSeg :=
  { c := s.time.c, u := nowAt s (phase % 65536 * 8 / 65536), dead := a.dead, skip := skip, bad := a.dec.bad
    payload := packBytes 50115 a.dec.payload }

/-- One segment at the receiver of channel k (R63, R65). (In part DEDUCED, log entry 18; DESIGN CHOICE, log entry 40.) -/
def acquire (s : State) (k : Nat) (g : DspSeg) : State :=
  if rxAwake s k then
    let r := rxOf s k
    let a := acquireSeg (rd s LINE_DIBBER.THRESH) r g
    let r1 := { a.rx with run := 0, unc := r.unc || !a.dec.bad.isEmpty, inbox := r.inbox ++ [a.seg s g.phase r.run] }
    let s1 := setFlag (putRx s k r1) (LRX_STATUS.PREAMBLE_OK k) a.det
    let s2 := if a.det then wrInt s1 (LRX_STATUS.FREQ_ERR k) (freqErr a.rx.afc)
      else if a.dead then raise (bump s1 (LRX_MISS.MISS_DOZE k) 1) { kind := 2, scope := .row (k / 2), arg := k, loc := engOf s false k }
      else bump s1 (LRX_MISS.MISS_AWAKE k) 1
    let s3 := if a.dead then s2 else bump (bump s2 (LRX_CORR.COUNT k) a.dec.corrected) (LRX_UNCORR.COUNT k) a.dec.bad.length
    dozeCheck s3 k
  else s

/-- A spare receiver whose laser is LOCKED acquires the segment beside the engine that it is to replace (R83). -/
def acquirePar (s : State) (k : Nat) (g : DspSeg) : State :=
  match s.line.rxGraft.find k with
  | none => s
  | some e =>
    if lineUp s && (laserOf s false e).st = 3 && !rxGone s k && !flag s LINE_STATUS.SWITCHING then
      let p := s.line.rxPar.get k {}
      let a := acquireSeg (rd s LINE_DIBBER.THRESH) p.rx g
      let x : ParRx := { rx := a.rx, read := p.read || hdrValid k (a.seg s g.phase 0) }
      { s with line := { s.line with rxPar := s.line.rxPar.insert k x } }
    else s

/-! ### The protection tree (R78 to R82) -/

/-- The kind-4 condition: LOS on the connector in use (R408). -/
def losCondition (s : State) : State :=
  [0, 1].foldl (fun t c =>
    let want : Bool := rd t LINE_STATUS.CONN = c && flag t (if c = 0 then LINE_STATUS.LOS_A else LINE_STATUS.LOS_B)
    let e : FaultEv := { kind := 4, scope := .dev, arg := c }
    if want && !bitAt t.line.losRaised c then raise { t with line := { t.line with losRaised := t.line.losRaised + 2 ^ c } } e
    else if !want && bitAt t.line.losRaised c then
      endLevel { t with line := { t.line with losRaised := t.line.losRaised - 2 ^ c } } e
    else t) s

/-- FORCE, 3 treated as 0. -/
def forceOf (s : State) : Nat := if rd s LINE_CTRL.FORCE = 3 then 0 else rd s LINE_CTRL.FORCE

/-- LOS on connector c. -/
def losOn (s : State) (c : Nat) : Bool := flag s (if c = 0 then LINE_STATUS.LOS_A else LINE_STATUS.LOS_B)

/-- Every SOA goes off and the optical switch moves to connector c (R79, R80, R82): the Hunts are reset, SERVICE and
HOLDOVER become JOIN (R38, R171), and the calibration entries are recomputed (R220). -/
def switchTo (s : State) (c : Nat) : State :=
  let s1 := cutBursts s
  let s2 := setFlag (bump (wr s1 LINE_STATUS.CONN c) LINE_STATUS.SWITCH_COUNT 1) LINE_STATUS.SWITCHING true
  let s3 := { s2 with line := { s2.line with lastSwitch := some s.time.c, switchCmd := none }
                      join := { s2.join with swTarget := none } }
  let s4 := (List.range (chans s)).foldl resetHunt s3
  losCondition (recalAll (checkTree (if inService s4 then enterJoinWarm s4 else s4)))

end Sys2Proof.Machine
end

