-- ==== Sys2Proof/Machine/OpsTend.lean ====
section
/-!
DEFINITION. Tending pods as they arrive: the message list, its checks, and the repeats (R163 to R169).
-/

namespace Sys2Proof.Machine

/-- The body length of a message type (R168). -/
def bodyLen (ty : Nat) : Option Nat :=
  match ty with
  | 0x01 => some 24
  | 0x02 => some 16
  | 0x03 => some 24
  | 0x04 => some 16
  | 0x05 => some 16
  | 0x06 => some 16
  | 0x07 => some 8
  | 0x08 => some 201
  | 0x09 => some 48
  | 0x0A => some 48
  | 0x0B => some 8
  | 0x0C => some 8
  | 0x0D => some 8
  | 0x0E => some 24
  | 0x0F => some 8
  | 0x10 => some 8
  | 0x11 => some 8
  | 0x40 => some 16
  | 0x41 => some 8
  | 0x42 => some 386
  | 0x43 => some 48
  | 0x44 => some 8
  | 0x45 => some 8
  | 0x46 => some 8
  | _ => none

/-- The profiles that the terminal offers include 3 (R183). -/
def offers3 (s : State) : Bool := rd s JOIN_CTRL.MAX_PROFILE ≠ 2

/-- The negotiated profile includes the type; before one is negotiated, a profile that the terminal offers does. -/
def profileHas (s : State) (ty : Nat) : Bool :=
  let p := rd s JOIN_STATUS.PROFILE
  if ty = 5 ∨ ty = 6 then p = 3 || (p = 0 && offers3 s) else true

/-- The pod column of R168 with the destinations of R165. -/
def podFits (s : State) (ty : Nat) (sealed bcast own : Bool) : Bool :=
  let join := mode s = 3
  if ty ≤ 3 then !sealed && bcast
  else if ty = 0x11 then if join then (!sealed && (bcast || own)) else sealed && own
  else if ty ≤ 6 then own && sealed != join
  else if ty ≤ 8 then own && !sealed
  else own && sealed

/-- R165. (In part DEDUCED, log entry 21.) -/
def tendOk (s : State) (ty tid key : Nat) (sealed : Bool) : Bool :=
  let own := flag s JOIN_TID.VALID && tid = rd s JOIN_TID.TID && tid ≠ 4095
  (bodyLen ty).isSome && decide (ty ≤ 0x11) && profileHas s ty && podFits s ty sealed (tid = 4095) own
    && (!sealed || (flag s JOIN_TEND_SLOTS.VALID && key = rd s JOIN_TEND_SLOTS.DOWN))

/-- The stored answer to a repeated message is sent again (R166). -/
def resend (s : State) (a : Answer) : State :=
  match a.reply with
  | none => s
  | some (ty, msg) => queuePod s (if ty = 0x41 then keyed s else ty = 0x43) msg 0

/-- The stored answer to message (ty, seq). (In part DEDUCED, log entry 21.) -/
def answerOf (s : State) (ty seq : Nat) : Option Answer := s.join.answers.find? fun a => a.ty = ty && a.seq = seq

/-- A message whose MCRC and length fit: refused, answered as a repeat, over the limit of R169, or waiting for its own
command. An ASSIGN_TID counts as directed when it names the terminal's serial number. -/
def takeMsg (s : State) (m : Msg) (key : Nat) : State :=
  if tendOk s m.ty m.tid key m.sealed then
    let directed := m.tid ≠ 4095 || (m.ty = 3 && beAt m.body 0 8 = s.fuses.serial)
    let put (t : State) : State := { t with join := { t.join with inbox := t.join.inbox ++ [m] } }
    if directed then
      match answerOf s m.ty m.seq with
      | some a => resend (bump s JOIN_TEND.DUP 1) a
      | none =>
        if s.join.inbox.any fun x => x.ty = m.ty && x.seq = m.seq && x.tid = m.tid then bump s JOIN_TEND.DUP 1
        else if 64 ≤ s.join.directed then bump s JOIN_TEND.OVERRUN 1
        else put { s with join := { s.join with directed := s.join.directed + 1 } }
    else put s
  else bump s JOIN_TEND.REFUSED 1

/-- A message list (R163, R164), at most `n` messages long. -/
def takeList (n tid key fc : Nat) (sealed : Bool) (l : List Byte) (s : State) : State :=
  match n with
  | 0 => s
  | m + 1 =>
    let ty := beAt l 0 1
    let blen := beAt l 4 2
    let all := 12 + blen
    if l.length < 12 ∨ ty = 0 then s
    else if l.length < all ∨ (bodyLen ty).any (fun b => b ≠ blen) ∨ crc32c (l.take (8 + blen)) ≠ beAt l (8 + blen) 4 then
      bump s JOIN_TEND.BAD_CRC 1
    else
      let x : Msg := { ty := ty, sealed := sealed, tid := tid, seq := beAt l 2 2, body := slice l 8 blen, fc := fc }
      takeList m tid key fc sealed (l.drop all) (takeMsg s x key)

/-- A tending pod reaches firmware (R376, event 56), and its messages are taken. -/
def tendPod (s : State) (tid key fc : Nat) (sealed : Bool) (l : List Byte) : State :=
  takeList l.length tid key fc sealed l (pulse s 56)

end Sys2Proof.Machine
end

