-- ==== Sys2Proof/Machine/OpsPower.lean ====
section
/-!
DEFINITION. The way down to DORMANT or SENTRY (R206, R436), which several chapters begin.
-/

namespace Sys2Proof.Machine

/-- A host lane goes to electrical idle; a fenced one stays fenced. (In part DEDUCED, log entry 23.) -/
def quietLane (s : State) (b l : Nat) : State :=
  if rd s (HL_LANE_STAT.STATE b l) = 5 then s
  else wr (wr (wr s (HL_LANE_STAT.STATE b l) 0) (HL_LANE_STAT.TX_DOZE b l) 0) (HL_LANE_STAT.RX_DOZE b l) 0

/-- t_d of R436: no further grant is served, every SOA is off, every host lane goes to electrical idle and every laser
goes DARK. (In part DEDUCED, log entry 16.) -/
def startDown (s : State) (m : Nat) : State :=
  let s1 := cutBursts s
  let s2 := { s1 with
    power := { s1.power with down := some m, gasp := none }
    burst := { s1.burst with grants := [], bursts := [] } }
  let s3 := (s.burst.bursts).foldr (fun b t => returnBurst t b) s2
  let s4 := (List.range (ports s)).foldl (fun t p => if rd t (HL_PORT.STATE p) = 1 ∨ rd t (HL_PORT.STATE p) = 2 then portLeave t p 0 else t) s3
  let s4' := (List.range (34 * beds s4)).foldl (fun t i => quietLane t (i / 34) (i % 34)) s4
  let s5 := s4'.line.lasers.foldl (fun t e => darkLaser t (128 ≤ e.1) (e.1 % 128)) s4'
  sweepHunts s5

/-- The ledger in the flash's wear area takes every laser's wear (R463). -/
def saveLedger (s : State) : State :=
  { s with boot := { s.boot with ledger := s.line.lasers.filterMap fun l => if l.2.wear = 0 then none else some (l.1, l.2.wear) } }

/-- A mode request is judged against the present mode (R38, R40, R435); firmware writes the ledger (R463). (In part DEDUCED, log entry 16.) -/
def modeAsk (s : State) (m : Nat) : State :=
  if 1 < m ∨ mode s < 2 ∨ flag s MODE_STATUS.PENDING then setFlag s MODE_STATUS.REFUSED true
  else
    let s1 := setFlag (saveLedger s) MODE_STATUS.PENDING true
    if mode s = 4 then
      sendTend { s1 with power := { s1.power with gasp := some m, gaspGrant := false } } true 0x46 (beBytes 1 (m + 1) ++ List.replicate 7 0) 2
    else startDown s1 m

/-- The commands that stand for an event of R38, or for one that can bring it about. (In part DESIGN CHOICE, log entry 42.) -/
def modeEvent (c : Instr) : Bool :=
  match c with
  | .huntSegment _ | .lrxEnableWrite _ _ | .rxGraftSwitchover _ | .losHoldoffExpiry | .protectionSwitch | .activate | .deactivate | .timeInfo
  | .tendUpSealedReset | .timeTriggerFire _ _ | .servoCycle | .timeMessagesLost | .holdoverSecond | .rakeFaultEvent _
  | .scrubComplete _ _ | .startupSequence _ _ _ _ => true
  | _ => false

/-- A request in MODE_CTRL: with an event of its cycle next in the queue it waits for it (R41), GO standing meanwhile. (In part DESIGN CHOICE, log entry 42.) -/
def modeGo (s : State) (m : Nat) : State :=
  if s.pending.head?.any modeEvent then setFlag { s with power := { s.power with ask := some m } } MODE_CTRL.GO true
  else modeAsk s m

/-- The event's transition has been taken: a request of the same cycle is checked against the mode that it left (R41). -/
def judgeAsk (s : State) : State :=
  match s.power.ask with
  | some m => modeAsk (setFlag { s with power := { s.power with ask := none } } MODE_CTRL.GO false) m
  | none => s

/-- Transactions with the regulator of rail r: PAGE, then commands that write nothing (R446). -/
def railPmb (s : State) (r : Nat) (cmds : List Nat) : State :=
  let a := rd s (PMB_RAIL.ADDR r)
  cmds.foldl (fun t c => emit t (.pmbus a c 0)) (emit s (.pmbus a 0x00 (rd s (PMB_RAIL.PAGE r))))

/-- The burst that carries DYING_GASP has ended, or 1 ms has passed without a grant (R206). -/
def gaspDone (s : State) : State :=
  match s.power.gasp with
  | some m => startDown s m
  | none => s

end Sys2Proof.Machine
end

