-- ==== Sys2Proof/Machine/OpsBurst.lean ====
section
/-!
DEFINITION. Filling a grant and encrypting its pods (R139 to R154, R330 to R344): the shared operations of chapters 04
and 10.
-/

namespace Sys2Proof.Machine

/-! ### Anatomy (R139 to R142) -/

/-- FEC blocks of a burst of `len` grains (R140). -/
def burstBlocks (long : Bool) (len : Nat) : Nat := 64 * (len - (if long then 25 else 13)) / 2208

/-- Bytes of its pod area (R142). -/
def podArea (long : Bool) (len : Nat) : Nat := 15420 * burstBlocks long len / 8 - 16

/-- The instant of a grant's first data symbol (R148). -/
def dataTime (g : Grant) : Nat := g.t0 + (448 + (if g.long then 1024 else 256)) * 65536

/-- Symbol i of the alternating pattern. -/
def altSym (i : Nat) : LineSym := if i % 2 = 0 then cornerSym 0 1 else cornerSym 2 3

/-- The delimiter patterns (R141). -/
def delimX : Nat := 0xB4D21E973C5A8F06
def delimY : Nat := 0x6A0FD358E12C47B9

/-- The symbols of a burst from its ramp up to its ramp down (R61, R139), from the RS payload of its FEC blocks. -/
def burstSymbols (long : Bool) (len : Nat) (payload : List Byte) : List LineSym :=
  let P := if long then 1024 else 256
  let n := burstBlocks long len
  let fill := 64 * (len - (if long then 25 else 13)) - 2208 * n
  let quiet := cornerSym 0 1
  let delim := (List.range 64).map fun i =>
    cornerSym (if bitAt delimX (63 - i) then 0 else 2) (if bitAt delimY (63 - i) then 1 else 3)
  (List.range (128 + (P - 64))).map altSym ++ List.replicate 64 quiet ++ delim
    ++ fecBlocks n ((bytesBits payload).take (15420 * n)) 0x1FF ++ List.replicate (fill + 128) quiet

/-- The SOA levels of a ramp up, one per 8 symbols; a ramp down takes them in reverse order (R72). -/
def rampOf (s : State) : List Nat := if s.line.ramp = [] then (List.range 16).map rampReset else s.line.ramp

/-- The level of the SOA at each of `n` symbols from ramp up to ramp down, in units of 1/1,024 of the target power (R72). -/
def soaLevels (ramp : List Nat) (n : Nat) : List Nat :=
  ramp.flatMap (List.replicate 8) ++ List.replicate (n - 256) 1024 ++ ramp.reverse.flatMap (List.replicate 8)

/-- What the SOA puts out from the ramp up on: each symbol with its level. -/
def burstLight (ramp : List Nat) (long : Bool) (len : Nat) (payload : List Byte) : List (Nat × LineSym) :=
  let l := burstSymbols long len payload
  (soaLevels ramp l.length).zip l

/-! ### Pod headers upstream (R151) -/

/-- The 10 header bytes of a pod; LENGTH has 16 bits (R113). (In part DEDUCED, log entry 20.) -/
def podHeader (tid ty key index len : Nat) : List Byte :=
  let h := beBytes 8 ((tid * 16 + ty) * 2 ^ 48 + key * 2 ^ 34 + index * 2 ^ 16 + len % 2 ^ 16)
  h ++ beBytes 2 (crc16 h)

/-- A pod as it leaves: header and body. -/
def UpPod.bytes (tid : Nat) (p : UpPod) : List Byte := podHeader tid p.ty p.key p.index p.body.length ++ p.body

/-- An idle pod of `n` payload bytes. -/
def idlePod (n : Nat) : UpPod := { ty := 0, key := 0, index := 0, body := List.replicate n 0, frames := 0, done := true }

/-! ### EXT and INDEX (R152, R153) -/

/-- EXT on the upstream channel k of the downstream frame that a grant names, while channel k's EXT_VALID is 1 (R153, R335). -/
def grantExt (s : State) (g : Grant) : Option Nat :=
  (extOf s g.ch).map fun e => (((e : Int) + signed32 g.fc (huntOf s g.ch).fc) % (2 ^ 48 : Nat)).toNat

/-- The next INDEX of the grant's channel and frame, none when the count would pass 65,535. (In part DESIGN CHOICE, log entry 45.) -/
def nextIndex (s : State) (g : Grant) : Option (Nat × State) :=
  let key := g.ch * 2 ^ 32 + g.fc
  let i := s.burst.index.get key 0
  let old (j : Nat) : Bool := j / 2 ^ 32 = g.ch && signed32 g.fc (j % 2 ^ 32) > 400
  if 65535 < i then none
  else some (i, { s with burst := { s.burst with index := (s.burst.index.keep fun j => !old j).set key (i + 1) 0 } })

/-! ### Frames (R146, R149, R306, R316) -/

/-- A shaped frame is eligible (R306). -/
def UpFrame.ready (s : State) (f : UpFrame) : Bool :=
  match f.wait with
  | none => true
  | some t => 0 ≤ signed32 (s.time.c % 2 ^ 32) t

/-- The row whose frame is the head of queue q of a slot, for `room` bytes. -/
def headRow (s : State) (slot q room : Nat) : Option Nat :=
  (upArb s slot q).pick ((List.range 4).filter fun r =>
    match fifo s slot q r with
    | [] => false
    | f :: _ => f.ready s && decide (f.size ≤ room))

/-- The highest queue with a head that fits, and its row. -/
def headQueue (s : State) (slot room : Nat) : Option (Nat × Nat) :=
  (List.range 8).foldl (fun best q =>
    match headRow s slot q room with
    | some r => some (q, r)
    | none => best) none

/-- The head frame of a row's FIFO leaves its queue; the arbiter starts it. -/
def popUp (s : State) (slot q r : Nat) : State :=
  match fifo s slot q r with
  | [] => s
  | f :: rest =>
    let g := 4 * rd s (ALLOC_LO.OWNER slot) + r
    let a := (upArb s slot q).start r (tagInc f.size (rd s (SCHED_ROW.UP_WEIGHT g)))
    setFifo (setUpArb s slot q (if rest.isEmpty then a.leave r else a)) slot q r rest

/-- The entry of a frame in a packet pod (R119). -/
def frameEntry (f : UpFrame) : List Byte := beBytes 2 f.bytes.length ++ f.bytes

/-- The work of R149: the state, the space left, the pods closed (newest first), the frames chosen (newest first) and the
open pod. -/
structure Fill where
  s : State
  space : Nat
  pods : List UpPod
  frames : List UpFrame
  opened : Option UpPod

/-- The open pod is closed. -/
def Fill.close (x : Fill) : Fill :=
  match x.opened with
  | none => x
  | some p => { x with pods := p :: x.pods, opened := none }

/-- R149, at most `n` turns of its loop. -/
def fillFrames (n : Nat) (g : Grant) (slot : Nat) (x : Fill) : Fill :=
  match n with
  | 0 => x.close
  | m + 1 =>
    let room := if x.opened.isNone then x.space - 26 else x.space
    match headQueue x.s slot room with
    | none => x.close
    | some (q, r) =>
      match fifo x.s slot q r with
      | [] => x.close
      | f :: _ =>
        let podMax := max 1 (rd x.s BURST_CTRL.POD_MAX) * 256
        match x.opened with
        | some p =>
          if podMax < p.body.length + f.size then fillFrames m g slot x.close
          else fillFrames m g slot { x with
            s := popUp x.s slot q r, space := x.space - f.size, frames := f :: x.frames
            opened := some { p with body := p.body ++ frameEntry f, frames := p.frames + 1 } }
        | none =>
          match nextIndex x.s g with
          | none => x.close
          | some (i, t) =>
            let p : UpPod := { ty := 1, key := rd t (ALLOC_HI.KEY slot), index := i, body := frameEntry f, frames := 1, done := false }
            fillFrames m g slot { x with
              s := popUp t slot q r, space := x.space - 26 - f.size, frames := f :: x.frames, opened := some p }

/-! ### Tending pods (R150) -/

/-- The upstream engine of the row that owns channel ch is gone (R428). (In part DEDUCED, log entry 20.) -/
def upGone (s : State) (ch : Nat) : Bool := engGone s (ch / 2) true

/-- A sealed tending pod can be sealed for this grant. -/
def sealable (s : State) (g : Grant) (t : TendPod) : Bool :=
  (grantExt s g).isSome && encUsable s t.key (logicalEng (g.cnt / 2) true) && !upGone s g.cnt

/-- R150: whole tending pods in queue order. The state, the pods and the tending pods chosen, the bytes left, and the
pods that stay. (In part DESIGN CHOICE, log entry 45.) -/
def fillTend (g : Grant) (l : List TendPod) (space : Nat) (s : State) : State × List UpPod × List TendPod × Nat × List TendPod :=
  match l with
  | [] => (s, [], [], space, [])
  | t :: r =>
    let size := 10 + t.body.length + (if t.sealed then 16 else 0)
    if t.sealed then
      if !sealable s g t then
        let x := fillTend g r space s
        (x.1, x.2.1, x.2.2.1, x.2.2.2.1, t :: x.2.2.2.2)
      else if space < size then (s, [], [], space, l)
      else
        match nextIndex s g with
        | none =>
          let x := fillTend g r space s
          (x.1, x.2.1, x.2.2.1, x.2.2.2.1, t :: x.2.2.2.2)
        | some (i, s1) =>
          let x := fillTend g r (space - size) s1
          let p : UpPod := { ty := 3, key := t.key, index := i, body := t.body, frames := 0, done := false }
          (x.1, p :: x.2.1, t :: x.2.2.1, x.2.2.2.1, x.2.2.2.2)
    else if space < size then (s, [], [], space, l)
    else
      let x := fillTend g r (space - size) s
      let p : UpPod := { ty := 2, key := 0, index := 0, body := t.body, frames := 0, done := true }
      (x.1, p :: x.2.1, t :: x.2.2.1, x.2.2.2.1, x.2.2.2.2)

/-! ### Assembly (R143, R144, R148 to R154, R173) -/

/-- A measure in units of 256 bytes, rounded up, saturating. -/
def reportUnits (w n : Nat) : Nat := min (ceilDiv n 256) (2 ^ w - 1)

/-- The two fields of the queue report of a slot (R144). -/
def reportOf (s : State) (slot : Option Nat) : Nat × Nat :=
  match slot with
  | none => (0, 0)
  | some n =>
    if rd s (ALLOC_LO.OWNER n) = 8 then
      (reportUnits 24 (s.burst.tend.foldl (fun a t => a + 10 + t.body.length + (if t.sealed then 16 else 0)) 0), 0)
    else
      let all := (List.range 8).foldl (fun a q => a + queueBytes s n q) 0
      (reportUnits 24 all, reportUnits 16 (queueBytes s n 6 + queueBytes s n 7))

/-- The DISC_RESPONSE body (R180). -/
def discBody (s : State) : List Byte :=
  beBytes 8 s.fuses.serial ++ beBytes 1 (if offers3 s then 12 else 4) ++ beBytes 1 (chans s) ++
    beBytes 1 (rd s JOIN_STATUS.WARM) ++ List.replicate 5 0

/-- The grant's pods before the idle fill: the pods, the frames and the tending pods chosen, and the bytes left. -/
def fillGrant (s : State) (g : Grant) (slot : Option Nat) : State × List UpPod × List UpFrame × List TendPod × Nat :=
  let area := podArea g.long g.len
  match g.kind with
  | 1 =>
    let msg := tendMsg 0x40 s.join.seq (discBody s)
    let p : UpPod := { ty := 2, key := 0, index := 0, body := msg, frames := 0, done := true }
    ({ s with join := { s.join with seq := (s.join.seq + 1) % 65536 } }, [p], [], [], area - (10 + msg.length))
  | _ =>
    match slot with
    | none => (s, [], [], [], area)
    | some n =>
      if rd s (ALLOC_LO.OWNER n) = 8 then
        let x := fillTend g s.burst.tend area s
        ({ x.1 with burst := { x.1.burst with tend := x.2.2.2.2 } }, x.2.1, [], x.2.2.1, x.2.2.2.1)
      else if (grantExt s g).isNone then (s, [], [], [], area)
      else if !encUsable s (rd s (ALLOC_HI.KEY n)) (logicalEng (g.cnt / 2) true) || upGone s g.cnt then
        (bump s (CIPHER_UP.REFUSED (g.cnt / 2)) 1, [], [], [], area)
      else
        let x := fillFrames (2 * (slotFrames s n).length + 1) g n { s := s, space := area, pods := [], frames := [], opened := none }
        (x.s, x.pods.reverse, x.frames.reverse, [], x.space)

/-- The slot whose queues fill a grant. -/
def grantSlot (s : State) (g : Grant) : Option Nat :=
  match g.kind with
  | 0 => slotOf s g.alloc
  | 1 => none
  | _ => devSlot s

/-- A scheduled grant is filled (R148, R149). -/
def assemble (s : State) (g : Grant) : State :=
  let slot := grantSlot s g
  let x := fillGrant { s with burst := { s.burst with grants := s.burst.grants.filter fun y => y ≠ g } } g slot
  let s1 := x.1
  let rpt := if g.kind ≠ 1 && g.req then reportOf s1 slot else (0, 0)
  let left := x.2.2.2.2
  let idle := if 10 ≤ left then [idlePod (left - 10)] else []
  let b : Burst := { grant := g, slot := slot, area := podArea g.long g.len, rptAll := rpt.1, rptHigh := rpt.2,
                     pods := x.2.1 ++ idle, frames := x.2.2.1, tend := x.2.2.2.1, ramp := [] }
  { s1 with burst := { s1.burst with bursts := s1.burst.bursts ++ [b] } }

/-- Does grant a come before grant b (R148)? -/
def grantBefore (a b : Grant) : Bool := dataTime a < dataTime b || (dataTime a = dataTime b && a.ch < b.ch)

/-- The earliest of some grants. (In part DEDUCED, log entry 20.) -/
def earliest (l : List Grant) : Option Grant :=
  l.foldl (fun best g =>
    match best with
    | none => some g
    | some b => if grantBefore g b then some g else some b) none

/-! ### Encryption (R331, R334, R339, R344) -/

/-- The TID that a burst's pods carry. -/
def burstTid (s : State) (g : Grant) : Nat := if g.kind = 1 then 4095 else rd s JOIN_TID.TID

/-- One pod passes the upstream engine of its row: encrypted, or sent as idle when its key has become unusable. -/
def encryptPod (s : State) (g : Grant) (p : UpPod) : UpPod × State :=
  let idle : UpPod := { ty := 0, key := 0, index := 0, body := List.replicate (p.body.length + 16) 0, frames := 0, done := true }
  let lost (t : State) : UpPod × State := (idle, bump t (CIPHER_UP.SEAL_LOST (g.cnt / 2)) p.frames)
  match grantExt s g with
  | none => lost s
  | some e =>
    if encUsable s p.key (logicalEng (g.cnt / 2) true) && !upGone s g.cnt then
      let r := invoke s p.key (logicalEng (g.cnt / 2) true) g.ch
      if r.1 then
        let tid := burstTid s g
        let hdr := podHeader tid p.ty p.key p.index (p.body.length + 16)
        let c := gcmEnc (slotAt s p.key).key (ivOf tid true g.ch e p.index) (hdr.take 8) p.body
        ({ p with body := c, done := true }, r.2)
      else lost r.2
    else lost s

/-- The pods of a list encrypted, at most the first `n` that wait. -/
def encryptPods (n : Nat) (g : Grant) (l : List UpPod) (s : State) : List UpPod × State :=
  match l with
  | [] => ([], s)
  | p :: r =>
    if p.done then
      let x := encryptPods n g r s
      (p :: x.1, x.2)
    else
      match n with
      | 0 => (l, s)
      | m + 1 =>
        let y := encryptPod s g p
        let x := encryptPods m g r y.2
        (y.1 :: x.1, x.2)

/-- The burst header (R143). -/
def burstHeader (s : State) (b : Burst) : List Byte :=
  let g := b.grant
  let rv := b2n (g.kind ≠ 1 && g.req)
  let h := beBytes 14 (burstTid s g * 2 ^ 100 + g.alloc * 2 ^ 84 + g.fc * 2 ^ 48 + rv * 2 ^ 47 + b.rptAll * 2 ^ 16 + b.rptHigh)
  h ++ beBytes 2 (crc16 h)

/-- The RS payload of a burst (R142), its pods encrypted. -/
def burstPayload (s : State) (b : Burst) : List Byte :=
  let g := b.grant
  let odd := burstBlocks g.long g.len % 2
  burstHeader s b ++ padTo b.area (b.pods.flatMap (UpPod.bytes (burstTid s g))) ++ List.replicate odd 0

end Sys2Proof.Machine
end

