-- ==== Sys2Proof/Machine/Burst.lean ====
section
/-!
DEFINITION. The commands of the burst engine (chapter 04).
-/

namespace Sys2Proof.Machine

/-! ### The equalization delay (R133) -/

def execEqdWrite (v : Word) (s : State) : Host.Outcome State Fault Refusal :=
  .next (setEqd (fresh s) (fldOf BURST_EQD.EQD v))

/-- The next upstream frame begins: the staged value is in force from here on (R133). -/
def eqdTaken (s : State) : State :=
  setFlag { s with burst := { s.burst with eqds := [] } } BURST_STATUS.EQD_PENDING false

def execEqdApply (s : State) : Host.Outcome State Fault Refusal :=
  .next (eqdTaken (fresh s))

/-! ### Bursts (R136 to R154) -/

/-- A collision in an open window (R175). (In part DESIGN CHOICE, log entry 9.) -/
def collide (s : State) : State :=
  let cw := min (2 * rd s JOIN_STATUS.CW) 64
  let s1 := bump (wr s JOIN_STATUS.CW cw) JOIN_DISC.COLLIDED 1
  useFree { s1 with join := { s1.join with count := freeBelow s1 cw } }

/-- A discovery burst leaves: the terminal has sent in its window. Where the DISC_ANNOUNCE of a later window of the search
has been read, its result can no longer count as received, and an open window counts as a collision (R174, R175). -/
def sentWin (s : State) (g : Grant) : State :=
  match g.win with
  | some w =>
    if w.2 < s.join.lastWin then (if w.1 = 0 then collide s else s)
    else { s with join := { s.join with used := w :: s.join.used } }
  | none => s

/-- The scheduled grant whose first data symbol comes first is filled. (In part DEDUCED, log entry 20.) -/
def assembleNext (s : State) : State :=
  match earliest s.burst.grants with
  | some g => assemble s g
  | none => s

def execBurstAssemble (s : State) : Host.Outcome State Fault Refusal := .next (assembleNext (fresh s))

/-- The first instant of the assembled burst that comes first on upstream channel k. -/
def firstBurst (s : State) (k : Nat) : Option Burst :=
  (s.burst.bursts.filter fun b => b.grant.ch = k).foldl (fun best b =>
    match best with
    | none => some b
    | some x => if b.grant.t0 < x.grant.t0 then some b else some x) none

/-- The assembled burst of channel k reaches t_g0: check 4 again, then the burst leaves, or its frames return (R137). (In part DEDUCED, log entry 20.) -/
def transmit (k : Nat) (s : State) : State :=
  match firstBurst s k with
  | none => s
  | some b =>
    if onAir s k then s
    else
      let g := b.grant
      let s1 := { s with burst := { s.burst with bursts := s.burst.bursts.filter fun x => x ≠ b } }
      let gone := b.slot.any fun n => s.burst.removing.contains n
      if gone then returnBurst s1 b
      else if !check4 s g || flag s LINE_STATUS.SWITCHING then
        bump (returnBurst s1 b) (BURST_SKIPX.NOTX g.cnt) 1
      else
        let e := encryptPods b.pods.length g b.pods (freeUpAll s1 b.frames)
        let b1 := { b with pods := e.1, ramp := rampOf s, lit := rampAt s g }
        let s2 := setFlag { e.2 with burst := { e.2.burst with air := e.2.burst.air ++ [b1] } } (LTX_STATUS.SOA_ON g.cnt) true
        let s3 := if g.kind = 1 then sentWin (bump s2 JOIN_DISC.SENT 1) g else s2
        let lead := 115 * s.time.cal.get (64 + g.ch) 0
        let payload := burstPayload s1 b1
        emit s3 (.burst k g.t0 (g.t0 - lead) payload (burstLight b1.ramp g.long g.len payload) (rd s LINE_SOA_LIMIT.GAIN_CAP))

def execBurstTransmit (k : Nat) (s : State) : Host.Outcome State Fault Refusal := .next (transmit k (fresh s))

/-- The retuned transmitter goes to its next ranging channel, or back to its own (R190). -/
def nextVisit (s : State) (ch : Nat) : State :=
  if s.join.tuned == some ch then
    match s.join.visits with
    | [] => restoreTuning s
    | v :: r => retune { s with join := { s.join with visits := r, tuned := some v } } v
  else s

/-- The burst on channel k ends: it counts, and what waits for it goes on (R201, R206, R190). -/
def endBurst (k : Nat) (s : State) : State :=
  match s.burst.air.find? fun b => b.grant.ch = k with
  | none => s
  | some b =>
    let g := b.grant
    let s1 := { s with burst := { s.burst with air := s.burst.air.filter fun x => x.grant.ch ≠ k } }
    let s2 := setFlag (bump s1 (BURST_SENT.COUNT g.cnt) 1) (LTX_STATUS.SOA_ON g.cnt) false
    let s3 := if g.kind = 3 then nextVisit s2 k else s2
    let s4 := match s3.join.swTarget with
      | some c => if b.tend.any (fun t => t.mark = 1) then
          { s3 with line := { s3.line with switchCmd := some c }, join := { s3.join with swTarget := none } }
        else s3
      | none => s3
    if b.tend.any (fun t => t.mark = 2) then gaspDone s4 else s4

def execBurstEnd (k : Nat) (s : State) : Host.Outcome State Fault Refusal := .next (endBurst k (fresh s))

/-! ### Allocation slots (R155 to R158) -/

/-- A write of BURST_ALLOC_ADD_HI; GO applies the add (R155). -/
def allocAddStore (v : Word) (s : State) : State :=
  let s1 := wr s BURST_ALLOC_ADD_HI.KEY (fldOf BURST_ALLOC_ADD_HI.KEY v)
  if fldSet BURST_ALLOC_ADD_HI.GO v then
    addAlloc s1 (rd s1 BURST_ALLOC_ADD_LO.ID) (rd s1 BURST_ALLOC_ADD_LO.OWNER) (rd s1 BURST_ALLOC_ADD_HI.KEY)
  else s1

def execBurstAllocAdd (v : Word) (s : State) : Host.Outcome State Fault Refusal := .next (allocAddStore v (fresh s))

/-- Slot n is to be removed (R157): grants to it that have not begun are not served. -/
def removeSlot (s : State) (n : Nat) : State :=
  if n < 256 ∧ flag s (ALLOC_LO.VALID n) then
    let id := rd s (ALLOC_LO.ID n)
    let mine := s.burst.bursts.filter fun b => b.slot == some n
    let bs := { s.burst with
      bursts := s.burst.bursts.filter fun b => b.slot != some n
      grants := s.burst.grants.filter fun g => !(g.kind ≠ 1 && g.alloc = id)
      removing := n :: s.burst.removing.erase n }
    setFlag (mine.foldr (fun b t => returnBurst t b) { s with burst := bs }) (ALLOC_LO.REMOVE n) true
  else s

def execAllocRemove (n : Nat) (s : State) : Host.Outcome State Fault Refusal := .next (removeSlot (fresh s) n)

/-- The removal of slot n takes effect once no burst of it is in progress. -/
def removeApply (n : Nat) (s : State) : State :=
  if s.burst.removing.contains n && !slotOnAir s n then applyRemove s n else s

def execAllocRemoveApply (n : Nat) (s : State) : Host.Outcome State Fault Refusal := .next (removeApply n (fresh s))

/-- A write of ALLOC_n_HI (R158). -/
def allocKeyStore (n : Nat) (v : Word) (s : State) : State :=
  if n < 256 then wr s (ALLOC_HI.KEY n) (fldOf (ALLOC_HI.KEY n) v) else s

def execAllocKeyWrite (n : Nat) (v : Word) (s : State) : Host.Outcome State Fault Refusal :=
  .next (allocKeyStore n v (fresh s))

end Sys2Proof.Machine
end

