-- ==== Sys2Proof/Machine/Join.lean ====
section
/-!
DEFINITION. The tending messages and the JOIN state machine (chapter 05). Each message command takes the first message of
its type that the checks of R164 to R169 have let through.
-/

namespace Sys2Proof.Machine

/-- The first waiting message of a type, and the state without it. -/
def takeOf (s : State) (ty : Nat) : Option (Msg × State) :=
  match s.join.inbox.find? fun m => m.ty = ty with
  | none => none
  | some m => some (m, { s with join := { s.join with inbox := s.join.inbox.erase m } })

/-- A command that handles the first waiting message of a type. (In part DEDUCED, log entry 21.) -/
def onMsg (ty : Nat) (f : Msg → State → State) (s : State) : State :=
  match takeOf s ty with
  | none => s
  | some (m, t) => f m t

/-- The JOIN state, while the mode is JOIN. -/
def joinAt (s : State) (st : Nat) : Bool := mode s = 3 && rd s JOIN_STATUS.STATE = st

/-! ### Discovery (R174 to R180) -/

/-- The windows used before window `w` whose results are missing count as collisions (R174). -/
def settle (s : State) (w : Nat) : State :=
  let late := s.join.used.filter fun x => x.2 < w
  let s1 := { s with join := { s.join with used := s.join.used.filter fun x => !(x.2 < w) } }
  late.foldl (fun t x => if x.1 = 0 then collide t else t) s1

def announce (m : Msg) (s : State) : State :=
  let st := rd s JOIN_STATUS.STATE
  if mode s = 3 ∧ (st = 1 ∨ st = 2) then
    let id := beAt m.body 0 1
    let flags := beAt m.body 1 1
    let s1 := if bitAt flags 7 then
        let t := forgetWins (wr (wr s JOIN_STATUS.STATE 1) JOIN_STATUS.CW 1)
        { t with join := { t.join with search := some id, count := 0, wins := [], used := [], lastWin := 0 } }
      else s
    if rd s1 JOIN_STATUS.STATE = 1 ∧ s1.join.search = some id then
      let w : Win := { search := id, mode := b2n (bitAt flags 6), window := beAt m.body 2 2, channel := beAt m.body 4 1 % 64,
                       prefixLen := beAt m.body 5 1, pfx := beAt m.body 16 8, winFc := beAt m.body 8 4,
                       eqd := beAt m.body 12 4 % 2 ^ 28 }
      let s2' := settle s1 w.window
      let s2 := { s2' with join := { s2'.join with lastWin := max s2'.join.lastWin w.window } }
      if w.prefixLen ≤ 64 ∧ 0 < signed32 w.winFc m.fc then { s2 with join := { s2.join with wins := s2.join.wins ++ [w] } } else s2
    else s1
  else s

def execDiscAnnounce (s : State) : Host.Outcome State Fault Refusal := .next (onMsg 0x01 announce (fresh s))

def discOutcome (m : Msg) (s : State) : State :=
  if joinAt s 1 ∧ s.join.search = some (beAt m.body 0 1) then
    match s.join.used.find? fun x => x.2 = beAt m.body 2 2 with
    | none => s
    | some x =>
      let s1 := { s with join := { s.join with used := s.join.used.erase x } }
      if beAt m.body 1 1 = 1 ∧ beAt m.body 8 8 = s.fuses.serial then wr s1 JOIN_STATUS.STATE 2
      else if x.1 = 0 then collide s1
      else s1
  else s

def execDiscResult (s : State) : Host.Outcome State Fault Refusal := .next (onMsg 0x02 discOutcome (fresh s))

/-! ### Identification and ranging (R181 to R191) -/

/-- ASSIGN_TID with the terminal's own serial number, accepted in its state with a profile that it offers. (In part DEDUCED, log entry 21.) -/
def acceptTid (m : Msg) (s : State) : State :=
  let tid := beAt m.body 8 2 % 4096
  let alloc := beAt m.body 10 2
  let prof := beAt m.body 16 1
  let tree := rd s FRM_TREE.TREE_ID
  let keep := flag s JOIN_STATUS.WARM && rd s JOIN_TID.TID = tid && rd s JOIN_TREE.TREE_ID = tree && rd s JOIN_STATUS.PROFILE = prof
  let s1 := if keep then s else coldReset s
  let s2 := wr (wr (wr s1 BURST_ALLOC_ADD_LO.ID alloc) BURST_ALLOC_ADD_LO.OWNER 8) BURST_ALLOC_ADD_HI.KEY 0
  let s3 := addAlloc s2 alloc 8 0
  if rd s3 BURST_ALLOC_ADD_HI.RESULT = 1 then
    let s4 := setEqd s3 (beAt m.body 12 4 % 2 ^ 28)
    let s5 := wr (wr (setFlag s4 JOIN_TID.VALID true) JOIN_TID.TID tid) JOIN_TID.DEV_ALLOC alloc
    let s6 := wr (setFlag (wr s5 JOIN_TREE.TREE_ID tree) JOIN_TREE.VALID true) JOIN_STATUS.PROFILE prof
    replyTo (wr s6 JOIN_STATUS.STATE 3) 0x03 m.seq 0 0 0
  else bump s3 JOIN_TEND.REFUSED 1

def assignTid (m : Msg) (s : State) : State :=
  let prof := beAt m.body 16 1
  if beAt m.body 0 8 ≠ s.fuses.serial ∨ beAt m.body 8 2 % 4096 = 4095 then s
  else if ¬ (prof = 2 ∨ (prof = 3 ∧ offers3 s)) then wr s JOIN_STATUS.LAST_EXIT 7
  else if joinAt s 1 ∨ joinAt s 2 then acceptTid m s
  else replyTo s 0x03 m.seq 2 0 0

def execAssignTid (s : State) : Host.Outcome State Fault Refusal := .next (onMsg 0x03 assignTid (fresh s))

/-- Ranging is over: KEYING, or READY on a warm rejoin (R170). -/
def afterRanging (s : State) : State :=
  let s1 := wr s JOIN_STATUS.STATE (if flag s JOIN_STATUS.WARM then 6 else 5)
  { s1 with join := { s1.join with offered := false } }

def rangeResult (m : Msg) (s : State) : State :=
  if inService s ∨ joinAt s 3 then
    let s1 := wr (setEqd s (beAt m.body 0 4 % 2 ^ 28)) (JOIN_RTD.RTD 0) (beAt m.body 4 4)
    let s2 := wr s1 JOIN_STATUS.RTD_VALID (Nat.lor (rd s1 JOIN_STATUS.RTD_VALID) 1)
    let s3 := shiftDelay s2 (beAt m.body 8 1)
    let s4 := if mode s = 3 ∧ bitAt (beAt m.body 9 1) 0 then
        (if rd s JOIN_STATUS.PROFILE = 3 then wr s3 JOIN_STATUS.STATE 4 else afterRanging s3)
      else s3
    replyTo s4 0x04 m.seq 0 0 0
  else replyTo s 0x04 m.seq 2 0 0

def execRangeResult (s : State) : Host.Outcome State Fault Refusal := .next (onMsg 0x04 rangeResult (fresh s))

/-- DC_RANGING, or SERVICE and HOLDOVER under profile 3 (R188). -/
def dcOk (s : State) : Bool := joinAt s 4 || (inService s && rd s JOIN_STATUS.PROFILE = 3)

/-- The ranging channels that the variant does not license, in the order of the plan's frames (R190). -/
def visitsOf (s : State) (f0 f31 f63 : Nat) : List Nat :=
  if s.fuses.variant = 0 then []
  else if s.fuses.variant = 1 then [63]
  else if signed32 f31 f0 ≤ signed32 f63 f0 then [31, 63] else [63, 31]

def rangePlan (m : Msg) (s : State) : State :=
  if dcOk s then
    let f0 := beAt m.body 0 4
    let f31 := beAt m.body 4 4
    let f63 := beAt m.body 8 4
    let s1 := { s with join := { s.join with plan := some (f0, f31, f63) } }
    let s2 := match visitsOf s f0 f31 f63 with
      | [] => restoreTuning s1
      | v :: r => retune { s1 with join := { s1.join with visits := r, tuned := some v } } v
    replyTo s2 0x05 m.seq 0 0 0
  else replyTo s 0x05 m.seq 2 0 0

def execDcRangePlan (s : State) : Host.Outcome State Fault Refusal := .next (onMsg 0x05 rangePlan (fresh s))

def dcResult (m : Msg) (s : State) : State :=
  if dcOk s then
    let valid := beAt m.body 12 1 % 8
    let s1 := (List.range 3).foldl (fun t i => if bitAt valid i then wr t (JOIN_RTD.RTD (i + 1)) (beAt m.body (4 * i) 4) else t) s
    let s2 := wr s1 JOIN_STATUS.RTD_VALID (Nat.lor (rd s1 JOIN_STATUS.RTD_VALID) (2 * valid))
    let s3 := fitDelay (restoreTuning s2) valid
    replyTo (if mode s = 3 then afterRanging s3 else s3) 0x06 m.seq 0 0 0
  else replyTo s 0x06 m.seq 2 0 0

def execDcRangeResult (s : State) : Host.Outcome State Fault Refusal := .next (onMsg 0x06 dcResult (fresh s))

/-! ### Keys (R192 to R197) -/

/-- In part DEDUCED, log entry 21. -/
def frameRef (m : Msg) (s : State) : State :=
  if (joinAt s 5 ∧ s.join.offered = false) ∨ (joinAt s 6 ∧ flag s JOIN_STATUS.WARM) then
    replyTo (loadRef s (beAt m.body 0 6)) 0x07 m.seq 0 0 0
  else replyTo s 0x07 m.seq 2 0 0

def execFrameRef (s : State) : Host.Outcome State Fault Refusal := .next (onMsg 0x07 frameRef (fresh s))

/-- The transcript hash H1 of R193. -/
def keyH1 (s : State) (down up : Nat) (hePub : List Byte) : List Byte :=
  sha384 (beBytes 8 s.fuses.serial ++ beBytes 2 (rd s JOIN_TID.TID) ++ beBytes 2 (rd s JOIN_TREE.TREE_ID) ++
    beBytes 6 (s.join.eref.getD 0) ++ beBytes 1 (rd s JOIN_STATUS.PROFILE) ++ beBytes 2 down ++ beBytes 2 up ++ hePub)

/-- A tending key goes to the vault as if by a load command (R342), in its turn (R341). -/
def tendLoad (s : State) (slot use : Nat) (key : List Byte) : State :=
  drainLoads (s.cipher.wait ++ [{ slot := slot, use := use, wrapped := [], msg := none, tend := some key }]) s

/-- A KEY_OFFER whose signature is valid: the ephemeral key pair, the three keys and KEY_RESPONSE (R194, R195). The private
key and the signature's nonce are free values. -/
def answerOffer (m : Msg) (s : State) (down up : Nat) (hePub h1 z : List Byte) (d : Nat) : State :=
  let tPub := pubOf d
  let h2 := sha384 (h1 ++ tPub)
  let prk := hmac384 h2 z
  let s1 := { s with
    cipher := { s.cipher with kek := some (hkdfExpand prk (ascii "yaldy kek") 32) }
    join := { s.join with h2 := some h2, offered := true }
    p384 := { s.p384 with eph := some d } }
  let s2 := setFlag s1 CIPHER_STATUS.KEK_VALID true
  let s3 := tendLoad (tendLoad s2 down 0 (hkdfExpand prk (ascii "yaldy tend down") 32)) up 1 (hkdfExpand prk (ascii "yaldy tend up") 32)
  let n := 1 + freeBelow s3 (p384N - 1)
  let body := tPub ++ pubOf s.fuses.idPriv ++ padTo 96 s.fuses.cert ++ ecdsaSign s.fuses.idPriv n h2
  let s4 := useFree s3
  sendTend (keepAnswer s4 0x08 m.seq (some (0x42, tendMsg 0x42 s4.join.seq body))) false 0x42 body 0

/-- In part DESIGN CHOICE, log entry 9. -/
def keyOffer (m : Msg) (s : State) : State :=
  if joinAt s 5 ∧ flag s FRM_EXT_REF_HI.REF_VALID then
    let down := beAt m.body 0 2 % 2 ^ 14
    let up := beAt m.body 2 2 % 2 ^ 14
    let hePub := slice m.body 8 97
    let h1 := keyH1 s down up hePub
    let d := 1 + freeBelow s (p384N - 1)
    match ecdhX d hePub with
    | none => joinRestart s 6
    | some z =>
      if down = up ∨ ecdsaVerify s.boot.operPub h1 (slice m.body 105 96) = false then joinRestart s 6
      else answerOffer m (useFree s) down up hePub h1 z d
  else s

def execKeyOffer (s : State) : Host.Outcome State Fault Refusal := .next (onMsg 0x08 keyOffer (fresh s))

def keyConfirm (m : Msg) (s : State) : State :=
  if joinAt s 5 then
    if s.join.h2 = some m.body then
      let s1 := keepAnswer s 0x09 m.seq (some (0x43, tendMsg 0x43 s.join.seq m.body))
      wr (sendTend s1 true 0x43 m.body 0) JOIN_STATUS.STATE 6
    else joinRestart s 6
  else s

def execKeyConfirm (s : State) : Host.Outcome State Fault Refusal := .next (onMsg 0x09 keyConfirm (fresh s))

/-- READY, SERVICE or HOLDOVER: the states in which keys and allocations are handled. -/
def readyOk (s : State) : Bool := inService s || joinAt s 6

def keyLoad (m : Msg) (s : State) : State :=
  if readyOk s then
    let use := beAt m.body 2 1
    if 2 < use then replyTo s 0x0A m.seq 1 0 0
    else issueLoad (keepAnswer s 0x0A m.seq none)
      { slot := beAt m.body 0 2 % 2 ^ 14, use := use, wrapped := slice m.body 8 40, msg := some m.seq }
  else replyTo s 0x0A m.seq 2 0 0

def execKeyLoad (s : State) : Host.Outcome State Fault Refusal := .next (onMsg 0x0A keyLoad (fresh s))

/-! ### Registration (R198, R199) -/

def assignAlloc (m : Msg) (s : State) : State :=
  if readyOk s then
    let id := beAt m.body 0 2
    let owner := beAt m.body 2 1
    let key := beAt m.body 4 2 % 2 ^ 14
    if 8 ≤ owner then replyTo s 0x0B m.seq 1 0 0
    else
      let s1 := wr (wr (wr s BURST_ALLOC_ADD_LO.ID id) BURST_ALLOC_ADD_LO.OWNER owner) BURST_ALLOC_ADD_HI.KEY key
      let s2 := addAlloc s1 id owner key
      let r := rd s2 BURST_ALLOC_ADD_HI.RESULT
      if r = 1 then replyTo s2 0x0B m.seq 0 0 0 else replyTo s2 0x0B m.seq 3 r 0
  else replyTo s 0x0B m.seq 2 0 0

def execAssignAlloc (s : State) : Host.Outcome State Fault Refusal := .next (onMsg 0x0B assignAlloc (fresh s))

def removeAlloc (m : Msg) (s : State) : State :=
  if readyOk s then
    match slotOf s (beAt m.body 0 2) with
    | some n => replyTo (removeSlot s n) 0x0C m.seq 0 0 0
    | none => replyTo s 0x0C m.seq 7 0 0
  else replyTo s 0x0C m.seq 2 0 0

def execRemoveAlloc (s : State) : Host.Outcome State Fault Refusal := .next (onMsg 0x0C removeAlloc (fresh s))

def activate (m : Msg) (s : State) : State :=
  if joinAt s 6 ∧ flag s FRM_EXT_REF_HI.REF_VALID ∧ flag s JOIN_TEND_SLOTS.VALID then
    enterService (replyTo s 0x0D m.seq 0 0 0)
  else replyTo s 0x0D m.seq 2 0 0

def execActivate (s : State) : Host.Outcome State Fault Refusal := .next (judgeAsk (onMsg 0x0D activate (fresh s)))

/-! ### In service (R201 to R204) -/

/-- In part DEDUCED, log entry 21. -/
def switchTree (m : Msg) (s : State) : State :=
  let t := beAt m.body 0 1
  if t ≠ 1 ∧ t ≠ 2 then replyTo s 0x0F m.seq 1 0 0
  else if forceOf s ≠ 0 then replyTo s 0x0F m.seq 4 0 0
  else if losOn s (t - 1) then replyTo s 0x0F m.seq 6 0 0
  else if t - 1 = connNo s then replyTo s 0x0F m.seq 0 0 0
  else replyTo { s with join := { s.join with swTarget := some (t - 1), swGrant := false } } 0x0F m.seq 0 0 1

def execSwitchTree (s : State) : Host.Outcome State Fault Refusal := .next (onMsg 0x0F switchTree (fresh s))

/-- 1 ms after a SWITCH_TREE: the switch is made if no grant to DEV_ALLOC has arrived (R201). (In part DEDUCED, log entry 21.) -/
def switchLate (s : State) : State :=
  match s.join.swTarget with
  | none => s
  | some c =>
    if s.join.swGrant || grantToDev s then s
    else { s with line := { s.line with switchCmd := some c }, join := { s.join with swTarget := none } }

def execSwitchTreeTimeout (s : State) : Host.Outcome State Fault Refusal := .next (switchLate (fresh s))

def tribQuery (m : Msg) (s : State) : State :=
  let ready : Bool := flag s TRELLIS_CTRL.READY && !flag s TRELLIS_STATUS.WR_REFUSED && beAt m.body 0 1 = 1 - rd s TRELLIS_STATUS.ACTIVE
  replyTo s 0x10 m.seq 0 (b2n ready) 0

def execTribQuery (s : State) : Host.Outcome State Fault Refusal := .next (onMsg 0x10 tribQuery (fresh s))

/-- DEACTIVATE: a hold, and a cold reset into LISTEN (R170, R203). -/
def deactivate (m : Msg) (s : State) : State :=
  let s1 := setFlag (leaveCold s 8) JOIN_STATUS.HOLD true
  let s2 := { s1 with join := { s1.join with holdMs := beAt m.body 0 2 } }
  if m.tid = 4095 then s2 else keepAnswer s2 0x11 m.seq none

def execDeactivate (s : State) : Host.Outcome State Fault Refusal := .next (judgeAsk (onMsg 0x11 deactivate (fresh s)))

/-- A deactivation hold ends (R203). -/
def endHold (s : State) : State := listenCheck (setFlag s JOIN_STATUS.HOLD false)

def execDeactivateHoldExpiry (s : State) : Host.Outcome State Fault Refusal :=
  let t := fresh s
  .next (if flag t JOIN_STATUS.HOLD && t.join.holdMs ≠ 0xFFFF then endHold t else t)

def execJoinRelease (s : State) : Host.Outcome State Fault Refusal :=
  .next (endHold (setFlag (fresh s) JOIN_CTRL.RELEASE false))

/-- JOIN_CTRL.ENABLE written 0 (R170). (In part DEDUCED, log entry 21.) -/
def enableClear (s : State) : State :=
  let s1 := setFlag s JOIN_CTRL.ENABLE false
  if mode s1 = 3 then wr (joinListen (coldReset s1)) JOIN_STATUS.LAST_EXIT 12 else s1

def execJoinEnableClear (s : State) : Host.Outcome State Fault Refusal := .next (enableClear (fresh s))

/-! ### Timers (R170) -/

def execIdentifiedTimeout (s : State) : Host.Outcome State Fault Refusal :=
  let t := fresh s
  .next (if joinAt t 2 then wr (joinDiscover t) JOIN_STATUS.LAST_EXIT 1 else t)

/-- A timer of JOIN state `st` that ends in a cold reset. -/
def stateTimeout (st exit : Nat) (s : State) : State := if joinAt s st then joinRestart s exit else s

def execRangingTimeout (s : State) : Host.Outcome State Fault Refusal := .next (stateTimeout 3 2 (fresh s))

def execDcRangingTimeout (s : State) : Host.Outcome State Fault Refusal := .next (stateTimeout 4 3 (fresh s))

def execKeyingTimeout (s : State) : Host.Outcome State Fault Refusal := .next (stateTimeout 5 4 (fresh s))

def execReadyTimeout (s : State) : Host.Outcome State Fault Refusal := .next (stateTimeout 6 5 (fresh s))

/-! ### Rekeying (R204) -/

/-- A REKEY_REQUEST of an entry is sent and counted. -/
def sendRekey (s : State) (r : Rekey) : State :=
  let s1 := sendTend s true 0x44 (beBytes 2 r.slot ++ beBytes 1 r.cause ++ List.replicate 5 0) 0
  { s1 with join := { s1.join with rekeys := { r with count := r.count + 1 } :: s1.join.rekeys.filter fun x => x.slot ≠ r.slot } }

/-- A key slot that an allocation ID or JOIN_TEND_SLOTS uses has been sealed: the request, or the wait that ends in JOIN. -/
def beginRekey (s : State) (slot cause : Nat) : State :=
  let valid := flag s JOIN_TEND_SLOTS.VALID
  let used : Bool := (List.range 256).any fun n => flag s (ALLOC_LO.VALID n) && rd s (ALLOC_HI.KEY n) = slot
  if valid && slot = rd s JOIN_TEND_SLOTS.UP then { s with join := { s.join with sealWait := true } }
  else if used || (valid && slot = rd s JOIN_TEND_SLOTS.DOWN) then sendRekey s { slot := slot, cause := cause, count := 0 }
  else s

/-- Every 10 ms: the request again, or a fault after 100 of them. -/
def rekeyRepeat (slot : Nat) (s : State) : State :=
  match s.join.rekeys.find? fun r => r.slot = slot with
  | none => s
  | some r =>
    if 100 ≤ r.count then
      raise { s with join := { s.join with rekeys := s.join.rekeys.filter fun x => x.slot ≠ slot } }
        { kind := 16, scope := .dev, arg := 0 }
    else sendRekey s r

def execRekeyRequestRepeat (slot : Nat) (s : State) : Host.Outcome State Fault Refusal := .next (rekeyRepeat slot (fresh s))

/-- 100 ms after TEND_SLOT_UP was sealed: a cold reset, and JOIN. -/
def tendUpReset (s : State) : State :=
  if s.join.sealWait then
    if inService s then enterJoinCold s (rd s JOIN_STATUS.LAST_EXIT)
    else if mode s = 3 then joinListen (coldReset s)
    else s
  else s

def execTendUpSealedReset (s : State) : Host.Outcome State Fault Refusal := .next (judgeAsk (tendUpReset (fresh s)))

end Sys2Proof.Machine
end

