-- ==== Sys2Proof/Machine/Cipher.lean ====
section
/-!
DEFINITION. The commands of the cipher engines and the key vault (R329 to R346).
-/

namespace Sys2Proof.Machine

/-! ### Pods (R330 to R335, R339, R344) -/

/-- A parser stage or reshuffler of channel k's tile is fenced without a spare (R428). (In part DEDUCED, log entry 24.) -/
def tileGone (s : State) (k : Nat) : Bool :=
  s.rake.unserved.any fun f =>
    (f.unit.cls = .parser || f.unit.cls = .reshuf) && f.unit.idx / 16 = 4 * (k / 2) + k % 2

/-- One encrypted pod at the downstream engine of row g: the checks of R333, then its plaintext. -/
def decryptPod (g : Nat) (p : DnPod) (s : State) : State :=
  let v := beNat p.hdr
  let tid := bits v 68 12
  let tend := bits v 64 4 = 3
  let key := bits v 50 14
  let bed := slotBed s key
  if p.body.length < 16 then bump s (CIPHER_DNX.SHORT g) 1
  else if !p.extOk then bump s (CIPHER_DNX.NO_EXT g) 1
  else if engGone s g false || !decUsable s key (logicalEng g false) tend then bump s (CIPHER_DN.NO_KEY g) 1
  else
    let r := invoke s key (logicalEng g false) p.k
    if !r.1 then bump r.2 (CIPHER_DN.NO_KEY g) 1
    else
      match gcmDec (slotAt s key).key (ivOf tid false p.k p.ext (bits v 32 16)) (p.hdr.take 8) p.body with
      | none => bump r.2 (CIPHER_DN.AUTH_FAIL g) 1
      | some pt =>
        if tend then tendPod r.2 tid key (p.ext % 2 ^ 32) true pt
        else if tileGone s p.k then r.2
        else podFrames r.2 p.k bed pt

/-- The next pod that waits for row g's downstream engine. (In part DEDUCED, log entry 24.) -/
def decryptNext (g : Nat) (s : State) : State :=
  match s.cipher.input.get g [] with
  | [] => s
  | p :: r => decryptPod g p { s with cipher := { s.cipher with input := s.cipher.input.set g r [] } }

def execPodDecrypt (g : Nat) (s : State) : Host.Outcome State Fault Refusal := .next (decryptNext g (fresh s))

/-- A burst in the list replaced by what `f` makes of it, at the first place where `p` holds. -/
def updFirst (p : Burst → Bool) (x : Burst) (l : List Burst) : List Burst :=
  match l with
  | [] => []
  | b :: r => if p b then x :: r else b :: updFirst p x r

/-- Of the frames of a burst, those of its first pod that waits, and the others. -/
def firstFrames (l : List UpPod) (fs : List UpFrame) : List UpFrame × List UpFrame :=
  match l with
  | [] => ([], fs)
  | p :: r =>
    if p.done then ((firstFrames r (fs.drop p.frames)).1, fs.take p.frames ++ (firstFrames r (fs.drop p.frames)).2)
    else (fs.take p.frames, fs.drop p.frames)

/-- The next pod of channel k passes its engine. The frames of a pod that goes out idle are lost, and their charge ends
(R300, R344). (In part DEDUCED, log entry 24.) -/
def encryptNext (k : Nat) (s : State) : State :=
  let waits (b : Burst) : Bool := b.grant.ch = k && b.pods.any fun p => !p.done
  match s.burst.bursts.find? waits with
  | none => s
  | some b =>
    let r := encryptPods 1 b.grant b.pods s
    let lost : Bool := b.pods.countP (fun p => p.ty = 0) < r.1.countP (fun p => p.ty = 0)
    let fs := if lost then firstFrames b.pods b.frames else ([], b.frames)
    let s1 := freeUpAll r.2 fs.1
    { s1 with burst := { s1.burst with bursts := updFirst waits { b with pods := r.1, frames := fs.2 } s1.burst.bursts } }

def execPodEncrypt (k : Nat) (s : State) : Host.Outcome State Fault Refusal := .next (encryptNext k (fresh s))

/-! ### Loads (R337, R340 to R342) -/

/-- A write of CIPHER_LOAD_CTRL by firmware. -/
def cipherLoadStore (v : Word) (s : State) : State :=
  if flag s CIPHER_LOAD_CTRL.GO then s
  else
    let s1 := wr (wr s CIPHER_LOAD_CTRL.SLOT (fldOf CIPHER_LOAD_CTRL.SLOT v)) CIPHER_LOAD_CTRL.USE (fldOf CIPHER_LOAD_CTRL.USE v)
    if fldSet CIPHER_LOAD_CTRL.GO v then
      issueLoad s1 { slot := rd s1 CIPHER_LOAD_CTRL.SLOT, use := rd s1 CIPHER_LOAD_CTRL.USE, msg := none
                     wrapped := (List.range 10).flatMap fun i => beBytes 4 (rd s1 (CIPHER_LOAD_W.WRAPPED i)) }
    else s1

/-- A write of CIPHER_LOAD_W_i by firmware. -/
def cipherWordStore (i : Nat) (v : Word) (s : State) : State :=
  if flag s CIPHER_LOAD_CTRL.GO then s else wr s (CIPHER_LOAD_W.WRAPPED i) v.toNat

/-- Only firmware reaches the load registers (R341). -/
def forFirmware (src : Src) (s : State) (k : State → State) : State :=
  match src with
  | .trowel _ => k s
  | .pf (f + 1) => hole s (f + 1)
  | _ => s

def execCipherLoad (src : Src) (v : Word) (s : State) : Host.Outcome State Fault Refusal :=
  .next (forFirmware src (fresh s) (cipherLoadStore v))

/-- The physical engine that serves a place; the place's own number when none does. -/
def cipherUnit (s : State) (place : Nat) : Nat :=
  (firstBelow (64 + spares s) fun i => servesOf s { cls := .cipher, idx := i } = some place).getD place

/-- The oldest load ends: the new key is in every engine, or its distribution over the Flalon bus has failed at an engine
of row g (status 5, and a fault of kind 9). -/
def loadEnd (ok : Bool) (g : Nat) (up : Bool) (s : State) : State :=
  match s.cipher.loads with
  | [] => s
  | l :: r =>
    let s1 := { s with cipher := { s.cipher with loads := r } }
    drainLoads s.cipher.wait <| if ok then
      let s2 := endLoad (switchKey s1 l) l 0
      if l.tending then
        if l.use = 0 then wr s2 JOIN_TEND_SLOTS.DOWN l.slot
        else setFlag (wr s2 JOIN_TEND_SLOTS.UP l.slot) JOIN_TEND_SLOTS.VALID true
      else s2
    else
      let place := logicalEng g up
      endLoad (raise s1 { kind := 9, scope := .row g, arg := b2n up, loc := cipherUnit s place }) l 5

def execCipherLoadComplete (ok : Bool) (g : Nat) (up : Bool) (s : State) : Host.Outcome State Fault Refusal :=
  .next (loadEnd ok g up (fresh s))

/-! ### Key slots (R336 to R343) -/

/-- SEAL and ERASE of CIPHER_SLOT_CMD act on the selected slot. -/
def slotSeal (v : Word) (s : State) : State :=
  if fldSet CIPHER_SLOT_CMD.SEAL v then sealSlot s (rd s CIPHER_SLOT_SEL.SLOT) 3 else s

def slotErase (v : Word) (s : State) : State :=
  if fldSet CIPHER_SLOT_CMD.ERASE v then eraseSlot s (rd s CIPHER_SLOT_SEL.SLOT) else s

def execCipherSeal (src : Src) (v : Word) (s : State) : Host.Outcome State Fault Refusal :=
  .next (forPf0 src (fresh s) (slotSeal v))

def execCipherErase (src : Src) (v : Word) (s : State) : Host.Outcome State Fault Refusal :=
  .next (forPf0 src (fresh s) (slotErase v))

/-- CIPHER_SLOT_STATE of the selected slot (R336). -/
def slotWord (s : State) : Nat :=
  let n := rd s CIPHER_SLOT_SEL.SLOT
  let x := slotAt s n
  let pend := s.cipher.loads.any fun l => l.slot = n
  x.st * 2 ^ 30 + b2n pend * 2 ^ 29 + b2n x.tending * 2 ^ 28 + x.use * 2 ^ 26 + x.cause * 2 ^ 24

/-- A read of CIPHER_SLOT_STATE: the word, and the slot's INV and MASK latched. -/
def slotStateRead (s : State) : Word × State :=
  let x := slotAt s (rd s CIPHER_SLOT_SEL.SLOT)
  let s1 := wr (wr s CIPHER_SLOT_INV_LO.INV_LO x.count) CIPHER_SLOT_INV_HI.INV_HI (x.count / 2 ^ 32)
  (BitVec.ofNat 32 (slotWord s), wr (wr s1 CIPHER_SLOT_MASK_LO.MASK_LO x.mask) CIPHER_SLOT_MASK_HI.MASK_HI (x.mask / 2 ^ 32))

def execCipherSlotStateRead (s : State) : Host.Outcome State Fault Refusal :=
  let r := slotStateRead (fresh s)
  .next { r.2 with readData := r.1 }

/-- Firmware's sweep when the log has lost entries: every SEALED slot in use gets its request (R343). (In part DEDUCED, log entry 24.) -/
def rekeyLost (s : State) : State :=
  if rd s CIPHER_SEAL_STAT.LOST = 0 then s
  else (s.cipher.slots.filter fun e => e.2.st = 2).foldl (fun t e =>
    if t.join.rekeys.any fun r => r.slot = e.1 then t else beginRekey t e.1 e.2.cause) (wr s CIPHER_SEAL_STAT.LOST 0)

/-- A read of CIPHER_SEAL_POP by firmware or not: the word and the state without the oldest entry. Firmware begins the
rekey of R204 for the entry that it pops. -/
def sealPop (fw : Bool) (s : State) : Word × State :=
  match s.cipher.sealLog with
  | [] => (0, if fw then rekeyLost s else s)
  | (n, c) :: r =>
    let s1 := { s with cipher := { s.cipher with sealLog := r } }
    (BitVec.ofNat 32 (2 ^ 31 + c * 2 ^ 16 + n), if fw then rekeyLost (beginRekey s1 n c) else s1)

/-- Is the source Trowel firmware? -/
def isFirmware (src : Src) : Bool :=
  match src with
  | .trowel _ => true
  | _ => false

def execCipherSealPop (src : Src) (s : State) : Host.Outcome State Fault Refusal :=
  .next (forPf0 src (fresh s) fun t => { (sealPop (isFirmware src) t).2 with readData := (sealPop (isFirmware src) t).1 })

/-! ### Grafts (R345) -/

/-- A spare engine takes over for row g: downstream at a segment boundary, upstream while neither of the row's upstream
channels has a burst in progress, the guard that opens a burst being a gap (R84). -/
def cipherMove (g : Nat) (up : Bool) (s : State) : State :=
  let place := logicalEng g up
  if s.cipher.grafts.contains place && !(up && (emitting s (2 * g) || emitting s (2 * g + 1))) then
    match s.rake.grafts.find? fun x => x.ready && x.unit.cls = .cipher && x.serves = place with
    | some x => finishGraft s x
    | none => s
  else s

def execCipherGraftSwitchover (g : Nat) (up : Bool) (s : State) : Host.Outcome State Fault Refusal :=
  .next (cipherMove g up (fresh s))

end Sys2Proof.Machine
end

