-- ==== Sys2Proof/Machine/Framer.lean ====
section
/-!
DEFINITION. The commands of the framer and the Trellis (chapter 03).
-/

namespace Sys2Proof.Machine

/-- The next decoded segment of channel k steps its Hunt (R94). -/
def huntNext (k : Nat) (s : State) : State :=
  let r := rxOf s k
  match r.inbox with
  | [] => s
  | g :: rest =>
    if lineUp s ∧ k < chans s then huntStep (putRx s k { r with inbox := rest }) k g else putRx s k { r with inbox := rest }

def execHuntSegment (k : Nat) (s : State) : Host.Outcome State Fault Refusal := .next (judgeAsk (huntNext k (fresh s)))

/-- A write of FRM_EXT_REF_HI; LOAD applies the reference (R101). -/
def extRefStore (v : Word) (s : State) : State :=
  let s1 := wr s FRM_EXT_REF_HI.REF_HI (fldOf FRM_EXT_REF_HI.REF_HI v)
  if fldSet FRM_EXT_REF_HI.LOAD v then
    loadRef s1 (rd s1 FRM_EXT_REF_HI.REF_HI * 2 ^ 32 + rd s1 FRM_EXT_REF_LO.REF_LO)
  else s1

def execExtRefLoad (v : Word) (s : State) : Host.Outcome State Fault Refusal := .next (extRefStore v (fresh s))

/-- A read of FRM_EXT_LO_k: EXT[31:0], with EXT[47:32] latched into FRM_EXT_HI_k. -/
def extLoRead (k : Nat) (s : State) : Word × State :=
  if k < chans s then
    let e := (huntOf s k).ext
    (BitVec.ofNat 32 e, wr s (FRM_EXT_HI.EXT_HI k) (e / 2 ^ 32))
  else (0, s)

def execFrmExtLoRead (k : Nat) (s : State) : Host.Outcome State Fault Refusal :=
  let r := extLoRead k (fresh s)
  .next { r.2 with readData := r.1 }

/-! ### Pods (R112 to R120) -/

/-- Do payload bytes lo to hi - 1 touch an uncorrectable codeword? Codeword c covers payload bits 5,140·c to 5,140·c + 5,139
(R87). -/
def touches (bad : List Nat) (lo hi : Nat) : Bool :=
  lo < hi && bad.any fun c => 5140 * c < 8 * hi && 8 * lo < 5140 * (c + 1)

/-- A taken pod that is whole: to the Trellis, to the cipher engine of its row, or to firmware (R114). (In part DEDUCED, log entry 39.) -/
def routePod (s : State) (k ty tid key index : Nat) (hdr body : List Byte) (a : PodArea) : State :=
  let h := huntOf s k
  if ty = 4 then
    let g := index % 1024
    if h.groups.contains (a.fc, g) then s
    else
      let p : TribPod := { fc := a.fc, k := k, group := g, body := body.take 8192 }
      { putHunt s k { h with groups := (a.fc, g) :: h.groups } with
        trellis := { s.trellis with input := s.trellis.input ++ [p] } }
  else if ty = 2 then tendPod s tid key a.fc false body
  else if h.seen.contains (a.fc, key, index) then bump s (FRM_PODX.INDEX_DUP k) 1
  else
    let p : DnPod := { k := k, hdr := hdr, body := body, ext := a.ext, extOk := a.extOk }
    let s1 := putHunt s k { h with seen := (a.fc, key, index) :: h.seen }
    { s1 with cipher := { s1.cipher with input := s1.cipher.input.upd (k / 2) [] (· ++ [p]) } }

/-- The next pod of channel k's first waiting pod area. (In part DEDUCED, log entry 39.) -/
def takePod (k : Nat) (s : State) : State :=
  let h := huntOf s k
  match h.areas with
  | [] => s
  | a :: rest =>
    let o := a.off
    let drop := putHunt s k { h with areas := rest }
    if 50115 < o + 10 then drop
    else
      let hdr := slice a.payload o 10
      let v := beNat hdr
      let len := bits v 16 16
      let stop := o + 10 + len
      if touches a.bad o (o + 10) ∨ crc16 (hdr.take 8) ≠ bits v 0 16 ∨ 50115 < stop then bump drop (FRM_POD.DELIN k) 1
      else
        let s1 := putHunt s k { h with areas := { a with off := stop } :: rest }
        let tid := bits v 68 12
        let ty := bits v 64 4
        let mine := tid = 4095 ∨ (flag s JOIN_TID.VALID ∧ tid = rd s JOIN_TID.TID)
        if ¬ mine ∨ ty = 0 then s1
        else if touches a.bad (o + 10) stop then bump s1 (FRM_POD.ERRORED k) 1
        else if 5 ≤ ty then bump s1 (FRM_PODX.TYPE_UNK k) 1
        else routePod s1 k ty tid (bits v 50 14) (bits v 32 16) hdr (slice a.payload (o + 10) len) a

def execPodDelineate (k : Nat) (s : State) : Host.Outcome State Fault Refusal := .next (takePod k (fresh s))

/-! ### The Trellis (R120 to R127) -/

/-- The 8 bytes of output slot o of frame f, none for all-ones (R124). (In part DEDUCED, log entry 39.) -/
def trellisSlot (s : State) (f : TrellisFrame) (o : Nat) : Option (List Byte) :=
  let p := f.page
  let k := rd s (TRELLIS_CONN.CHANNEL p o)
  let h := huntOf s k
  let j := rd s (TRELLIS_CONN.SLOT p o)
  if f.miss || !flag s (TRELLIS_CONN.VALID p o) || !(h.sync1 == some f.fc || h.sync2 == some f.fc) then none
  else
    match s.trellis.input.find? fun x => x.fc = f.fc && x.k = k && x.group = rd s (TRELLIS_CONN.GROUP p o) with
    | none => none
    | some x => if 8 * j + 8 ≤ x.body.length then some (slice x.body (8 * j) 8) else none

/-- The header of R525 on port P. -/
def tplHeader (s : State) (t P : Nat) : List Byte :=
  let tag : List Byte := if flag s (HL_TPL_TAG.VLAN_EN t) then
      beBytes 2 0x8100 ++ beBytes 2 (rd s (HL_TPL_TAG.PCP t) * 8192 + rd s (HL_TPL_TAG.VID t))
    else []
  beBytes 2 (rd s (HL_TPL_DA_HI.DA_HI t)) ++ beBytes 4 (rd s (HL_TPL_DA_LO.DA_LO t)) ++ portMac s P ++ tag ++ beBytes 2 (rd s (HL_TPL_DA_HI.ETYPE t))

/-- The frame of tributary t for frame f (R122, R123, R320). (In part DEDUCED, log entry 39.) -/
def tribFrame (f : TrellisFrame) (s : State) (t : Nat) : State :=
  let p := f.page
  let base := rd s (TRELLIS_TRIB.BASE p t)
  let last := base + rd s (TRELLIS_TRIB.COUNT_M1 p t)
  if flag s (TRELLIS_TRIB.ENABLE p t) && last ≤ 4095 then
    let slots := (List.range (last - base + 1)).map fun i => trellisSlot s f (base + i)
    let s1 := if slots.any (·.isNone) then bump s (TRELLIS_AIS.COUNT t) 1 else s
    let g := rd s (TRELLIS_TRIB.GROW p t)
    let P := 8 * g + rd s (TRELLIS_TRIB.PORT p t)
    if rows s ≤ g ∨ portFormed s P = false then bump s1 TRELLIS_DROP.NOPORT 1
    else if portUpNow s P = false then bump s1 TRELLIS_DROP.DOWN 1
    else
      let body := slots.flatMap fun x => x.getD (List.replicate 8 0xFF)
      let l := tplHeader s (rd s (TRELLIS_TRIB.TEMPLATE p t)) P ++ beBytes 2 t ++ beBytes 2 f.ext ++ body
      let s2 := if s1.sched.trib.has t then bump s1 (SCHED_DN_PORT_DROP.TRIB_REPL P) 1 else s1
      { s2 with sched := { s2.sched with trib := s2.sched.trib.insert t (P, l) } }
  else s

/-- 500 ns after frame F + 1 began: the Trellis emits for frame F (R122). (In part DEDUCED, log entry 39.) -/
def emitTrellis (s : State) : State :=
  match s.trellis.prev with
  | none => s
  | some f =>
    let s1 := if flag s TRELLIS_CTRL.ENABLE then (List.range 256).foldl (tribFrame f) s else s
    { s1 with trellis := { s1.trellis with
        prev := none
        input := s1.trellis.input.filter fun x => 0 < signed32 x.fc f.fc } }

def execTrellisEmit (s : State) : Host.Outcome State Fault Refusal := .next (emitTrellis (fresh s))

/-- A write of TRELLIS_CONN_p_i or TRELLIS_TRIB_p_i (R127). -/
def pageStore (p : Nat) (trib : Bool) (i : Nat) (v : Word) (s : State) : State :=
  let fs : List Fld := if trib then
      [TRELLIS_TRIB.ENABLE p i, TRELLIS_TRIB.GROW p i, TRELLIS_TRIB.PORT p i, TRELLIS_TRIB.TEMPLATE p i, TRELLIS_TRIB.BASE p i,
       TRELLIS_TRIB.COUNT_M1 p i]
    else [TRELLIS_CONN.VALID p i, TRELLIS_CONN.CHANNEL p i, TRELLIS_CONN.GROUP p i, TRELLIS_CONN.SLOT p i]
  if p < 2 ∧ i < (if trib then 256 else 4096) then
    if p = rd s TRELLIS_STATUS.ACTIVE then setFlag s TRELLIS_STATUS.WR_REFUSED true
    else setFlag (writeFlds s fs v) TRELLIS_CTRL.READY false
  else s

def execTrellisPageWrite (p : Nat) (trib : Bool) (i : Nat) (v : Word) (s : State) : Host.Outcome State Fault Refusal :=
  .next (pageStore p trib i v (fresh s))

end Sys2Proof.Machine
end

