-- ==== Sys2Proof/Machine/Flash.lean ====
section
/-!
DEFINITION. The fuses (R477) and the flash commands (R478).
-/

namespace Sys2Proof.Machine

/-! ### Flash memory (R465, R466) -/

/-- A byte of the flash; an unlisted byte is erased. (In part DESIGN CHOICE, log entry 8.) -/
def flashByte (s : State) (a : Nat) : Byte := s.boot.flash.get a 0xFF

/-- `n` bytes of the flash from address `a` on. -/
def flashBytes (s : State) (a n : Nat) : List Byte := (List.range n).map fun i => flashByte s (a + i)

/-- A read of `n` bytes from `a` on in the mode of the bus, at half the clock rate on a repeat (R465, R472); the 8D
opcode goes with its complement (R467). -/
def FlashBus.readAt (b : FlashBus) (half : Bool) (a n : Nat) : FlashOp :=
  if b.octal then { octal := true, mhz := if half then 100 else 200, op := b.readOp, opx := some (255 - b.readOp), addr := some a, dummy := b.dummy, read := n }
  else { mhz := if half then 25 else 50, op := 0x13, addr := some a, read := n }

/-- Write enable. -/
def writeEnable : FlashOp := { mhz := 50, op := 0x06 }

/-- The first byte of bank A (0) or B (1), and the size of a bank. -/
def bankBase (b : Nat) : Nat := if b = 0 then 0x400000 else 0x2000000
def bankSize : Nat := 0x1C00000

/-- Do two ranges, each a start and a length, share a byte? -/
def overlap (a n b m : Nat) : Bool := a < b + m && b < a + n

/-- An image runs: step 6 of R464 has completed. -/
def imageRuns (s : State) : Bool := rd s BOOT_STATUS.STATE = 4

/-! ### Flash commands (R478) -/

/-- Where a command acts: erases round their address down. -/
def FlashCmd.start (c : FlashCmd) : Nat := if c.op = 2 then c.addr / 4096 * 4096 else if c.op = 3 then c.addr / 65536 * 65536 else c.addr
def FlashCmd.size (c : FlashCmd) : Nat := if c.op = 2 then 4096 else if c.op = 3 then 65536 else c.len

/-- Does a program or erase touch a range? -/
def FlashCmd.touches (c : FlashCmd) (b m : Nat) : Bool := overlap c.start c.size b m

/-- The RESULT that refuses a command, 0 for one that goes to the flash. (In part DESIGN CHOICE, log entry 28.) -/
def flashVerdict (s : State) (c : FlashCmd) : Nat :=
  if !imageRuns s then 3
  else if 3 < c.op then 5
  else if c.op = 0 then 0
  else if c.touches (bankBase (rd s BOOT_STATUS.RUN_BANK)) bankSize then 2
  else if s.boot.live.isSome && c.touches (bankBase (rd s BOOT_LIVE.BANK)) bankSize then 2
  else if c.trw then (if 0x10000 ≤ c.start ∧ c.start + c.size ≤ 0x400000 then 0 else 2)
  else if c.touches 0x10000 0x3F0000 then 2
  else 0

/-- The command buffer. -/
def flashBuf (s : State) (n : Nat) : List Byte :=
  ((List.range 64).flatMap fun i => leBytes 4 (rd s (BOOT_FLASH_DATA.V i))).take n

/-- The command buffer with `l` from its first byte on. -/
def setFlashBuf (s : State) (l : List Byte) : State :=
  let all := l ++ (flashBuf s 256).drop l.length
  (List.range 64).foldl (fun t i => wr t (BOOT_FLASH_DATA.V i) (leAt all (4 * i) 4)) s

/-- The waiting commands `l` are taken in order until one goes to the flash: a read, or write enable before a program or an
erase. (In part DESIGN CHOICE, log entry 28.) -/
def flashNext (s : State) (l : List FlashCmd) : State :=
  match l with
  | [] => setFlag { s with boot := { s.boot with wait := [] } } BOOT_FLASH_CMD.GO false
  | c :: r =>
    let v := flashVerdict s c
    if v = 0 then
      let s1 := { s with boot := { s.boot with cmd := some { c with data := flashBuf s c.len }, wait := r } }
      emit (setFlag s1 BOOT_FLASH_CMD.GO true) (.xspi (if c.op = 0 then s.boot.bus.readAt false c.addr c.len else writeEnable))
    else flashNext (wr s BOOT_FLASH_CMD.RESULT v) r

/-- A write of BOOT_FLASH_CMD. (In part DESIGN CHOICE, log entry 28.) -/
def flashCmdStore (src : Src) (v : Word) (s : State) : State :=
  let s1 := wr (wr s BOOT_FLASH_CMD.OP (fldOf BOOT_FLASH_CMD.OP v)) BOOT_FLASH_CMD.LEN (fldOf BOOT_FLASH_CMD.LEN v)
  if !fldSet BOOT_FLASH_CMD.GO v then s1
  else
    let trw : Bool := match src with
      | .trowel _ => true
      | _ => false
    let c : FlashCmd :=
      { trw := trw, op := fldOf BOOT_FLASH_CMD.OP v, addr := rd s BOOT_FLASH_ADDR.ADDR
        len := clampNat 1 256 (fldOf BOOT_FLASH_CMD.LEN v), data := [] }
    if s1.boot.cmd.isSome then { s1 with boot := { s1.boot with wait := s1.boot.wait ++ [c] } } else flashNext s1 [c]

/-- The bytes of the flash replaced, byte i from address `a` on by `f i`. (In part DESIGN CHOICE, log entry 8; DESIGN CHOICE, log entry 28.) -/
def flashPut (s : State) (a n : Nat) (f : Nat → Byte) : State :=
  { s with boot := { s.boot with flash := (List.range n).foldl (fun t i => t.set (a + i) (f i) 0xFF) s.boot.flash } }

/-- The command has ended; the next one that waits is taken. (In part DESIGN CHOICE, log entry 4; DESIGN CHOICE, log entry 28.) -/
def flashEnd (s : State) (r : Nat) : State :=
  let s1 := wr { s with boot := { s.boot with cmd := none } } BOOT_FLASH_CMD.RESULT r
  flashNext s1 s1.boot.wait

/-- Byte `i` of a free value. (In part DESIGN CHOICE, log entry 28.) -/
def freeByte (s : State) (n i : Nat) : Byte := BitVec.ofNat 8 (freeBelow s (256 ^ n) / 256 ^ i)

/-- The flash reports ready: a read fills the buffer, a program writes its bytes, an erase leaves 0xFF. What a program
leaves in a byte that was not erased is a free value, and so is what a read past the last byte returns. -/
def flashReady (s : State) : State :=
  match s.boot.cmd with
  | none => s
  | some c =>
    let s1 := useFree s
    flashEnd
      (if c.op = 0 then
        setFlashBuf s1 ((List.range c.len).map fun i => if c.addr + i < 2 ^ 26 then flashByte s (c.addr + i) else freeByte s c.len i)
      else if c.op = 1 then
        flashPut s1 c.addr (min c.len (2 ^ 26 - c.addr)) fun i =>
          if flashByte s (c.addr + i) = 0xFF then c.data.getD i 0 else freeByte s c.len i
      else flashPut s1 c.start c.size fun _ => 0xFF) 1

def execFlashCommandComplete (s : State) : Host.Outcome State Fault Refusal := .next (flashReady (fresh s))

/-- The flash is not ready after 2 s: what the command has left in its range, or in the buffer, is free values. (In part DESIGN CHOICE, log entry 28.) -/
def flashLate (s : State) : State :=
  match s.boot.cmd with
  | none => s
  | some c =>
    let s1 := useFree s
    flashEnd
      (if c.op = 0 then setFlashBuf s1 ((List.range c.len).map (freeByte s c.len))
      else flashPut s1 c.start (min c.size (2 ^ 26 - c.start)) (freeByte s c.size)) 4

def execFlashTimeout (s : State) : Host.Outcome State Fault Refusal := .next (flashLate (fresh s))

def execFlashRead (src : Src) (v : Word) (s : State) : Host.Outcome State Fault Refusal :=
  .next (forPf0 src (fresh s) (flashCmdStore src v))

def execFlashProgram (src : Src) (v : Word) (s : State) : Host.Outcome State Fault Refusal :=
  .next (forPf0 src (fresh s) (flashCmdStore src v))

def execFlashErase4k (src : Src) (v : Word) (s : State) : Host.Outcome State Fault Refusal :=
  .next (forPf0 src (fresh s) (flashCmdStore src v))

def execFlashErase64k (src : Src) (v : Word) (s : State) : Host.Outcome State Fault Refusal :=
  .next (forPf0 src (fresh s) (flashCmdStore src v))

/-! ### Fuses (R477) -/

/-- ADVANCE. `ok` tells whether the fuse write succeeds; what a failed one leaves is a free value between the old floor
and the new. (In part DESIGN CHOICE, log entry 29.) -/
def fuseUp (ok : Bool) (s : State) : State :=
  let new := rd s BOOT_IMAGE.ROLLBACK
  let old := s.fuses.floor
  if !imageRuns s ∨ new ≤ old then wr s BOOT_FUSE.RESULT 2
  else
    let f := if ok then new else old + freeBelow s (new - old + 1)
    let s1 := { s with fuses := { s.fuses with floor := f }, freeCtr := if ok then s.freeCtr else s.freeCtr + 1 }
    wr (wr s1 BOOT_FUSE.FLOOR f) BOOT_FUSE.RESULT (if ok then 1 else 3)

/-- REVOKE of slot k. (In part DESIGN CHOICE, log entry 29.) -/
def fuseOff (k : Nat) (ok : Bool) (s : State) : State :=
  let live (i : Nat) : Bool := bitAt s.fuses.loaded i && !bitAt s.fuses.revoked i
  if (imageRuns s ∧ k = rd s BOOT_IMAGE.KEY_INDEX) ∨ (live k ∧ ∀ i ∈ List.range 4, live i → i = k) then wr s BOOT_FUSE.RESULT 2
  else
    let r := if ok ∨ freeBelow s 2 = 1 then Nat.lor s.fuses.revoked (2 ^ k) else s.fuses.revoked
    let s1 := { s with fuses := { s.fuses with revoked := r }, freeCtr := if ok then s.freeCtr else s.freeCtr + 1 }
    wr (wr s1 BOOT_FUSE.REVOKED r) BOOT_FUSE.RESULT (if ok then 1 else 3)

/-- A write of BOOT_FUSE: ADVANCE, then REVOKE. (In part DESIGN CHOICE, log entry 29.) -/
def fuseStore (v : Word) (ok : Bool) (s : State) : State :=
  let k := fldOf BOOT_FUSE.KEY v
  let s1 := wr s BOOT_FUSE.KEY k
  let s2 := if fldSet BOOT_FUSE.ADVANCE v then fuseUp ok s1 else s1
  if fldSet BOOT_FUSE.REVOKE v then fuseOff k ok s2 else s2

def execFuseAdvance (v : Word) (ok : Bool) (s : State) : Host.Outcome State Fault Refusal := .next (fuseStore v ok (fresh s))

def execFuseRevoke (v : Word) (ok : Bool) (s : State) : Host.Outcome State Fault Refusal := .next (fuseStore v ok (fresh s))

end Sys2Proof.Machine
end

