-- ==== Sys2Proof/Machine/Image.lean ====
section
/-!
DEFINITION. The directory and the seed image in flash, the check of a bank, the Trowel golden shadow, the restart of a
core, and the live apply (chapter 15, R349, R386).
-/

namespace Sys2Proof.Machine

/-! ### The directory (R467) -/

/-- Directory copy `i`: its SEQ and PREFER, where it is valid. -/
def dirCopy (s : State) (i : Nat) : Option (Nat × Nat) :=
  let d := flashBytes s (if i = 0 then 0 else 0x1000) 64
  if d.take 4 = ascii "SDIR" ∧ crc32c (d.take 60) = leAt d 60 4 then some (leAt d 4 4, if leAt d 8 1 = 1 then 1 else 0) else none

/-- The bus mode that directory copy `i` names (R467), and what sets the flash up for it. -/
def dirBus (s : State) (i : Nat) : FlashBus × List FlashOp :=
  let d := flashBytes s (if i = 0 then 0 else 0x1000) 64
  if leAt d 9 1 = 1 then
    ({ octal := true, readOp := leAt d 16 1, dummy := min 31 (leAt d 17 1) },
     if leAt d 10 1 = 0 then [] else [writeEnable, { mhz := 50, op := leAt d 10 1, addr := some (leAt d 12 4), data := [d.getD 11 0] }])
  else ({}, [])

/-- The reads of the two copies, at 25 MHz (R465). -/
def dirReads : List FlashOp := [0, 0x1000].map fun a => { mhz := 25, op := 0x13, addr := some a, read := 64 }

/-- The directory copy in use, if one is valid: its number and the bank that it prefers. (In part DEDUCED, log entry 30.) -/
def dirChoice (s : State) : Option (Nat × Nat) :=
  match dirCopy s 0, dirCopy s 1 with
  | some (q0, p0), some (q1, p1) => if 0 < signed32 q1 q0 then some (1, p1) else some (0, p0)
  | some (_, p0), none => some (0, p0)
  | none, some (_, p1) => some (1, p1)
  | none, none => none

/-! ### The image (R468 to R470) -/

/-- An entry of the section table. -/
structure ImgSec where
  ty : Nat
  arg : Nat
  rsv : Nat
  off : Nat
  len : Nat
  crc : Nat
  digest : List Byte
  deriving DecidableEq, Repr

/-- The header of the image in a bank. -/
def imgHdr (s : State) (b : Nat) : List Byte := flashBytes s (bankBase b) 256

/-- The number of sections. -/
def imgCount (s : State) (b : Nat) : Nat := leAt (imgHdr s b) 16 2

/-- The bytes of the header and of a table of n entries. -/
def imgHead (s : State) (b n : Nat) : List Byte := flashBytes s (bankBase b) (256 + 64 * n)

/-- Section entry i. -/
def imgSec (s : State) (b i : Nat) : ImgSec :=
  let e := flashBytes s (bankBase b + 256 + 64 * i) 64
  { ty := leAt e 0 1, arg := leAt e 1 1, rsv := leAt e 2 2, off := leAt e 4 4, len := leAt e 8 4, crc := leAt e 12 4, digest := e.drop 16 }

/-- The section table. -/
def imgSecs (s : State) (b : Nat) : List ImgSec := (List.range (imgCount s b)).map (imgSec s b)

/-- A section's bytes. -/
def secBytes (s : State) (b : Nat) (x : ImgSec) : List Byte := flashBytes s (bankBase b + x.off) x.len

/-- Check 3. (In part DEDUCED, log entry 30.) -/
def hdrOk (h : List Byte) : Bool :=
  h.take 4 = ascii "SEED" && leAt h 4 2 = 1 && leAt h 252 4 = crc32c (h.take 252) &&
    decide (leAt h 12 4 ≤ 29360128) && decide (1 ≤ leAt h 16 2) && decide (leAt h 16 2 ≤ 64) &&
    decide (leAt h 18 2 ≤ 1) && decide (leAt h 8 1 ≤ 7) && leAt h 20 4 = 0 && (slice h 129 123).all (· = 0) && decide (leAt h 11 1 ≤ 31)

/-- Check 4. -/
def hdrFits (s : State) (h : List Byte) : Bool :=
  leAt h 6 2 = 0x7720 && bitAt (leAt h 8 1) s.fuses.variant && decide (leAt h 9 1 ≤ rd s DEV_IDENT.STEPPING)

/-- Check 5. (In part DEDUCED, log entry 30.) -/
def keyOk (s : State) (h : List Byte) : Bool :=
  let k := leAt h 10 1
  decide (k < 4) && bitAt s.fuses.loaded k && !bitAt s.fuses.revoked k && s.fuses.keyHash.getD k 0 = beNat (sha384 (slice h 32 97))

/-- Check 7: the signature over the header and the table. -/
def sigOk (s : State) (b n : Nat) (h : List Byte) : Bool :=
  ecdsaVerify (slice h 32 97) (sha384 (imgHead s b n)) (flashBytes s (bankBase b + 256 + 64 * n) 96)

/-- A section entry within R469 and the limits of R470, its own part. -/
def secOk (n len : Nat) (x : ImgSec) : Bool :=
  x.rsv = 0 && x.off % 64 = 0 && decide (256 + 64 * n + 96 ≤ x.off) && decide (x.off + x.len ≤ len) &&
    (if x.ty = 3 ∨ x.ty = 4 then decide (x.arg < 12) else x.arg = 0) &&
    (match x.ty with
      | 1 => x.len = 32
      | 2 => x.len % 8 = 0
      | 3 => decide (x.len ≤ 0x40000) && x.len % 4 = 0
      | 4 => decide (x.len ≤ 0x80000)
      | 5 => decide (x.len ≤ 0x400000)
      | 6 => x.len % 32 = 0
      | 7 => x.len = 128
      | 8 => true
      | _ => false)

/-- How many sections satisfy `p`. -/
def countSec (p : ImgSec → Bool) (l : List ImgSec) : Nat := (l.filter p).length

/-- No two sections of the list share a byte. -/
def secsApart : List ImgSec → Bool
  | [] => true
  | x :: r => r.all (fun y => !overlap x.off x.len y.off y.len) && secsApart r

/-- Check 8. -/
def tableOk (n len : Nat) (l : List ImgSec) : Bool :=
  l.all (secOk n len) && secsApart l &&
    countSec (·.ty = 1) l = 1 && countSec (·.ty = 7) l = 1 && decide (countSec (·.ty = 5) l ≤ 1) &&
    decide (((l.filter (·.ty = 2)).map (·.len)).foldl (· + ·) 0 ≤ 8 * 8192) &&
    (List.range 12).all (fun c => decide (countSec (fun x => x.ty = 3 && x.arg = c) l ≤ 1)
      && decide (countSec (fun x => x.ty = 4 && x.arg = c) l ≤ 1)) &&
    countSec (fun x => x.ty = 3 && x.arg = 0) l = 1

/-- Checks 3 to 8 of a bank (R471): the number of the first that fails, or 1. -/
def authBank (s : State) (b : Nat) : Nat :=
  let h := imgHdr s b
  let n := imgCount s b
  if !hdrOk h then 3
  else if !hdrFits s h then 4
  else if !keyOk s h then 5
  else if leAt h 11 1 < s.fuses.floor then 6
  else if !sigOk s b n h then 7
  else if !tableOk n (leAt h 12 4) (imgSecs s b) then 8
  else 1

/-- How often a section's CRC fails (R472): at both reads where the flash holds other bytes, else at the `g` reads, 2 at most,
that come back wrong. -/
def crcMisses (s : State) (b g : Nat) (x : ImgSec) : Nat := if crc32c (secBytes s b x) ≠ x.crc then 2 else min 2 g

/-- Checks 9 and 10 of a bank's sections in table order (R472), from section i on; `g` tells of each section how many of its
reads come back wrong. -/
def checkSecs (s : State) (b : Nat) (g : Nat → Nat) (i : Nat) (l : List ImgSec) : Nat :=
  match l with
  | [] => 1
  | x :: r =>
    if crcMisses s b (g i) x = 2 then 9
    else if sha384 (secBytes s b x) ≠ x.digest then 10
    else checkSecs s b g (i + 1) r

/-- The whole check of a bank; `rdFail` tells that a flash read fails or times out. (In part DEDUCED, log entry 30.) -/
def checkReads (s : State) (b : Nat) (rdFail : Bool) (g : Nat → Nat) : Nat :=
  if rdFail then 2
  else
    let r := authBank s b
    if r = 1 then checkSecs s b g 0 (imgSecs s b) else r

/-- The check of a bank where the flash returns what it holds. (In part DEDUCED, log entry 30.) -/
def checkBank (s : State) (b : Nat) (rdFail : Bool) : Nat := checkReads s b rdFail fun _ => 0

/-- The sections that are read, in table order up to the first that fails, each with how often its CRC fails (R472). -/
def secsRead (s : State) (b : Nat) (g : Nat → Nat) (i : Nat) (l : List ImgSec) : List (ImgSec × Nat) :=
  match l with
  | [] => []
  | x :: r =>
    let m := crcMisses s b (g i) x
    (x, m) :: (if m = 2 ∨ sha384 (secBytes s b x) ≠ x.digest then [] else secsRead s b g (i + 1) r)

/-- The sections that the check of a bank reads when it gives `r`. -/
def bankSecs (s : State) (b r : Nat) (g : Nat → Nat) : List (ImgSec × Nat) :=
  if r = 1 ∨ 9 ≤ r then secsRead s b g 0 (imgSecs s b) else []

/-- The reads of a bank whose check gave `r`: the header, the table with the signature, the sections; one whose CRC fails is
read again at half the clock rate. (In part DEDUCED, log entry 30.) -/
def bankReads (s : State) (b r : Nat) (g : Nat → Nat) : List FlashOp :=
  let n := imgCount s b
  s.boot.bus.readAt false (bankBase b) 256 ::
    (if r = 2 ∨ r = 3 then []
     else s.boot.bus.readAt false (bankBase b + 256) (64 * n + 96) :: (bankSecs s b r g).flatMap fun x =>
       s.boot.bus.readAt false (bankBase b + x.1.off) x.1.len ::
         (if x.2 = 0 then [] else [s.boot.bus.readAt true (bankBase b + x.1.off) x.1.len]))

/-- Operations leave on the flash bus. -/
def sendOps (l : List FlashOp) (s : State) : State := l.foldl (fun t o => emit t (.xspi o)) s

/-- What the assist is left holding when a bank's signature has been verified through it (R471). -/
def bootVerify (b r : Nat) (s : State) : State :=
  if r = 1 ∨ 7 ≤ r then
    let n := imgCount s b
    let d0 := storeBytes s.p384.data 0 (slice (imgHdr s b) 32 97)
    let d1 := storeBytes (storeBytes d0 128 (sha384 (imgHead s b n))) 192 (flashBytes s (bankBase b + 256 + 64 * n) 96)
    { s with p384 := { s.p384 with data := d1, result := if r = 7 then 2 else 1 } }
  else s

/-- A bank is read and checked, with what the check leaves behind. -/
def readBank (b r : Nat) (g : Nat → Nat) (s : State) : State := sendOps (bankReads s b r g) (bootVerify b r s)

/-! ### What the image sets (R470, R473, R476) -/

/-- Bytes as a memory from address `a` on; an unlisted byte reads 0. -/
def memOf (a : Nat) (l : List Byte) : Table Byte :=
  match l with
  | [] => []
  | x :: r => if x = 0 then memOf (a + 1) r else (a, x) :: memOf (a + 1) r

/-- The Trowel sections of an image as a page of the golden shadow; sections of cores that the variant lacks are left out. -/
def pageOf (s : State) (b : Nat) : TrwPage :=
  let l := (imgSecs s b).filter fun x => decide (x.arg < cores s)
  { imem := (l.filter (·.ty = 3)).foldl (fun t x => t.insert x.arg (memOf 0 (secBytes s b x))) []
    dmem := (l.filter (·.ty = 4)).foldl (fun t x => t.insert x.arg (memOf 0 (secBytes s b x))) [] }

/-- The page that cores start from. -/
def activePage (s : State) : TrwPage := if s.boot.active = 0 then s.boot.page0 else s.boot.page1

/-- TREE_PARAMS. -/
def setTree (s : State) (d : List Byte) : State :=
  let s1 := { s with boot := { s.boot with operPub := slice d 0 97, kH := leAt d 100 4 } }
  wr (wr s1 SPR_GM_LO.V (leAt d 104 4)) SPR_GM_HI.V (leAt d 108 4)

/-- The TREE_PARAMS of a bank's image applied. -/
def applyTree (s : State) (b : Nat) : State :=
  match (imgSecs s b).find? (·.ty = 7) with
  | some x => setTree s (secBytes s b x)
  | none => s

/-- RESULT_A or RESULT_B. -/
def setBankResult (s : State) (b r : Nat) : State := if b = 0 then wr s BOOT_STATUS.RESULT_A r else wr s BOOT_STATUS.RESULT_B r

/-- The registers that describe the running image. -/
def showImage (s : State) (b : Nat) : State :=
  let h := imgHdr s b
  let s1 := wr (wr (wr s BOOT_STATUS.RUN_BANK b) BOOT_IMAGE.STEP_MIN (leAt h 9 1)) BOOT_IMAGE.VARIANTS (leAt h 8 1)
  let s2 := wr (wr (wr s1 BOOT_IMAGE.ROLLBACK (leAt h 11 1)) BOOT_IMAGE.JOIN_PERMIT (leAt h 18 1)) BOOT_IMAGE.KEY_INDEX (leAt h 10 1)
  setBankResult (wr (wr s2 BOOT_BUILD_LO.V (leAt h 24 4)) BOOT_BUILD_HI.V (leAt h 28 4)) b 1

/-! ### Starting and restarting cores (R349, R358, R386) -/

/-- A core as it starts: every register at its reset value, its memories from the active page. -/
def freshCore (s : State) (n : Nat) : Core :=
  { imem := (activePage s).imem.get n [], dmem := (activePage s).dmem.get n [], cyc0 := trowelCycles s }

/-- Logical core n takes its memories from the active page (R470), and starts where the page holds code for it; HALT, still
set, stops it at once. -/
def startCore (s : State) (n : Nat) : State :=
  let s0 := wr (setFlag s (TROWEL_CORE_CTRL.RESTART n) false) (TROWEL_CORE_STATUS.HALT_CAUSE n) 0
  let s1 := putCore s0 n (freshCore s n)
  if (activePage s).imem.has n then
    let s2 := wr s1 (TROWEL_CORE_STATUS.STATE n) 1
    if flag s (TROWEL_CORE_CTRL.HALT n) then haltCore s2 n 1 else s2
  else wr s1 (TROWEL_CORE_STATUS.STATE n) 0

/-- RESTART of logical core n: it halts, and its memories are loaded again. (In part DEDUCED, log entry 26.) -/
def restartCore (s : State) (n : Nat) : State :=
  if n < cores s ∧ rd s (TROWEL_CORE_STATUS.STATE n) ≠ 5 then
    setFlag (wr (wr s (TROWEL_CORE_STATUS.STATE n) 4) (TROWEL_CORE_STATUS.HALT_CAUSE n) 0) (TROWEL_CORE_CTRL.RESTART n) true
  else s

/-- A core that was grafted or restarted starts (R349, R358 step 4). (In part DEDUCED, log entry 31.) -/
def coreBegin (n : Nat) (s : State) : State :=
  if n < cores s ∧ rd s (TROWEL_CORE_STATUS.STATE n) = 4 then startCore s n else s

def execCoreStart (n : Nat) (s : State) : Host.Outcome State Fault Refusal := .next (coreBegin n (fresh s))

def execCoreRestart (n : Nat) (s : State) : Host.Outcome State Fault Refusal := .next (restartCore (fresh s) n)

/-! ### The live apply (R479, R480) -/

/-- The DIGESTs of the RAIL_TABLE section, and of the REG_LIST sections. -/
def fixedDigests (s : State) (b : Nat) : List (List Byte) × List (List Byte) :=
  let l := imgSecs s b
  ((l.filter fun x => x.ty = 1).map (·.digest), (l.filter fun x => x.ty = 2).map (·.digest))

/-- BOOT_LIVE ends with a RESULT. -/
def liveEnd (s : State) (r : Nat) : State := setFlag (wr s BOOT_LIVE.RESULT r) BOOT_LIVE.GO false

/-- BOOT_LIVE.GO for bank b. (In part DEDUCED, log entry 31.) -/
def liveGo (b : Nat) (rdFail : Bool) (s : State) : State :=
  let writes (c : FlashCmd) : Bool := c.op ≠ 0 && c.touches (bankBase b) bankSize
  if b = rd s BOOT_STATUS.RUN_BANK ∨ ¬ lineUp s then liveEnd s 2
  else if s.boot.live.isSome ∨ s.boot.cmd.any writes ∨ s.boot.wait.any writes then liveEnd s 5
  else
    let r := checkBank s b rdFail
    let s0 := readBank b r (fun _ => 0) s
    if r ≠ 1 then liveEnd (setBankResult s0 b r) 3
    else if fixedDigests s b ≠ fixedDigests s (1 - b) then liveEnd s0 4
    else
      let p := pageOf s b
      let s1 := touchShadow (applyTree s0 b) (3 * 65536)
      let bt := if s.boot.active = 0 then { s1.boot with page1 := p, active := 1, live := some 0 }
        else { s1.boot with page0 := p, active := 0, live := some 0 }
      setFlag { s1 with boot := bt } BOOT_LIVE.GO true

/-- A write of BOOT_LIVE. -/
def liveStore (v : Word) (rdFail : Bool) (s : State) : State :=
  let b := fldOf BOOT_LIVE.BANK v
  if !fldSet BOOT_LIVE.GO v then (if s.boot.live.isSome then s else wr s BOOT_LIVE.BANK b)
  else liveGo b rdFail (if s.boot.live.isSome then s else wr s BOOT_LIVE.BANK b)

def execLiveApply (v : Word) (rdFail : Bool) (s : State) : Host.Outcome State Fault Refusal :=
  .next (liveStore v rdFail (fresh s))

/-- The next core of a live apply, from core n on: cores in STATE 5 are skipped (R479). (In part DEDUCED, log entry 31.) -/
def liveFrom (s : State) (m n : Nat) : State :=
  match m with
  | 0 => liveEnd (showImage { s with boot := { s.boot with live := none } } (rd s BOOT_LIVE.BANK)) 1
  | m' + 1 =>
    if rd s (TROWEL_CORE_STATUS.STATE n) = 5 then liveFrom s m' (n + 1)
    else restartCore { s with boot := { s.boot with live := some (n + 1) } } n

/-- The previous core has reached STATE 1 or 2, or STATE 0 where the new image has no code for it: the next one is restarted,
or the live apply ends. Where its restart has failed,
the live apply ends there, with a RESULT that is a free value. (In part DEDUCED, log entry 31.) -/
def liveNext (s : State) : State :=
  match s.boot.live with
  | none => s
  | some n =>
    let st := rd s (TROWEL_CORE_STATUS.STATE (n - 1))
    if n = 0 ∨ st = 1 ∨ st = 2 ∨ (st = 0 ∧ (activePage s).imem.has (n - 1) = false) then liveFrom s (cores s - n) n
    else if st = 5 then useFree (liveEnd { s with boot := { s.boot with live := none } } (freeBelow s 8))
    else s

def execLiveApplyCoreRestart (s : State) : Host.Outcome State Fault Refusal := .next (liveNext (fresh s))

end Sys2Proof.Machine
end

