-- ==== Sys2Proof/Machine/Lanes.lean ====
section
/-!
DEFINITION. The commands of the host lanes and Ethernet ports (chapter 17).
-/

namespace Sys2Proof.Machine

/-! ### Control registers -/

/-- A write of HL_ROW_g: AUTO_REFORM at once; MODE at once, or held while a lane graft of the row is in progress (R520). -/
def rowModeWrite (g : Nat) (v : Word) (s : State) : State :=
  if g < rows s then
    let s1 := wr s (HL_ROW.AUTO_REFORM g) (fldOf (HL_ROW.AUTO_REFORM g) v)
    let m := fldOf (HL_ROW.MODE g) v
    if rowGrafts s g then
      if m = rd s (HL_ROW.MODE g) && !rowNarrow s g then s1
      else setFlag { s1 with lane := { s1.lane with held := s1.lane.held.insert g m } } (HL_ROW.PENDING g) true
    else applyMode s1 g m
  else s

def execHlRowModeWrite (g : Nat) (v : Word) (s : State) : Host.Outcome State Fault Refusal :=
  .next (rowModeWrite g v (fresh s))

/-- The port of a lane follows a change of the lane's fitness (R521): DOWN when it is not fit, TRAINING again when every
lane is. -/
def lanePort (s : State) (b l : Nat) : State :=
  match laneSlot s b l with
  | none => s
  | some i =>
    match portOfSlot s b i with
    | none => s
    | some p => if laneOk s b l then tryTrain s p else if rd s (HL_PORT.STATE p) = 0 then s else portLeave s p 0

/-- A write of HL_LANE_b_l_CTRL: a loopback write to a lane that is bridging or in a graft is refused (R526). (In part DEDUCED, log entry 23.) -/
def laneCtrlWrite (b l : Nat) (v : Word) (s : State) : State :=
  if b < beds s ∧ l < 34 then
    let bad : Bool := laneBusy s b l && fldOf (HL_LANE_CTRL.LOOPBACK b l) v ≠ rd s (HL_LANE_CTRL.LOOPBACK b l)
    let s1 := writeFlds s [HL_LANE_CTRL.ENABLE b l, HL_LANE_CTRL.TX_PRECODE b l, HL_LANE_CTRL.RX_PRECODE b l,
      HL_LANE_CTRL.ADAPT_FREEZE b l, HL_LANE_CTRL.PRBS_TX b l, HL_LANE_CTRL.PRBS_RX b l, HL_LANE_CTRL.SER_THR b l] v
    let s2 := if bad then setFlag s1 (HL_LANE_STAT.LB_ERR b l) true
      else wr s1 (HL_LANE_CTRL.LOOPBACK b l) (fldOf (HL_LANE_CTRL.LOOPBACK b l) v)
    let st := rd s2 (HL_LANE_STAT.STATE b l)
    let s3 := if !flag s2 (HL_LANE_CTRL.ENABLE b l) && (st = 1 || st = 2 || st = 3) then wr s2 (HL_LANE_STAT.STATE b l) 0 else s2
    let touched : Bool := rd s3 (HL_LANE_CTRL.TX_PRECODE b l) ≠ rd s (HL_LANE_CTRL.TX_PRECODE b l)
      || rd s3 (HL_LANE_CTRL.RX_PRECODE b l) ≠ rd s (HL_LANE_CTRL.RX_PRECODE b l)
    lanePort (if touched then touchShadow s3 (7 * 65536 + b) else s3) b l
  else s

def execHlLaneCtrlWrite (b l : Nat) (v : Word) (s : State) : Host.Outcome State Fault Refusal :=
  .next (laneCtrlWrite b l v (fresh s))

/-- The sum of the magnitudes of four taps (R517). -/
def tapSum (v : Word) : Nat :=
  (List.range 4).foldl (fun a i => a + (toSigned 8 (bits v.toNat (8 * i) 8)).natAbs) 0

/-- A write of HL_LANE_b_l_TXEQ (R517). -/
def txeqStore (b l : Nat) (v : Word) (s : State) : State :=
  if b < beds s ∧ l < 34 then
    if 128 < tapSum v then setFlag s (HL_LANE_STAT.TXEQ_ERR b l) true
    else touchShadow (writeFlds s [HL_LANE_TXEQ.C_M2 b l, HL_LANE_TXEQ.C_M1 b l, HL_LANE_TXEQ.C_0 b l, HL_LANE_TXEQ.C_P1 b l] v)
      (7 * 65536 + b)
  else s

def execTxeqWrite (b l : Nat) (v : Word) (s : State) : Host.Outcome State Fault Refusal :=
  .next (txeqStore b l v (fresh s))

/-! ### Lanes and ports -/

/-- A training lane locks, its taps adapted (R518); the SNR that it reports is a free value. (In part DESIGN CHOICE, log entry 9.) -/
def lockLane (b l : Nat) (s : State) : State :=
  if b < beds s ∧ l < 34 ∧ rd s (HL_LANE_STAT.STATE b l) = 1 ∧ flag s (HL_LANE_CTRL.ENABLE b l) ∧ lineUp s then
    adaptLane (useFree (wr (wr s (HL_LANE_STAT.STATE b l) 2) (HL_LANE_STAT.SNR b l) (freeBelow s 256))) b l
  else s

def execLaneLock (b l : Nat) (s : State) : Host.Outcome State Fault Refusal := .next (lockLane b l (fresh s))

/-- The port sees local fault, or no longer: what it sends while it is not UP changes with it (R521). -/
def localFault (s : State) (p : Nat) (on : Bool) : State :=
  if s.lane.fault.contains p = on then s
  else emit { s with lane := { s.lane with fault := if on then p :: s.lane.fault else s.lane.fault.erase p } } (.faultSeq p on)

/-- The PCS lanes of a TRAINING port are aligned, every lane locked: its local fault ends, and with no remote fault it
becomes UP (R521); a pause still asserted is sent again. (In part DEDUCED, log entry 23.) -/
def upPort (p : Nat) (s : State) : State :=
  if portFormed s p && rd s (HL_PORT.STATE p) = 1
      && (portLanes s p).all (fun l => rd s (HL_LANE_STAT.STATE (p / 32) l) = 2 || rd s (HL_LANE_STAT.STATE (p / 32) l) = 4) then
    let s0 := localFault s p false
    if flag s (HL_PORT.RF p) then s0
    else
      let s1 := notifyPort (wr s0 (HL_PORT.STATE p) 2) p true
      if flag s1 (SCHED_UP_PORT_USE.ASSERTED p) then sendFlow s1 p 0 else s1
  else s

def execPortUp (P : Nat) (s : State) : Host.Outcome State Fault Refusal := .next (upPort P (fresh s))

/-- An UP port goes to TRAINING, its lanes too where every one lost its signal (R521). -/
def dropLink (s : State) (p why : Nat) : State :=
  if portUpNow s p then
    let s1 := portLeave s p 1
    if why = 0 then moveLanes s1 p 2 1 else s1
  else s

/-- A formed port loses signal on every lane (`why` 0) or alignment (1), which is local fault, or receives remote fault
(2); a partner's doze is excepted (R521, R539). 3: remote fault is received no longer. -/
def linkLoss (p why : Nat) (s : State) : State :=
  if !portFormed s p then s
  else if why = 2 then setFlag (dropLink s p 2) (HL_PORT.RF p) true
  else if why = 3 then setFlag s (HL_PORT.RF p) false
  else if flag s (HL_PORT.RX_DOZING p) then s
  else localFault (dropLink s p why) p true

def execPortLinkLoss (P why : Nat) (s : State) : Host.Outcome State Fault Refusal := .next (linkLoss P why (fresh s))

/-- A fault of the lane, kind 17 (R528): a lane in loopback raises none (R526). -/
def laneFault (s : State) (b l : Nat) : State :=
  if rd s (HL_LANE_CTRL.LOOPBACK b l) = 0 then raise s { kind := 17, scope := .bed b, arg := l, loc := l } else s

/-- The end of a 1 ms window: `n` FEC symbol errors attributed to the lane (R528), and what its pattern
checker saw (R527). A locked lane has adapted meanwhile (R518). -/
def serWindow (b l n : Nat) (prbs : PrbsRx) (s : State) : State :=
  if b < beds s ∧ l < 34 then
    let a := adaptLane s b l
    let s0 := if rd s (HL_LANE_CTRL.PRBS_RX b l) = 0 then a else bump a (HL_LANE_ERR.PRBS_ERR b l) (patternErrors (rd s (HL_LANE_CTRL.PRBS_RX b l)) prbs)
    let s1 := wr s0 (HL_LANE_ERR.SER_MS b l) (min n 0xFFFF)
    if rd s (HL_LANE_CTRL.SER_THR b l) < n ∧ laneServes s b l then laneFault s1 b l else s1
  else s

def execLaneSerWindow (b l n : Nat) (prbs : PrbsRx) (s : State) : Host.Outcome State Fault Refusal := .next (serWindow b l n prbs (fresh s))

/-! ### The handshake (R529 to R534) -/

/-- FLAGS of the terminal's HELLO: graft capable, and receive doze while RX_DOZE_EN is 1. -/
def helloFlags (s : State) (b : Nat) : Nat := 1 + 2 * rd s (HL_BED.RX_DOZE_EN b)

/-- HELLO on one port; SLOT and SPARE of a frame about no lane are free values. (In part DEDUCED, log entry 23.) -/
def helloOn (s : State) (p : Nat) : State :=
  if portUpNow s p then emitHs (useFree (useFree s)) p 1 (freeBelow s 256) (freeBelow (useFree s) 256) (helloFlags s (p / 32))
  else s

def helloAll (b : Nat) (s : State) : State :=
  if b < beds s ∧ flag s (HL_BED.HS_EN b) then ((List.range 32).map (32 * b + ·)).foldl helloOn s else s

def execHelloSend (b : Nat) (s : State) : Host.Outcome State Fault Refusal := .next (helloAll b (fresh s))

/-- The first received handshake message of a type on a port. -/
def takeHs (s : State) (p ty : Nat) : Option (HsMsg × State) :=
  match s.lane.hsIn.find? fun m => m.port = p && m.ty = ty with
  | none => none
  | some m => some (m, { s with lane := { s.lane with hsIn := s.lane.hsIn.erase m } })

/-- A received HELLO (R531). -/
def helloIn (p : Nat) (s : State) : State :=
  match takeHs s p 1 with
  | none => s
  | some (m, s1) =>
    let b := p / 32
    let s2 := setFlag s1 (HL_BED.PARTNER_RXDOZE b) (bitAt m.flags 1)
    if bitAt m.flags 0 then setFlag s2 (HL_BED.PARTNER_HS b) true else s2

def execHello (P : Nat) (s : State) : Host.Outcome State Fault Refusal := .next (helloIn P (fresh s))

/-- Three seconds without a graft-capable HELLO (R531). -/
def hsExpiry (b : Nat) (s : State) : State := if b < beds s then setFlag s (HL_BED.PARTNER_HS b) false else s

def execPartnerHsExpiry (b : Nat) (s : State) : Host.Outcome State Fault Refusal := .next (hsExpiry b (fresh s))

/-- The lane onto which a message says that its slot is grafted, if such a graft is in progress. -/
def namedGraft (s : State) (m : HsMsg) : Option (Nat × LaneGraft) :=
  let q := 34 * (m.port / 32) + m.spare
  ((laneGraft s q).filter fun g => m.spare < 34 && g.slot = m.slot).map fun g => (q, g)

/-- The Rake's record of the graft onto lane q. -/
def rakeLaneGraft (s : State) (q : Nat) : Option Graft :=
  s.rake.grafts.find? fun g => g.unit.cls = .lane && g.spare.idx = q && g.ready

/-- Both READY are in place: the graft ends with GRAFTED (R533). -/
def endLaneGraft (s : State) (q : Nat) : State :=
  match rakeLaneGraft s q with
  | none => s
  | some g => finishGraft s g

/-- The graft onto lane q ends under R534. -/
def abortLane (s : State) (q : Nat) : State :=
  match laneGraft s q, rakeLaneGraft s q with
  | some h, some g =>
    let b := q / 34
    let s1 := bump (sendHs s b 5 h.slot h.spare) (HL_BED_MSG.ABORTS b) 1
    abortGraft (setFlag s1 (HL_BED.PARTNER_HS b) false) g g.ev
  | _, _ => s

def acceptIn (p : Nat) (s : State) : State :=
  match takeHs s p 3 with
  | none => s
  | some (m, s1) =>
    match namedGraft s m with
    | none => s1
    | some (q, g) => putLaneGraft s1 q { g with accepted := true }

def execAccept (P : Nat) (s : State) : Host.Outcome State Fault Refusal := .next (acceptIn P (fresh s))

/-- The terminal's receiver moves to the spare and READY leaves (R533). -/
def laneSwitch (q : Nat) (s : State) : State :=
  match laneGraft s q with
  | none => s
  | some g =>
    if g.accepted && !g.ours then
      let s1 := sendHs (putLaneGraft s q { g with ours := true }) (q / 34) 4 g.slot g.spare
      if g.theirs then endLaneGraft s1 q else s1
    else s

def execLaneGraftSwitch (q : Nat) (s : State) : Host.Outcome State Fault Refusal := .next (laneSwitch q (fresh s))

def readyIn (p : Nat) (s : State) : State :=
  match takeHs s p 4 with
  | none => s
  | some (m, s1) =>
    match namedGraft s m with
    | none => s1
    | some (q, g) =>
      let s2 := putLaneGraft s1 q { g with theirs := true }
      if g.ours then endLaneGraft s2 q else s2

def execReady (P : Nat) (s : State) : Host.Outcome State Fault Refusal := .next (readyIn P (fresh s))

/-- The lane of BED_b onto which a slot is being grafted. -/
def slotGraft (s : State) (b slot : Nat) : Option Nat :=
  [34 * b + 32, 34 * b + 33].find? fun q => ((laneGraft s q).map fun g => decide (g.slot = slot)).getD false

def abortIn (p : Nat) (s : State) : State :=
  match takeHs s p 5 with
  | none => s
  | some (m, s1) =>
    match slotGraft s (p / 32) m.slot with
    | none => s1
    | some q => abortLane s1 q

def execAbort (P : Nat) (s : State) : Host.Outcome State Fault Refusal := .next (abortIn P (fresh s))

/-- No ACCEPT within 1 ms of OFFER (R534). -/
def acceptTimeout (q : Nat) (s : State) : State :=
  match laneGraft s q with
  | none => s
  | some g => if g.accepted then s else abortLane s q

def execGraftAcceptTimeout (q : Nat) (s : State) : Host.Outcome State Fault Refusal := .next (acceptTimeout q (fresh s))

/-- No READY from the partner within 20 ms (R534). -/
def readyTimeout (q : Nat) (s : State) : State :=
  match laneGraft s q with
  | none => s
  | some g => if g.theirs then s else abortLane s q

def execGraftReadyTimeout (q : Nat) (s : State) : Host.Outcome State Fault Refusal := .next (readyTimeout q (fresh s))

/-- A FAULT_REPORT counts, and raises a transmit fault of the lane that serves its slot (R528, R530). -/
def faultReportIn (p : Nat) (s : State) : State :=
  match takeHs s p 6 with
  | none => s
  | some (m, s1) =>
    let b := p / 32
    let s2 := bump s1 (HL_BED_MSG.FAULT_RPT b) 1
    let l := lanePos s b m.slot
    if m.slot < 32 ∧ l < 34 then laneFault s2 b l else s2

def execFaultReport (P : Nat) (s : State) : Host.Outcome State Fault Refusal := .next (faultReportIn P (fresh s))

/-! ### Doze (R537 to R539) -/

/-- The port's transmitters doze (R537); SLOT and SPARE of the frame are free values. (In part DEDUCED, log entry 23.) -/
def dozeEnter (p : Nat) (s : State) : State :=
  if dozeOk s p && !flag s (HL_PORT.TX_DOZING p) then
    let s1 := emitHs (useFree (useFree s)) p 7 (freeBelow s 256) (freeBelow (useFree s) 256) 0
    setLanes (setFlag s1 (HL_PORT.TX_DOZING p) true) p HL_LANE_STAT.TX_DOZE 1
  else s

def execTxDozeEnter (P : Nat) (s : State) : Host.Outcome State Fault Refusal := .next (dozeEnter P (fresh s))

/-- A dozing transmitter wakes when a condition of R537 has lapsed or a frame is ready (R538). -/
def dozeWake (p : Nat) (s : State) : State :=
  if portUpNow s p && flag s (HL_PORT.TX_DOZING p) && !dozeOk s p then
    wakeTx s p
  else s

def execTxDozeWake (P : Nat) (s : State) : Host.Outcome State Fault Refusal := .next (dozeWake P (fresh s))

/-- TX_DOZE from the partner (R539): the port's receivers freeze and are gated, while RX_DOZE_EN is 1. -/
def txDozeIn (p : Nat) (s : State) : State :=
  match takeHs s p 7 with
  | none => s
  | some (_, s1) =>
    if flag s1 (HL_BED.RX_DOZE_EN (p / 32)) && portUpNow s1 p then
      moveLanes (setLanes (setFlag s1 (HL_PORT.RX_DOZING p) true) p HL_LANE_STAT.RX_DOZE 1) p 2 3
    else s1

def execTxDoze (P : Nat) (s : State) : Host.Outcome State Fault Refusal := .next (txDozeIn P (fresh s))

/-- Signal returns: the receivers wake, and alignment is awaited (R539). -/
def rxDozeEnd (p : Nat) (s : State) : State :=
  if flag s (HL_PORT.RX_DOZING p) && p < ports s then
    let s1 := moveLanes (setLanes (setFlag s (HL_PORT.RX_DOZING p) false) p HL_LANE_STAT.RX_DOZE 0) p 3 2
    { s1 with lane := { s1.lane with waking := p :: s1.lane.waking.erase p } }
  else s

def execRxDozeWake (P : Nat) (s : State) : Host.Outcome State Fault Refusal := .next (rxDozeEnd P (fresh s))

/-- Alignment has not returned 10 µs after signal did (R539). -/
def rxAlignTimeout (p : Nat) (s : State) : State :=
  if s.lane.waking.contains p && portUpNow s p then portLeave s p 1 else s

def execRxDozeAlignTimeout (P : Nat) (s : State) : Host.Outcome State Fault Refusal := .next (rxAlignTimeout P (fresh s))

end Sys2Proof.Machine
end

