-- ==== Sys2Proof/Machine/OpsSpr.lean ====
section
/-!
DEFINITION. The Sprinkler: PTP frames in and out, timestamps and the client table, the shared operations of chapter 07.
PRESUMED from IEEE 1588-2019 and the IP standards: the PTP, IP and UDP header layouts.
-/

namespace Sys2Proof.Machine

/-! ### Bytes, checksums -/

/-- `l` with the bytes from offset `o` replaced by `b`. -/
def putBytes (l : List Byte) (o : Nat) (b : List Byte) : List Byte := l.take o ++ b ++ l.drop (o + b.length)

/-- The ones'-complement sum of a byte string's 16-bit words. -/
def sum16 (n : Nat) (l : List Byte) (a : Nat) : Nat :=
  match n with
  | 0 => a
  | m + 1 =>
    match l with
    | [] => a
    | [x] => let t := a + x.toNat * 256; t % 65536 + t / 65536
    | x :: y :: r => let t := a + x.toNat * 256 + y.toNat; sum16 m r (t % 65536 + t / 65536)

/-- The Internet checksum. -/
def inetSum (l : List Byte) : Nat := 0xFFFF - sum16 l.length l 0

/-! ### Transports (R245, R250, R259) -/

/-- Where a Sprinkler frame goes: transport, tag, destination MAC address and destination address. -/
structure SprTo where
  tr : Nat
  tag : Option (Nat × Nat)         -- PCP, VID
  dmac : Nat
  addr : Nat
  mc : Bool
  deriving DecidableEq, Repr

/-- The PTP multicast addresses of a transport. -/
def mcastTo (tr : Nat) : SprTo :=
  match tr with
  | 1 => { tr := 1, tag := none, dmac := 0x01005E000181, addr := 0xE0000181, mc := true }
  | 2 => { tr := 2, tag := none, dmac := 0x333300000181, addr := 0xFF0E * 2 ^ 112 + 0x181, mc := true }
  | _ => { tr := 0, tag := none, dmac := 0x011B19000000, addr := 0, mc := true }

/-- The port's IPv6 address. -/
def portIp6 (s : State) (p : Nat) : Nat :=
  (List.range 4).foldl (fun a w => a + rd s (SPR_PORT_IP6.V p w) * 2 ^ (32 * w)) 0

/-- The pseudo-header and UDP datagram that a UDP checksum covers, for a PTP message at offset `off` of a frame. -/
def udpCovered (l : List Byte) (off tr : Nat) : List Byte :=
  let n := l.length - (off - 8)
  let addrs := if tr = 1 then slice l (off - 16) 8 else slice l (off - 40) 32
  addrs ++ beBytes 4 n ++ beBytes 4 17 ++ l.drop (off - 8)

/-- A frame with its UDP checksum computed; a frame without UDP as it is. -/
def fillUdp (l : List Byte) (off tr : Nat) : List Byte :=
  if tr = 0 then l
  else
    let z := putBytes l (off - 2) [0, 0]
    let c := inetSum (udpCovered z off tr)
    putBytes z (off - 2) (beBytes 2 (if c = 0 then 0xFFFF else c))

/-- A PTP message in its Ethernet, IP and UDP headers; the frame, the message's offset and the state. What the standards
leave to the sender (TOS, identification, hop limit, flow label) is free. -/
def sprFrame (s : State) (p : Nat) (d : SprTo) (event : Bool) (msg : List Byte) : List Byte × Nat × State :=
  let tag : List Byte := match d.tag with
    | some (pcp, vid) => tagBytes pcp vid
    | none => []
  let eth : List Byte := beBytes 6 d.dmac ++ portMac s p ++ tag
  let port := if event then 319 else 320
  let udp : List Byte := beBytes 2 port ++ beBytes 2 port ++ beBytes 2 (8 + msg.length) ++ [0, 0]
  let fv := freeBelow s (2 ^ 40)
  match d.tr with
  | 1 =>
    let ip (c : Nat) : List Byte := beBytes 1 0x45 ++ beBytes 1 fv ++ beBytes 2 (28 + msg.length) ++ beBytes 2 (fv / 256) ++
      [0, 0] ++ beBytes 1 (fv / 2 ^ 24) ++ beBytes 1 17 ++ beBytes 2 c ++ beBytes 4 (rd s (SPR_PORT_IP4.IP4 p)) ++ beBytes 4 d.addr
    let h := eth ++ beBytes 2 0x0800 ++ ip (inetSum (ip 0)) ++ udp
    (h ++ msg, h.length, useFree s)
  | 2 =>
    let h := eth ++ beBytes 2 0x86DD ++ beBytes 4 (6 * 2 ^ 28 + fv % 2 ^ 28) ++ beBytes 2 (8 + msg.length) ++ beBytes 1 17 ++
      beBytes 1 (fv / 2 ^ 28) ++ beBytes 16 (portIp6 s p) ++ beBytes 16 d.addr ++ udp
    (h ++ msg, h.length, useFree s)
  | _ =>
    let h := eth ++ beBytes 2 0x88F7
    (h ++ msg, h.length, s)

/-! ### PTP messages (R247, R249 to R255, R260) -/

/-- The terminal's port identity on port P (R247). -/
def portIdent (s : State) (p : Nat) : List Byte :=
  beBytes 4 (rd s SPR_CLKID_HI.V) ++ beBytes 4 (rd s SPR_CLKID_LO.V) ++ beBytes 2 (1 + p)

/-- A PTP header. -/
def ptpHeader (s : State) (p ty len flags corr seq ctl log : Nat) : List Byte :=
  beBytes 1 (rd s SPR_CTRL.SDO * 16 + ty) ++ beBytes 1 0x12 ++ beBytes 2 len ++ beBytes 1 (rd s SPR_CTRL.DOMAIN) ++ [0] ++
    beBytes 2 flags ++ beBytes 8 corr ++ [0, 0, 0, 0] ++ portIdent s p ++ beBytes 2 seq ++ beBytes 1 ctl ++ beBytes 1 log

/-- unicastFlag of a message. -/
def uniFlag (d : SprTo) : Nat := if d.mc then 0 else 0x0400

/-- The condition c of R252. -/
def sprCond (s : State) : Nat :=
  if !flag s TIME_STATUS.VALID then 0 else if flag s TIME_STATUS.HOLDOVER then 2 else if flag s TIME_STATUS.LOCKED then 3 else 1

/-- The second flag byte of an Announce (R252, R253). -/
def announceFlags (s : State) : Nat :=
  let c := sprCond s
  let tt := b2n (decide (2 ≤ c))
  let ft := b2n (decide (c = 1 ∨ c = 3 ∨ (c = 2 ∧ ¬ flag s TIME_STATUS.HOLD_FREE)))
  rd s SPR_UTC.LEAP61 + 2 * rd s SPR_UTC.LEAP59 + 4 * rd s SPR_UTC.VALID + 8 + 16 * tt + 32 * ft

/-- An Announce message (R251 to R253). -/
def announceMsg (s : State) (p : Nat) (d : SprTo) (seq log : Nat) : List Byte :=
  let c := sprCond s
  ptpHeader s p 0xB 64 (uniFlag d + announceFlags s) 0 seq 5 log ++ List.replicate 10 0 ++ beBytes 2 (rd s SPR_UTC.OFFSET) ++
    [0] ++ beBytes 1 (rd s SPR_GM_CFG.PRIO1) ++ beBytes 1 (rd s (SPR_QUAL.CLASS c)) ++ beBytes 1 (rd s (SPR_QUAL.ACCURACY c)) ++
    beBytes 2 (rd s (SPR_QUAL.VARIANCE c)) ++ beBytes 1 (rd s SPR_GM_CFG.PRIO2) ++ beBytes 4 (rd s SPR_GM_HI.V) ++
    beBytes 4 (rd s SPR_GM_LO.V) ++ beBytes 2 (rd s SPR_GM_CFG.STEPS) ++ beBytes 1 (rd s SPR_CTRL.TIME_SOURCE)

/-- A Sync or Follow_Up message whose time is still to be filled. -/
def syncMsg (s : State) (p : Nat) (d : SprTo) (two : Bool) (seq log : Nat) : List Byte :=
  ptpHeader s p 0 44 (uniFlag d + (if two then 0x0200 else 0)) 0 seq 0 log ++ List.replicate 10 0
def followMsg (s : State) (p : Nat) (d : SprTo) (seq log : Nat) : List Byte :=
  ptpHeader s p 8 44 (uniFlag d) 0 seq 2 log ++ List.replicate 10 0

/-- SEC and NS of a time, the PTP timestamp. -/
def stampBytes (u : Nat) : List Byte := beBytes 6 (secOf u) ++ beBytes 4 (nsOf u)

/-- A Sync or Follow_Up in a frame with its time and correction filled in (R249). -/
def fillStamp (l : List Byte) (off u : Nat) : List Byte :=
  putBytes (putBytes l (off + 34) (stampBytes u)) (off + 8) (beBytes 8 (fracOf u))

/-! ### Timestamps (R248) -/

/-- A time moved by a signed amount. -/
def shiftTime (u : Nat) (d : Int) : Nat := (((u : Int) + d) % (timeWrap : Int)).toNat

/-- The mean factory delay of a port's active lanes in a direction (0 transmit, 1 receive). -/
def portDelay (s : State) (p dir : Nat) : Int :=
  let ls := portLanes s p
  if ls.isEmpty then 0
  else roundHalfEven (ls.foldl (fun a l => a + s.lane.delay.get (2 * (34 * (p / 32) + l) + dir) 0) 0) ls.length

/-- T at the HOST_TX or HOST_RX lands of a port, adjusted. (In part DESIGN CHOICE, log entry 7.) -/
def egressTime (s : State) (p : Nat) : Nat := shiftTime (now s) (portDelay s p 0 + 256 * rdInt s (SPR_PORT_ADJ.EGRESS_ADJ p))
/-- In part DESIGN CHOICE, log entry 7. -/
def ingressTime (s : State) (p : Nat) : Nat := shiftTime (now s) (portDelay s p 1 + 256 * rdInt s (SPR_PORT_ADJ.INGRESS_ADJ p))

/-! ### Sending (R256, R318) -/

/-- A message that carries no time of its own leaves for `d`. -/
def sprSend (s : State) (p : Nat) (d : SprTo) (msg : List Byte) : State :=
  let r := sprFrame s p d false msg
  pushSpr r.2.2 p (fillUdp r.1 r.2.1 d.tr) { kind := 0, off := r.2.1, tr := d.tr, follow := [] }

/-- A Sync leaves for `d`, one-step or two-step with its Follow_Up to come (R249, R250). -/
def syncSend (s : State) (p : Nat) (d : SprTo) (two : Bool) (seq log : Nat) : State :=
  let m := syncMsg s p d two seq log
  if two then
    let r := sprFrame s p d true m
    let f := sprFrame r.2.2 p d false (followMsg s p d seq log)
    pushSpr f.2.2 p (fillUdp r.1 r.2.1 d.tr) { kind := 2, off := r.2.1, tr := d.tr, follow := f.1 }
  else
    let r := sprFrame s p d true (if d.tr = 2 then m ++ [0, 0] else m)
    let l := if d.tr = 2 then fillUdp r.1 r.2.1 2 else r.1
    pushSpr r.2.2 p l { kind := 1, off := r.2.1, tr := d.tr, follow := [] }

/-- A Sprinkler frame leaves port P: a one-step Sync takes its time, a two-step Sync gives it to its Follow_Up. -/
def sprDepart (s : State) (p : Nat) (l : List Byte) (t : SprTx) : List Byte × State :=
  match t.kind with
  | 0 => (l, s)
  | 1 =>
    let f := fillStamp l t.off (egressTime s p)
    if t.tr = 2 then (putBytes f (t.off + 44) (beBytes 2 (inetSum (udpCovered f t.off 2))), s) else (f, s)
  | _ =>
    let f := fillUdp (fillStamp t.follow t.off (egressTime s p)) t.off t.tr
    (l, { s with spr := { s.spr with follow := s.spr.follow ++ [(p, f)] } })

/-! ### Frames taken (R245, R246, R261) -/

/-- Does a frame match R245 on port P? -/
def sprMatch (s : State) (p : Nat) (l : List Byte) : Option PtpHead :=
  let tagged : Bool := beAt l 12 2 = 0x8100
  let o := if tagged then 18 else 14
  let tag : Option (Nat × Nat) := if tagged then some (bits (beAt l 14 2) 13 3, bits (beAt l 14 2) 0 12) else none
  let ty := beAt l (o - 2) 2
  let da := beAt l 0 6
  let sm := beAt l 6 6
  if ty = 0x88F7 then
    if da = beNat (portMac s p) ∨ da = 0x011B19000000 ∨ da = 0x0180C200000E then
      some { tr := 0, tag := tag, off := o, src := sm, smac := sm, mcast := da ≠ beNat (portMac s p) }
    else none
  else if ty = 0x0800 ∧ beAt l o 1 / 16 = 4 ∧ beAt l (o + 9) 1 = 17 then
    let u := o + beAt l o 1 % 16 * 4
    let dp := beAt l (u + 2) 2
    let dst := beAt l (o + 16) 4
    let own := rd s (SPR_PORT_IP4.IP4 p)
    if (dp = 319 ∨ dp = 320) ∧ ((dst = own ∧ own ≠ 0) ∨ dst = 0xE0000181) then
      some { tr := 1, tag := tag, off := u + 8, src := beAt l (o + 12) 4, smac := sm, mcast := dst = 0xE0000181 }
    else none
  else if ty = 0x86DD ∧ beAt l o 1 / 16 = 6 ∧ beAt l (o + 6) 1 = 17 then
    let dp := beAt l (o + 42) 2
    let dst := beAt l (o + 24) 16
    let mc : Bool := decide (dst / 2 ^ 116 = 0xFF0) && decide (dst % 2 ^ 112 = 0x181)
    if (dp = 319 ∨ dp = 320) ∧ (dst = portIp6 s p ∨ mc) then
      some { tr := 2, tag := tag, off := o + 48, src := beAt l (o + 8) 16, smac := sm, mcast := mc }
    else none
  else none

/-- A frame that the Sprinkler takes (R246); `u` is its ingress time. Outside SERVICE and HOLDOVER nothing comes of it
(R244). (In part DEDUCED, log entry 24.) -/
def sprTake (s : State) (p : Nat) (l : List Byte) (u : Nat) (h : PtpHead) : State :=
  let o := h.off
  let ty := beAt l o 1 % 16
  if !flag s (SPR_PORT.ENABLE p) then bump s SPR_DROPX.FOREIGN 1
  else if beAt l (o + 1) 1 % 16 ≠ 2 ∨ beAt l o 1 / 16 ≠ rd s SPR_CTRL.SDO ∨ beAt l (o + 4) 1 ≠ rd s SPR_CTRL.DOMAIN then
    bump s SPR_DROPX.FOREIGN 1
  else if ty = 1 then
    if inService s then { s with spr := { s.spr with inbox := s.spr.inbox ++ [{ port := p, bytes := l, head := h, u := u }] } } else s
  else if ty = 0xC ∧ (slice l (o + 34) 10 = portIdent s p ∨ beAt l (o + 34) 10 = 2 ^ 80 - 1) then
    if !inService s then s
    else if 1024 ≤ s.spr.ring.length then bump s SPR_DROPX.SIG_OVF 1
    else
      let s1 := { s with spr := { s.spr with ring := s.spr.ring ++ [{ port := p, bytes := l, head := h, u := u }] } }
      if s.spr.ring.isEmpty then pulse s1 57 else s1
  else bump s SPR_DROPX.FOREIGN 1

/-! ### The client table (R254, R257, R258, R263 to R266) -/

/-- The key of a client, as one number. -/
def clientKey (x : Client) : Nat :=
  ((((x.port * 4 + x.tr) * 2 ^ 128 + x.addr) * 2 ^ 64 + x.cid) * 65536 + x.cport) * 8192 +
    (if x.vlan then 4096 + x.vid else 0)

/-- The candidate buckets of a client key. (In part DESIGN CHOICE, log entry 25.) -/
def sprB1 (x : Client) : Nat := crc32c (Config.sprBytes (clientKey x)) % 16384
def sprB2 (x : Client) : Nat :=
  let b := crc32 (Config.sprBytes (clientKey x)) % 16384
  if b = sprB1 x then Nat.xor b 0x2000 else b

/-- The lowest free way of a bucket of the client table. -/
def sprFree (t : Table Client) (b : Nat) : Option Nat := firstBelow 8 fun w => !t.has (8 * b + w)

/-- The moves of a path, last place first. -/
def sprShift (path : List Nat) (dst : Nat) (t : Table Client) : Table Client × Nat :=
  path.reverse.foldl (fun (x : Table Client × Nat) p =>
    match x.1.find p with
    | some e => ((x.1.insert x.2 e).erase p, p)
    | none => (x.1, p)) (t, dst)

/-- The walk of R281 on the client table. -/
def sprWalk (n : Nat) (t : Table Client) (path : List Nat) (b w : Nat) : Option (Table Client × Nat) :=
  match n with
  | 0 => none
  | m + 1 =>
    let p := 8 * b + w
    if path.contains p then none
    else
      match t.find p with
      | none => none
      | some v =>
        let a := if sprB1 v = b then sprB2 v else sprB1 v
        match sprFree t a with
        | some f => some (sprShift (path ++ [p]) (8 * a + f) t)
        | none => sprWalk m t (path ++ [p]) a ((w + 1) % 8)

/-- A place for a new client, and the table after the moves that it takes. -/
def sprPlace (t : Table Client) (x : Client) : Option (Table Client × Nat) :=
  match sprFree t (sprB1 x) with
  | some w => some (t, 8 * sprB1 x + w)
  | none =>
    match sprFree t (sprB2 x) with
    | some w => some (t, 8 * sprB2 x + w)
    | none =>
      match sprWalk 16 t [] (sprB1 x) (bits (crc32c (Config.sprBytes (clientKey x))) 14 3) with
      | some y => some y
      | none => (firstBelow 32 fun i => !t.has (0x20000 + i)).map fun i => (t, 0x20000 + i)

/-- The place of the client with a key. -/
def sprFind (s : State) (x : Client) : Option (Nat × Client) := s.spr.clients.find? fun e => clientKey e.2 = clientKey x

/-- SEC[31:0] of T. -/
def secNow (s : State) : Nat := secOf (now s) % 2 ^ 32

/-- A stream of a client, 2 Announce, 1 Sync, 0 Delay_Resp, is on and has not expired. -/
def streamExp (x : Client) (i : Nat) : Nat := match i with | 2 => x.annExp | 1 => x.syncExp | _ => x.drespExp
def streamLive (s : State) (x : Client) (i : Nat) : Bool := bitAt x.on i && decide (0 < signed32 (streamExp x i) (secNow s))

/-- SEC[31:0] of T in the cycle before this one; at a commit's own cycle, one nominal cycle back. -/
def secBefore (s : State) : Nat :=
  let u := if s.time.c = s.time.base then (now s + timeWrap - 52429) % timeWrap
    else timeOf s.time.ofs s.time.base s.time.rate ((s.time.c + 2 ^ 64 - 1) % 2 ^ 64) 0
  secOf u % 2 ^ 32

/-- The stream has not stopped, or expires in this very cycle: a renewal in it still goes on with the stream (R263). -/
def streamGoes (s : State) (x : Client) (i : Nat) : Bool :=
  streamLive s x i || (bitAt x.on i && decide (0 < signed32 (streamExp x i) (secBefore s)))

/-- 2^-LOG messages per second, in units of 1/16 (R257). -/
def rate16 (log : Int) : Nat := 2 ^ (4 - log).toNat

/-- The load of a client; of a multicast port. -/
def clientLoad (s : State) (x : Client) : Nat :=
  (if streamLive s x 2 then rate16 x.logAnn else 0) +
  (if streamLive s x 1 then (if x.two then 2 * rate16 x.logSync else rate16 x.logSync) else 0) +
  (if streamLive s x 0 then rate16 x.logDresp else 0)
def portLoad (s : State) (p : Nat) : Nat :=
  if flag s (SPR_PORT.ENABLE p) && flag s (SPR_PORT.MCAST_EN p) then
    rate16 (rdInt s (SPR_PORT.LOG_ANN p)) + rate16 (rdInt s (SPR_PORT.LOG_SYNC p)) * (if flag s (SPR_PORT.TWO_STEP p) then 2 else 1)
  else 0

/-- The load of row g (R257). -/
def rowLoad (s : State) (g : Nat) : Nat :=
  (s.spr.clients.foldl (fun a e => if e.2.port / 8 = g then a + clientLoad s e.2 else a) 0) +
    (List.range 8).foldl (fun a i => a + portLoad s (8 * g + i)) 0

/-- The budget of a row. -/
def rowBudget : Nat := 0x2000000

/-- ENTRIES and the load of a row kept true. -/
def sprShow (s : State) (g : Nat) : State :=
  wr (wr s SPR_STATUS.ENTRIES s.spr.clients.length) (SPR_ROW_LOAD.LOAD g) (rowLoad s g)

/-- The client table replaced. -/
def setClients (s : State) (t : Table Client) : State := { s with spr := { s.spr with clients := t } }

/-- The client at a place. -/
def clientAt (s : State) (i : Nat) : Option Client := s.spr.clients.find i

/-- Where a client's frames go (R259). -/
def clientTo (x : Client) : SprTo :=
  { tr := x.tr, tag := if x.vlan then some (x.pcp, x.vid) else none, dmac := x.dmac, addr := x.addr, mc := false }

/-- A client entry as words 0 to 15 spell it (R266). -/
def clientOf (w : Nat → Nat) : Client :=
  { port := bits (w 0) 0 8, tr := bits (w 0) 30 2, two := bitAt (w 0) 29, vlan := bitAt (w 0) 28, pcp := bits (w 0) 25 3
    vid := bits (w 0) 13 12, addr := w 1 + w 2 * 2 ^ 32 + w 3 * 2 ^ 64 + w 4 * 2 ^ 96, dmac := w 5 + bits (w 6) 0 16 * 2 ^ 32
    cport := bits (w 6) 16 16, cid := w 7 + w 8 * 2 ^ 32, annExp := w 9, syncExp := w 10, drespExp := w 11
    logAnn := toSigned 8 (bits (w 12) 24 8), logSync := toSigned 8 (bits (w 12) 16 8), logDresp := toSigned 8 (bits (w 12) 8 8)
    on := bits (w 12) 0 3, seqSync := 0, seqAnn := 0, drop := 0, credit := 0 }

/-- The words of a client entry. -/
def clientWords (x : Client) : List Nat :=
  [x.tr * 2 ^ 30 + b2n x.two * 2 ^ 29 + b2n x.vlan * 2 ^ 28 + x.pcp * 2 ^ 25 + x.vid * 2 ^ 13 + x.port,
   bits x.addr 0 32, bits x.addr 32 32, bits x.addr 64 32, bits x.addr 96 32, bits x.dmac 0 32,
   x.cport * 65536 + bits x.dmac 32 16, bits x.cid 0 32, bits x.cid 32 32, x.annExp, x.syncExp, x.drespExp,
   ofSigned 8 x.logAnn * 2 ^ 24 + ofSigned 8 x.logSync * 65536 + ofSigned 8 x.logDresp * 256 + x.on,
   x.seqSync * 65536 + x.seqAnn, x.drop, 0]

/-- The entry shown in SPR_DATA. -/
def showClient (s : State) (x : Client) : State :=
  (List.range 16).foldl (fun t w => wr t (SPR_DATA.V w) ((clientWords x).getD w 0)) s

/-- Is a log interval within R254? -/
def logOk (lo : Int) (x : Int) : Bool := decide (lo ≤ x) && decide (x ≤ 4)

/-- Are a client's fields in range (R264, result 6)? -/
def clientKeyOk (s : State) (x : Client) : Bool := decide (x.port < ports s) && decide (x.tr ≠ 3)
def clientOk (s : State) (x : Client) : Bool :=
  clientKeyOk s x && logOk (-3) x.logAnn && logOk (-7) x.logSync && logOk (-7) x.logDresp

/-- RESULT and INDEX of a command; INDEX is free where there is no entry. (In part DESIGN CHOICE, log entry 9.) -/
def sprResult (s : State) (r : Nat) (i : Option Nat) : State :=
  let s1 := wr s SPR_CMD.RESULT r
  match i with
  | some n => wr s1 SPR_CMD.INDEX n
  | none => useFree (wr s1 SPR_CMD.INDEX (freeBelow s1 (2 ^ 18)))

/-- The entry after an update of its streams, DMAC, TWO_STEP and PCP: sequence counters start at 0 when their streams are
activated (R260), and a VID that is no part of the key stays (R264). -/
def mergeClient (s : State) (old new : Client) : Client :=
  { new with
    vid := old.vid
    seqSync := if streamGoes s old 1 then old.seqSync else if streamLive s new 1 then 0 else old.seqSync
    seqAnn := if streamGoes s old 2 then old.seqAnn else if streamLive s new 2 then 0 else old.seqAnn
    drop := old.drop
    credit := old.credit }

/-- The entry of a client that its expiry removed in this very cycle stands again for a renewal (R263). -/
def revive (s : State) (x : Client) : State :=
  match s.spr.gone.find? fun e => e.1 = s.time.c && clientKey e.2.2 = clientKey x && !s.spr.clients.has e.2.1 with
  | some e => if (sprFind s x).isNone then setClients s (s.spr.clients.insert e.2.1 e.2.2) else s
  | none => s

/-- Upsert by key (R264). A new entry's credit is free, up to 4. Where the budget and the table both refuse, which of the
two results shows is free. (In part DESIGN CHOICE, log entry 25.) -/
def sprUpsert (x : Client) (s : State) : State :=
  let g := x.port / 8
  if !clientOk s x then sprResult s 6 none
  else
    let t := revive s x
    match sprFind t x with
    | some (i, old) =>
      let new := mergeClient t old x
      if rowBudget < rowLoad t g + clientLoad t new - clientLoad t old then sprResult s 5 (some i)
      else sprResult (sprShow (setClients t (t.spr.clients.insert i new)) g) 2 (some i)
    | none =>
      let tooMuch : Bool := rowBudget < rowLoad s g + clientLoad s x
      let full : Bool := 131072 ≤ s.spr.clients.length
      match if full then none else sprPlace s.spr.clients x with
      | none =>
        let r := if full then 3 else 4
        if tooMuch then sprResult (useFree s) (if freeBelow s 2 = 0 then 5 else r) none else sprResult s r none
      | some (t, i) =>
        if tooMuch then sprResult s 5 none
        else
          let new := { x with credit := freeBelow s 5 }
          sprResult (sprShow (setClients (useFree s) (t.insert i new)) g) 1 (some i)

/-- The SPR_DATA words as an entry. -/
def sprData (s : State) : Client := clientOf fun w => rd s (SPR_DATA.V w)

/-- One command of R264. -/
def sprRun (op : Nat) (s : State) : State :=
  let x := sprData s
  match op with
  | 1 => sprUpsert x s
  | 2 =>
    if !clientKeyOk s x then sprResult s 6 none
    else
      match sprFind s x with
      | none => sprResult s 7 none
      | some (i, _) => sprResult (sprShow (setClients s (s.spr.clients.erase i)) (x.port / 8)) 2 (some i)
  | 3 =>
    if !clientKeyOk s x then sprResult s 6 none
    else
      match sprFind s x with
      | none => sprResult s 7 none
      | some (i, e) => sprResult (showClient s e) 2 (some i)
  | 4 =>
    let i := rd s SPR_CMD.INDEX
    if 131072 + 32 ≤ i then sprResult s 6 (some i)
    else
      match clientAt s i with
      | none => sprResult s 7 (some i)
      | some e => sprResult (showClient s e) 2 (some i)
  | _ => sprResult s 6 none

/-- A write of SPR_CMD: OP and INDEX are stored, and GO runs the command. -/
def sprCmdStore (v : Word) (s : State) : State :=
  let s1 := wr (wr s SPR_CMD.OP (fldOf SPR_CMD.OP v)) SPR_CMD.INDEX (fldOf SPR_CMD.INDEX v)
  if fldSet SPR_CMD.GO v then sprRun (rd s1 SPR_CMD.OP) s1 else s1

end Sys2Proof.Machine
end

