-- ==== Sys2Proof/Machine/Mac.lean ====
section
/-!
DEFINITION. What a port MAC does with a received frame (R523).
-/

namespace Sys2Proof.Machine

/-- The frame check sequence of a frame fits: IEEE 802.3 sends the CRC's low byte first. -/
def fcsOk (l : List Byte) : Bool := decide (4 ≤ l.length) && l.drop (l.length - 4) == leBytes 4 (crc32 (l.take (l.length - 4)))

/-- A PAUSE or PFC frame (R321). (In part DEDUCED, log entry 23.) -/
def isPause (l : List Byte) : Bool := beAt l 12 2 = 0x8808 && (beAt l 14 2 = 1 || beAt l 14 2 = 0x101)

/-- A handshake frame (R523, check 5). -/
def isHandshake (s : State) (l : List Byte) : Bool :=
  beAt l 12 2 = 0x8809 && beAt l 14 1 = 0x0A && beAt l 15 3 = rd s HL_OSSP.OUI

/-- A received handshake frame (R529, R530); only the terminal sends OFFER. -/
def hsTake (s : State) (p : Nat) (l : List Byte) : State :=
  let ty := beAt l 19 1
  if beAt l 18 1 ≠ 1 ∨ ty = 0 ∨ 8 ≤ ty then bump s (HL_BED_MSG.BAD (p / 32)) 1
  else if ty = 2 then s
  else
    let m : HsMsg := { port := p, ty := ty, slot := beAt l 22 1, spare := beAt l 23 1, flags := beAt l 24 1 }
    { s with lane := { s.lane with hsIn := s.lane.hsIn ++ [m] } }

/-- A frame that arrived on port p, FCS included; `code` tells an error control character or an uncorrectable symbol. (In part DEDUCED, log entry 23.) -/
def macTake (s : State) (p : Nat) (l : List Byte) (code : Bool) : State :=
  let body := l.take (l.length - 4)
  if !portUpNow s p then s
  else if code then bump s (HL_PORT_ERR.CODE p) 1
  else if !fcsOk l then bump s (HL_PORT_ERR.FCS p) 1
  else if l.length < 64 ∨ 9600 < l.length then bump s (HL_PORT_ERR.LEN p) 1
  else if isPause l then pauseIn s p body
  else if isHandshake s l then hsTake s p l
  else
    match (if flag s SPR_CTRL.ENABLE then sprMatch s p body else none) with
    | some h => sprTake s p body (ingressTime s p) h
    | none => svUp s p body

/-- A received FEC word that RS(544,514) corrects, and one that it finds uncorrectable (R522). (In part PRESUMED, log entry 44.) -/
def fecFixes (w : List Nat) : Bool := decide (∃ c ∈ rsDecode w, c ≠ w)
def fecFails (w : List Nat) : Bool := (rsDecode w).isNone

/-- The FEC words of a port: how many were corrected, and how many uncorrectable (R522). (In part PRESUMED, log entry 44.) -/
def fecTake (s : State) (p : Nat) (ws : List (List Nat)) : State :=
  if portUpNow s p then
    bump (bump s (HL_PORT_FEC.CORR p) (ws.countP fecFixes)) (HL_PORT_FEC.UNCORR p) (ws.countP fecFails)
  else s

/-- A frame holds an error where the PCS found an error control character, or one of its FEC words was uncorrectable (R523). -/
def execHostFrameReceive (P : Nat) (frame : List Byte) (code : Bool) (words others : List (List Nat)) (s : State) :
    Host.Outcome State Fault Refusal :=
  .next (macTake (fecTake (fresh s) P (others ++ words)) P frame (code || words.any fecFails))

end Sys2Proof.Machine
end

