-- ==== Sys2Proof/Machine/OpsMover.lean ====
section
/-!
DEFINITION. The block mover's channels: START, STOP and the doorbell (R388, R403).
-/

namespace Sys2Proof.Machine

/-- The state of channel n. -/
def mvState (s : State) (n : Nat) : Nat := rd s (MV_CH_STATUS.STATE n)

/-- Channel n enters a state; MOVER_STATUS.ACTIVE follows, and STOP clears in IDLE. -/
def mvEnter (s : State) (n st : Nat) : State :=
  let a := rd s MOVER_STATUS.ACTIVE
  let s1 := wr s MOVER_STATUS.ACTIVE (if st = 0 then a - Nat.land a (2 ^ n) else Nat.lor a (2 ^ n))
  wr (if st = 0 then setFlag s1 (MV_CH_CTRL.STOP n) false else s1) (MV_CH_STATUS.STATE n) st

/-- The code of a source in STARTER; 0 for a source that the MOVER block does not know. -/
def mvCode (src : Src) : Nat :=
  match src with
  | .pf 0 => 1
  | .pf _ => 0
  | .trowel _ => 2
  | .startup => 3

/-- May a source write the registers of channel n (R388)? -/
def mvMay (s : State) (n c : Nat) : Bool :=
  if mode s = 2 ∧ n = 0 then c = 3 else mvState s n = 0 || rd s (MV_CH_STATUS.STARTER n) = c

/-- A write that R388 ignores. -/
def mvRefuse (s : State) (n : Nat) : State := setFlag s (MV_CH_STATUS.WR_REFUSED n) true

/-- START on channel n by the source with code c. -/
def mvStart (c n : Nat) (s : State) : State :=
  let st := mvState s n
  if st = 0 ∨ st = 5 then
    let s1 := wr (wr s (MV_CH_CUR.OFFSET n) (rd s (MV_CH_HEAD.OFFSET n))) (MV_CH_STATUS.DB_PEND n) 0
    mvEnter (wr (wr s1 (MV_CH_STATUS.STARTER n) c) (MV_CH_STATUS.ERR n) 0) n 1
  else setFlag s (MV_CH_STATUS.START_REFUSED n) true

/-- STOP on channel n (R403): a running channel completes its present descriptor first. (In part DEDUCED, log entry 27.) -/
def mvStop (n : Nat) (s : State) : State :=
  match mvState s n with
  | 1 => mvEnter (setFlag s (MV_CH_CTRL.STOP n) true) n 4
  | 2 => mvEnter s n 0
  | 3 => mvEnter s n 0
  | 5 => mvEnter (wr s (MV_CH_STATUS.ERR n) 0) n 0
  | _ => s

/-- A doorbell on channel n. -/
def mvRing (n : Nat) (s : State) : State :=
  match mvState s n with
  | 0 => setFlag s (MV_CH_STATUS.DB_IDLE n) true
  | 1 => bump s (MV_CH_STATUS.DB_PEND n) 1
  | 2 => bump s (MV_CH_STATUS.DB_PEND n) 1
  | 4 => bump s (MV_CH_STATUS.DB_PEND n) 1
  | 3 => mvEnter (wr s (MV_CH_STATUS.DB_PEND n) 0) n 2
  | _ => s

/-- A write of MV_CH_n_CTRL: START, then STOP. PF0 may stop any channel. (In part DESIGN CHOICE, log entry 32.) -/
def mvCtrlStore (src : Src) (n : Nat) (start stop : Bool) (s : State) : State :=
  let c := mvCode src
  if mvMay s n c then
    let s1 := if start then mvStart c n s else s
    if stop then mvStop n s1 else s1
  else if c = 1 ∧ stop ∧ ¬ (mode s = 2 ∧ n = 0) then
    mvStop n (if start then mvRefuse s n else s)
  else mvRefuse s n

/-- A write of MV_CH_n_DB. -/
def mvDbStore (src : Src) (n : Nat) (s : State) : State :=
  if mvMay s n (mvCode src) then mvRing n s else mvRefuse s n

def execMoverStart (src : Src) (n : Nat) (s : State) : Host.Outcome State Fault Refusal :=
  .next (forPf0 src (fresh s) fun t => if n < 16 then mvCtrlStore src n true false t else t)

def execMoverStop (src : Src) (n : Nat) (s : State) : Host.Outcome State Fault Refusal :=
  .next (forPf0 src (fresh s) fun t => if n < 16 then mvCtrlStore src n false true t else t)

def execMoverDoorbell (src : Src) (n : Nat) (s : State) : Host.Outcome State Fault Refusal :=
  .next (forPf0 src (fresh s) fun t => if n < 16 then mvDbStore src n t else t)

end Sys2Proof.Machine
end

