-- ==== Sys2Proof/Machine/Sieve.lean ====
section
/-!
DEFINITION. The Sieve's commands (R270 to R298).
-/

namespace Sys2Proof.Machine

/-! ### Classification (R270 to R285) -/

/-- What becomes of a frame with result words 5 and 6, or with the default result. -/
def svDeliver (s : State) (f : SvIn) (w5 w6 v : Nat) : State :=
  let op := bits w5 19 2
  let pcp := bits w5 16 3
  let vid := bits w5 4 12
  if tagTooLong op f.bytes pcp vid then
    bump s (if f.up then SIEVE_CNTX.OVERSIZE_UP f.bed else SIEVE_CNTX.OVERSIZE_DN f.bed) 1
  else if f.up then
    let l := tagApply op pcp vid f.bytes
    let x : UpIn := { port := f.port, slot := bits w5 24 8, q := bits w5 21 3, meterEn := bitAt w6 12, meter := bits w6 0 12,
                      bytes := if l.length < 60 then padTo 60 l else l, ver := v }
    { s with sched := { s.sched with upIn := s.sched.upIn ++ [x] } }
  else
    let x : DnIn := { port := bits w5 24 8, q := bits w5 21 3, tag := (op, pcp, vid), bytes := f.bytes, ver := v }
    { s with sched := { s.sched with dnIn := s.sched.dnIn ++ [x] } }

/-- A default action (R285). -/
def svDefault (s : State) (f : SvIn) (act v : Nat) : State :=
  if act = 1 then
    if f.up then
      svDeliver s f (rdAct s (SIEVE_BED_UP_DEF.ALLOC f.bed) * 2 ^ 24 + rdAct s (SIEVE_BED_UP_DEF.CLASS f.bed) * 2 ^ 21) 0 v
    else
      let p := rdAct s (SIEVE_BED_DN_DEF.GPORT f.bed)
      if p / 32 = f.bed then svDeliver s f (p * 2 ^ 24 + rdAct s (SIEVE_BED_DN_DEF.QUEUE f.bed) * 2 ^ 21) 0 v else s
  else s

/-- One frame is stamped with CUR, parsed, looked up and handed on. -/
def classify (f : SvIn) (s : State) : State :=
  let v := rd s SIEVE_VER.CUR
  let kt := bedKt s f.bed f.up
  match keyData s f.bed f.up kt f.bytes with
  | none =>
    svDefault (bump s (if f.up then SIEVE_CNT_UP.PARSEFAIL f.bed else SIEVE_CNT_DN.PARSEFAIL f.bed) 1) f
      (rdAct s (if f.up then SIEVE_BED_UP_CFG.PARSEFAIL f.bed else SIEVE_BED_DN_CFG.PARSEFAIL f.bed)) v
  | some d =>
    match svFind s (svKey kt f.up f.bed d) (visible (rd s SIEVE_VER.CUR) v) with
    | some (_, e) => svDeliver s f e.w5 e.w6 v
    | none =>
      svDefault (bump s (if f.up then SIEVE_CNT_UP.NOMATCH f.bed else SIEVE_CNT_DN.NOMATCH f.bed) 1) f
        (rdAct s (if f.up then SIEVE_BED_UP_CFG.NOMATCH f.bed else SIEVE_BED_DN_CFG.NOMATCH f.bed)) v

/-- The oldest waiting frame. (In part DEDUCED, log entry 24.) -/
def classifyNext (s : State) : State :=
  match s.sieve.frames with
  | [] => s
  | f :: r => classify f { s with sieve := { s.sieve with frames := r } }

def execSieveClassify (s : State) : Host.Outcome State Fault Refusal := .next (classifyNext (fresh s))

/-! ### The staging interface (R286) -/

/-- SIEVE_LOCK.OWNER's code of a source; 0 for one that cannot hold the interface. -/
def svOwner (src : Src) : Nat :=
  match src with
  | .pf 0 => 1
  | .pf _ => 0
  | .trowel _ => 2
  | .startup => 3

/-- Does the source with owner code `o` hold the interface? -/
def svHolds (s : State) (o : Nat) : Bool := o ≠ 0 && rd s SIEVE_LOCK.OWNER = o

/-- An access ignored under R286. -/
def svDeny (s : State) : State := bump s SIEVE_LOCK.DENIED 1

def svAcquire (o : Nat) (s : State) : State :=
  if rd s SIEVE_LOCK.OWNER = 0 then wr s SIEVE_LOCK.OWNER o else s

def svRelease (o : Nat) (s : State) : State := if svHolds s o then wr s SIEVE_LOCK.OWNER 0 else s

def execSieveAcquire (src : Src) (s : State) : Host.Outcome State Fault Refusal :=
  .next (forPf0 src (fresh s) (svAcquire (svOwner src)))

def execSieveRelease (src : Src) (s : State) : Host.Outcome State Fault Refusal :=
  .next (forPf0 src (fresh s) (svRelease (svOwner src)))

/-! ### Op records (R282, R287 to R291) -/

/-- The data bits that a key type names (R277). -/
def dataFits (kt d : Nat) : Bool :=
  match kt with
  | 0 => d < 2 ^ 60
  | 1 => d < 2 ^ 60
  | 2 => d < 2 ^ 60 && bits d 32 16 = 0
  | 3 => d < 2 ^ 60 && bits d 32 16 = 0
  | 4 => d < 2 ^ 128
  | 5 => d < 2 ^ 128
  | _ => d < 2 ^ 144

/-- The fields of an op record: KT, DIR, BED, data, OP (R282). -/
def SvRec.word (r : SvRec) (i : Nat) : Nat := Nat.land (r.words.getD i 0) (svMask (bitAt (r.words.getD 0 0) 28) i)
def SvRec.kt (r : SvRec) : Nat := bits (r.word 0) 29 3
def SvRec.dir (r : SvRec) : Bool := bitAt (r.word 0) 28
def SvRec.bed (r : SvRec) : Nat := bits (r.word 0) 25 3
def SvRec.data (r : SvRec) : Nat :=
  bits (r.word 0) 0 16 * 2 ^ 128 + r.word 1 * 2 ^ 96 + r.word 2 * 2 ^ 64 + r.word 3 * 2 ^ 32 + r.word 4
def SvRec.op (r : SvRec) : Nat := bits (r.word 7) 29 3
def SvRec.key (r : SvRec) : Nat := svKey r.kt r.dir r.bed r.data

/-- Result 6 (R282). -/
def recBad (s : State) (r : SvRec) : Bool :=
  r.op = 0 || decide (4 < r.op) || r.kt = 6 || (s.fuses.variant = 2 && r.kt ≠ 7) || decide (beds s ≤ r.bed) ||
    !dataFits r.kt r.data || (!r.dir && decide (r.op ≤ 2) && bits (r.word 5) 29 3 ≠ r.bed)

/-- The words of an entry as OP 4 returns them (R282). -/
def entryWords (e : SvEntry) : List Nat :=
  let d := e.key % 2 ^ 144
  [bits e.key 153 7 * 2 ^ 25 + d / 2 ^ 128, bits d 96 32, bits d 64 32, bits d 32 32, bits d 0 32, e.w5, e.w6]

/-- The endpoint table replaced. -/
def setTbl (s : State) (t : Table SvEntry) : State := touchShadow { s with sieve := { s.sieve with tbl := t } } tablePool

/-- The result of an insert, an update, a removal and a lookup: RESULT, the entry's place if there is one, the state. -/
def recInsert (r : SvRec) (s : State) : Nat × Option Nat × State :=
  match svPending s r.key with
  | some (i, _) => (4, some i, s)
  | none =>
    if 131072 ≤ s.sieve.tbl.length then (2, none, s)
    else
      match svPlace s.sieve.tbl r.key with
      | none => (3, none, s)
      | some (t, i) => (1, some i, setTbl s (t.insert i { key := r.key, w5 := r.word 5, w6 := r.word 6 }))

def recUpdate (r : SvRec) (s : State) : Nat × Option Nat × State :=
  match svPending s r.key with
  | none => (5, none, s)
  | some (i, e) =>
    if e.addPending then (1, some i, setTbl s (s.sieve.tbl.insert i { e with w5 := r.word 5, w6 := r.word 6 }))
    else if 131072 ≤ s.sieve.tbl.length then (2, some i, s)
    else
      match svPlace (s.sieve.tbl.insert i { e with removed := true, removePending := true }) r.key with
      | none => (3, some i, s)
      | some (t, j) => (1, some j, setTbl s (t.insert j { key := r.key, w5 := r.word 5, w6 := r.word 6 }))

def recRemove (r : SvRec) (s : State) : Nat × Option Nat × State :=
  match svPending s r.key with
  | none => (5, none, s)
  | some (i, e) =>
    if e.addPending then (1, some i, setTbl s (s.sieve.tbl.erase i))
    else (1, some i, setTbl s (s.sieve.tbl.insert i { e with removed := true, removePending := true }))

def recLookup (r : SvRec) (s : State) : Nat × Option Nat × State :=
  match svPending s r.key with
  | none => (5, none, s)
  | some (i, e) =>
    let ws := entryWords e
    (1, some i, (List.range 7).foldl (fun t w => wr t (SIEVE_OP.V w) (ws.getD w 0)) s)

/-- RESULT and INDEX of a record, and the refusal log (R289, R291). INDEX is a free value where no entry is named. (In part DESIGN CHOICE, log entry 9.) -/
def recEnd (r : SvRec) (x : Nat × Option Nat × State) : State :=
  let s := x.2.2
  let s1 := match x.2.1 with
    | some i => wr s SIEVE_OP_RES.INDEX i
    | none => useFree (wr s SIEVE_OP_RES.INDEX (freeBelow s (2 ^ 18)))
  let s2 := wr s1 SIEVE_OP_RES.RESULT x.1
  if x.1 = 1 then (if r.op ≤ 3 then wr s2 SIEVE_OP_STATUS.STAGED (rd s2 SIEVE_OP_STATUS.STAGED + 1) else s2)
  else if r.op = 4 ∧ x.1 = 5 then s2
  else
    let n := rd s2 SIEVE_STATUS.REJ_NEXT
    let s3 := wr (wr (wr s2 (SIEVE_REJ.RESULT n) x.1) (SIEVE_REJ.BED n) r.bed) (SIEVE_REJ.DIR n) (b2n r.dir)
    let s4 := wr (wr s3 (SIEVE_REJ.KT n) r.kt) (SIEVE_REJ.TAG n) (bits (r.word 7) 0 16)
    setFlag (wr s4 SIEVE_STATUS.REJ_NEXT (n + 1)) SIEVE_STATUS.BATCH_REFUSED true

/-- One record applied (R288, R289). -/
def recApply (r : SvRec) (s : State) : State :=
  svShow (recEnd r (
    if recBad s r then (6, none, s)
    else if r.op ≠ 4 ∧ 4096 ≤ rd s SIEVE_OP_STATUS.STAGED then (7, none, s)
    else
      match r.op with
      | 1 => recInsert r s
      | 2 => recUpdate r s
      | 3 => recRemove r s
      | _ => recLookup r s))

/-! ### Commits, aborts and versions (R292 to R298) -/

/-- An entry in the commit cycle (R293). -/
def commitEntry (v : Nat) (e : SvEntry) : SvEntry :=
  let e1 := if e.addPending then { e with addPending := false, addVer := v } else e
  if e1.removePending then { e1 with removePending := false, removeVer := v } else e1

/-- The configuration shadows of every tile change with the bed and window registers (R418, R422). -/
def touchTiles (s : State) : State :=
  (List.range (4 * rows s)).foldl (fun t i => touchShadow (touchShadow t (5 * 65536 + i)) (6 * 65536 + i)) s

/-- The commit itself, or its refusal while the next version has not retired (R292 to R296). (In part DEDUCED, log entry 24.) -/
def commitNow (s : State) : State :=
  let cur := rd s SIEVE_VER.CUR
  let nxt := (cur + 1) % 16
  let ret := rd s SIEVE_VER.RETIRED
  if bitAt ret nxt then
    let s1 := if s.sieve.dirty then touchTiles s else s
    let s2 := { s1 with sieve := { s1.sieve with
      tbl := s1.sieve.tbl.map fun e => (e.1, commitEntry nxt e.2)
      active := stagedRegs s1
      dirty := false } }
    let still := Nat.lor (2 ^ cur) (2 ^ nxt)
    let s3 := wr (wr s2 SIEVE_VER.CUR nxt) SIEVE_VER.RETIRED (ret - Nat.land ret still)
    svShow (wr (wr s3 SIEVE_OP_STATUS.STAGED 0) SIEVE_COMMIT.RESULT 1)
  else wr (bump s SIEVE_VER.REFUSED 1) SIEVE_COMMIT.RESULT 2

/-- The commit requests that no record precedes any more are carried out; GO shows whether one waits (R294). -/
def commitDue (s : State) : State :=
  let due := s.sieve.commits.takeWhile (· = 0)
  let s1 := due.foldl (fun t _ => commitNow t) { s with sieve := { s.sieve with commits := s.sieve.commits.dropWhile (· = 0) } }
  setFlag s1 SIEVE_COMMIT.GO (!s1.sieve.commits.isEmpty)

/-- The oldest record leaves the input buffer and is applied; a commit request that waited for it alone follows. -/
def recTake (r : SvRec) (rest : List SvRec) (s : State) : State :=
  commitDue (recApply r { s with sieve := { s.sieve with buf := rest, commits := s.sieve.commits.map (· - 1) } })

/-- The oldest record of the input buffer, if its OP is `op` or a reserved one. -/
def recNext (op : Nat) (s : State) : State :=
  match s.sieve.buf with
  | [] => s
  | r :: rest =>
    if r.op = op ∨ r.op = 0 ∨ 4 < r.op then recTake r rest s else s

/-- Every record of the input buffer, oldest first, with the commit requests between them. -/
def recAll (s : State) : State :=
  (List.range s.sieve.buf.length).foldl (fun t _ =>
    match t.sieve.buf with
    | [] => t
    | r :: rest => recTake r rest t) s

def execSieveInsert (s : State) : Host.Outcome State Fault Refusal := .next (recNext 1 (fresh s))
def execSieveUpdate (s : State) : Host.Outcome State Fault Refusal := .next (recNext 2 (fresh s))
def execSieveRemove (s : State) : Host.Outcome State Fault Refusal := .next (recNext 3 (fresh s))
def execSieveLookup (s : State) : Host.Outcome State Fault Refusal := .next (recNext 4 (fresh s))

/-- A record of the source with owner code `o` arrives (R286, R287). -/
def svSubmit (o : Nat) (words : List Nat) (s : State) : State :=
  if svHolds s o then
    if 64 ≤ s.sieve.buf.length then bump s SIEVE_OP_STATUS.OVERFLOW 1
    else svShow { s with sieve := { s.sieve with buf := s.sieve.buf ++ [{ words := words }] } }
  else svDeny s

/-- A write of SIEVE_OP_7. -/
def svWord7 (o : Nat) (v : Word) (s : State) : State :=
  let s1 := wr s (SIEVE_OP.V 7) (Nat.land v.toNat (svMask true 7))
  svSubmit o ((List.range 8).map fun w => rd s1 (SIEVE_OP.V w)) s1

def execSieveOpSubmit (src : Src) (v : Word) (s : State) : Host.Outcome State Fault Refusal :=
  .next (forPf0 src (fresh s) (svWord7 (svOwner src) v))

/-! ### Commit and abort requests (R286, R294, R297) -/

/-- A commit request of the source with owner code `o` (R286, R294): it waits for every record accepted before it. -/
def svCommit (o : Nat) (s : State) : State :=
  if svHolds s o then
    commitDue { s with sieve := { s.sieve with commits := s.sieve.commits ++ [s.sieve.buf.length] } }
  else wr (setFlag (svDeny s) SIEVE_COMMIT.GO false) SIEVE_COMMIT.RESULT 3

def execSieveCommit (src : Src) (s : State) : Host.Outcome State Fault Refusal :=
  .next (forPf0 src (fresh s) (svCommit (svOwner src)))

/-- An entry without its staged change; none for a staged insert (R297). -/
def abortEntry (e : Nat × SvEntry) : Option (Nat × SvEntry) :=
  if e.2.addPending then none
  else if e.2.removePending then some (e.1, { e.2 with removed := false, removePending := false })
  else some e

/-- Every staged change is discarded (R297). -/
def abortNow (s : State) : State :=
  let back := (s.regs.filter fun e => !svStaged (e.1 / 32 * 4))
  let regs := s.sieve.active.foldl (fun (t : Table Nat) e => t.insert e.1 e.2) back
  let s1 := { s with
    regs := regs
    sieve := { s.sieve with tbl := s.sieve.tbl.filterMap abortEntry, dirty := false } }
  svShow (setFlag (wr s1 SIEVE_OP_STATUS.STAGED 0) SIEVE_STATUS.BATCH_REFUSED false)

def svAbort (o : Nat) (s : State) : State := if svHolds s o then abortNow (recAll s) else svDeny s

def execSieveAbort (src : Src) (s : State) : Host.Outcome State Fault Refusal :=
  .next (forPf0 src (fresh s) (svAbort (svOwner src)))

/-- FORCE_RELEASE (R286): the old holder's buffered records are discarded and counted, and a commit request of its that
waits commits nothing. -/
def svForce (s : State) : State :=
  let n := s.sieve.buf.length
  let s1 := bump { s with sieve := { s.sieve with buf := [], commits := [] } } SIEVE_LOCK.DENIED n
  let s2 := if s.sieve.commits.isEmpty then s1 else setFlag (wr s1 SIEVE_COMMIT.RESULT 3) SIEVE_COMMIT.GO false
  wr (abortNow s2) SIEVE_LOCK.OWNER 0

def execSieveForceRelease (s : State) : Host.Outcome State Fault Refusal := .next (svForce (fresh s))

/-- Version v retires (R295), once it is not in force and no frame of it waits between the Sieve and a buffer. (In part DEDUCED, log entry 24.) -/
def retire (v : Nat) (s : State) : State :=
  let ret := rd s SIEVE_VER.RETIRED
  let live : Bool := (s.sched.upIn.any fun f => f.ver = v) || s.sched.dnIn.any fun f => f.ver = v
  if v < 16 ∧ v ≠ rd s SIEVE_VER.CUR ∧ ¬ bitAt ret v ∧ ¬ live then
    let step (e : Nat × SvEntry) : Option (Nat × SvEntry) :=
      if e.2.removed && !e.2.removePending && e.2.removeVer = v then none
      else if !e.2.addPending && e.2.addVer = v then some (e.1, { e.2 with addRetired := true })
      else some e
    svShow (wr { s with sieve := { s.sieve with tbl := s.sieve.tbl.filterMap step } } SIEVE_VER.RETIRED (ret + 2 ^ v))
  else s

def execSieveVersionRetire (v : Nat) (s : State) : Host.Outcome State Fault Refusal := .next (retire v (fresh s))

/-! ### Staged registers (R276, R277, R286) -/

/-- A write of a staged register with fields `fs` by the source with owner code `o`. -/
def svStagedStore (o : Nat) (fs : List Fld) (v : Word) (s : State) : State :=
  if svHolds s o then
    let s1 := writeFlds s fs v
    svShow { s1 with sieve := { s1.sieve with dirty := true } }
  else svDeny s

/-- A write of a bed CFG register: KT 6 is stored as 0, and the NL-7720-16 keeps 7. -/
def svCfgStore (o b : Nat) (up : Bool) (v : Word) (s : State) : State :=
  let kt := if up then SIEVE_BED_UP_CFG.KT b else SIEVE_BED_DN_CFG.KT b
  let fs := if up then [SIEVE_BED_UP_CFG.NOMATCH b, SIEVE_BED_UP_CFG.PARSEFAIL b, SIEVE_BED_UP_CFG.PVID b]
    else [SIEVE_BED_DN_CFG.NOMATCH b, SIEVE_BED_DN_CFG.PARSEFAIL b, SIEVE_BED_DN_CFG.PVID b]
  if svHolds s o then
    let w := fldOf kt v
    wr (svStagedStore o fs v s) kt (if s.fuses.variant = 2 then 7 else if w = 6 then 0 else w)
  else svDeny s

def execSieveBedCfgWrite (src : Src) (b : Nat) (up : Bool) (v : Word) (s : State) : Host.Outcome State Fault Refusal :=
  .next (forPf0 src (fresh s) fun t => if b < beds t then svCfgStore (svOwner src) b up v t else t)

end Sys2Proof.Machine
end

