-- ==== Sys2Proof/Machine/Mgmt.lean ====
section
/-!
DEFINITION. The commands of chapter 16: the PCI Express link, function resets, features, notification queues, mailboxes,
bed resets and the console UART.
-/

namespace Sys2Proof.Machine

/-! ### The link and function resets (R482, R493) -/

/-- The part of a reset of PF0 that lies in other blocks. -/
def pf0Clear (s : State) : State :=
  let s1 := if rd s SIEVE_LOCK.OWNER = 1 then svForce s else s
  let s2 := (List.range 16).foldl (fun t n => if rd t (MV_CH_STATUS.STARTER n) = 1 then mvStop n t else t) s1
  wr (wr (wr (wr s2 MOVER_HOST_BASE_LO.BASE_LO 0) MOVER_HOST_BASE_HI.BASE_HI 0) MOVER_HOST_LIMIT_LO.BASE_LO 0)
    MOVER_HOST_LIMIT_HI.BASE_HI 0

/-- A function reset of function f. (In part DESIGN CHOICE, log entry 17.) -/
def fnReset (s : State) (f : Nat) : State := if f = 0 then pf0Clear (fnClear s 0) else fnClear s f

def execFunctionLevelReset (f : Nat) (s : State) : Host.Outcome State Fault Refusal :=
  let t := fresh s
  .next (if f < fns t then fnReset t f else t)

/-- The link comes up, where R482 lets it train: STOCK stable, pad group 1 released; PCIE_PERST_N has risen by then. (In part DESIGN CHOICE, log entry 17.) -/
def linkUp (speed width : Nat) (s : State) : State :=
  if 2 ≤ mode s ∧ flag s CLK_STATUS.STOCK_LOCK ∧ ¬ bitAt (rd s MODE_PAD.HOLD) 1 ∧ 1 ≤ speed ∧ speed ≤ 5 ∧
      (width = 1 ∨ width = 2 ∨ width = 4 ∨ width = 8) then
    let s1 := { s with mgmt := { s.mgmt with perst := false } }
    wr (wr (setFlag s1 MGMT_PCIE.LINK_UP true) MGMT_PCIE.SPEED speed) MGMT_PCIE.WIDTH width
  else s

def execPcieLinkUp (speed width : Nat) (s : State) : Host.Outcome State Fault Refusal := .next (linkUp speed width (fresh s))

/-- PCIE_PERST_N falls; without power the functions find it low when they come up. (In part DESIGN CHOICE, log entry 17.) -/
def perstFall (s : State) : State :=
  if mode s < 2 then { s with mgmt := { s.mgmt with perst := true } }
  else
    let s1 := wr (wr (setFlag (bump s MGMT_PCIE.PERST 1) MGMT_PCIE.LINK_UP false) MGMT_PCIE.SPEED 0) MGMT_PCIE.WIDTH 0
    (List.range (fns s)).foldl fnReset { s1 with mgmt := { s1.mgmt with perst := true } }

def execPerstAssert (s : State) : Host.Outcome State Fault Refusal := .next (perstFall (fresh s))

/-- Function f's accesses to its own window are ignored during a reset of its bed (R506), and every function's while
PCIE_PERST_N holds it in reset (R482). -/
def fnQuiet (s : State) (f : Nat) : Bool := s.mgmt.perst || (f ≠ 0 && s.lane.resetting.contains (f - 1))

/-! ### Features (R495, R496) -/

/-- The check of R495. -/
def commitResult (s : State) (f : Nat) : Nat :=
  let drv (i : Nat) : Nat := rd s (DRV_FEATURES.V f i)
  let lack := (List.range 4).any fun i => Nat.land (drv i) (devFeat s f i) ≠ drv i
  if flag s (NQ_CFG.EN f) || flag s (MBX_CTRL.BUSY f) then 2
  else if lack then 3
  else if !bitAt (drv 3) 31 then 4
  else if (bitAt (drv 0) 1 || bitAt (drv 0) 6) && !bitAt (drv 0) 0 then 5
  else 1

/-- FEAT_CTRL.COMMIT. -/
def featCommit (f : Nat) (s : State) : State :=
  if fns s ≤ f ∨ fnQuiet s f then s
  else
    let r := commitResult s f
    let s1 := wr s (FEAT_CTRL.RESULT f) r
    if r = 1 then (List.range 4).foldl (fun t i => wr t (NEGOTIATED.V f i) (rd s (DRV_FEATURES.V f i))) s1 else s1

def execFeatureCommit (f : Nat) (s : State) : Host.Outcome State Fault Refusal := .next (featCommit f (fresh s))

/-! ### Notification queues (R498 to R501) -/

/-- LOG_SIZE within its limits, as the ring's size. -/
def nqSize (s : State) (f : Nat) : Nat := 2 ^ clampNat 4 12 (rd s (NQ_CFG.LOG_SIZE f))

/-- The queue is full (R500). -/
def nqFull (s : State) (f : Nat) : Bool := (rd s (NQ_STATUS.TAIL f) + 1) % nqSize s f = rd s (NQ_HEAD.HEAD f)

/-- An entry can be written now. (In part DESIGN CHOICE, log entry 17.) -/
def nqOpen (s : State) (f : Nat) : Bool :=
  flag s (NQ_CFG.EN f) && (fnAt s f).cfg.bme && !(fnAt s f).cfg.d3 && !nqFull s f

/-- The vector is raised, or its pending bit set while it is masked. (In part DESIGN CHOICE, log entry 17.) -/
def nqRaise (s : State) (f : Nat) : State :=
  let x := { fnAt s f with unsig := 0 }
  if x.cfg.masked then putFn s f { x with msixPend := true } else emit (putFn s f x) (.msix f x.cfg.msgAddr x.cfg.msgData)

/-- An entry is written at TAIL (R499, R500), and the vector raised as R501 says. (In part DESIGN CHOICE, log entry 17.) -/
def nqPut (s : State) (f : Nat) (e : NqEv) : State :=
  let x := fnAt s f
  let tail := rd s (NQ_STATUS.TAIL f)
  let w0 := rd s (NQ_STATUS.PHASE f) * 2 ^ 31 + e.ty % 256 * 65536 + x.seq
  let w3 := secOf e.u % 65536 * 65536 + b2n e.valid * 32768
  let base := rd s (NQ_BASE_HI.BASE_HI f) * 2 ^ 32 + rd s (NQ_BASE_LO.BASE_LO f) * 4096
  let s1 := emit s (.hostWrite f (base + 16 * tail) (leBytes 4 w0 ++ leBytes 4 e.arg ++ leBytes 4 (nsOf e.u) ++ leBytes 4 w3))
  let t' := (tail + 1) % nqSize s f
  let s2 := wr s1 (NQ_STATUS.TAIL f) t'
  let s3 := if t' = 0 then wr s2 (NQ_STATUS.PHASE f) (1 - rd s (NQ_STATUS.PHASE f)) else s2
  let s4 := putFn s3 f { x with seq := (x.seq + 1) % 65536, unsig := x.unsig + 1 }
  if !featOn s f 1 || rd s (NQ_CFG.COAL_US f) = 0 || decide (max 1 (rd s (NQ_CFG.COAL_N f)) ≤ x.unsig + 1) then nqRaise s4 f else s4

/-- The entry of type 7 that tells of the losses so far, when there are any and room has returned. -/
def nqOwed (s : State) (f : Nat) : State :=
  let x := fnAt s f
  if x.owed = 0 ∨ ¬ nqOpen s f then s
  else nqPut (putFn s f { x with owed := 0 }) f
    { ty := 7, arg := min x.owed 0xFFFF, u := now s, valid := flag s TIME_STATUS.VALID }

/-- The host configuration of a function as a command carries it; a vector whose mask is lifted while its pending bit is set
sends its message. (In part DESIGN CHOICE, log entry 17.) -/
def seeHost (s : State) (f : Nat) (h : HostCfg) : State :=
  let x := { fnAt s f with cfg := h }
  if x.msixPend && !h.masked then emit (putFn s f { x with msixPend := false }) (.msix f h.msgAddr h.msgData) else putFn s f x

/-- The oldest notification on its way to function f is written, or lost. -/
def nqNext (f : Nat) (h : HostCfg) (s : State) : State :=
  match s.nqIn.get f [] with
  | [] => s
  | e :: r =>
    let s1 := nqOwed (seeHost { s with nqIn := s.nqIn.set f r [] } f h) f
    if nqOpen s1 f then nqPut s1 f e
    else bump (putFn s1 f { fnAt s1 f with owed := (fnAt s1 f).owed + 1 }) (NQ_STATUS.LOST f) 1

def execNqEntryWrite (f : Nat) (h : HostCfg) (s : State) : Host.Outcome State Fault Refusal := .next (nqNext f h (fresh s))

/-- A write of NQ_CFG while NQ is in force (R498). -/
def nqCfgStore (f : Nat) (v : Word) (s : State) : State :=
  if fns s ≤ f ∨ fnQuiet s f ∨ ¬ featOn s f 0 then s
  else
    let s1 := wr (wr (wr s (NQ_CFG.LOG_SIZE f) (fldOf (NQ_CFG.LOG_SIZE f) v)) (NQ_CFG.COAL_N f) (fldOf (NQ_CFG.COAL_N f) v))
      (NQ_CFG.COAL_US f) (fldOf (NQ_CFG.COAL_US f) v)
    if !fldSet (NQ_CFG.EN f) v then setFlag s1 (NQ_CFG.EN f) false
    else if flag s (NQ_CFG.EN f) ∨ ¬ (fnAt s f).cfg.bme then s1
    else
      let s2 := setFlag (setFlag s1 (NQ_CFG.EN f) true) (NQ_STATUS.ERR f) false
      putFn (wr (wr s2 (NQ_STATUS.TAIL f) 0) (NQ_STATUS.PHASE f) 1) f { fnAt s f with seq := 0 }

def execNqEnable (f : Nat) (v : Word) (h : HostCfg) (s : State) : Host.Outcome State Fault Refusal :=
  .next (nqCfgStore f v (seeHost (fresh s) f h))

/-- A write of NQ_HEAD (R500). -/
def nqHeadStore (f : Nat) (v : Word) (s : State) : State :=
  if fns s ≤ f ∨ fnQuiet s f ∨ ¬ featOn s f 0 then s
  else nqOwed (wr s (NQ_HEAD.HEAD f) (fldOf (NQ_HEAD.HEAD f) v)) f

def execNqHeadWrite (f : Nat) (v : Word) (h : HostCfg) (s : State) : Host.Outcome State Fault Refusal :=
  .next (nqHeadStore f v (seeHost (fresh s) f h))

/-- COAL_US after the first entry not signalled. -/
def nqCoal (f : Nat) (s : State) : State :=
  if featOn s f 1 ∧ (fnAt s f).unsig ≠ 0 then nqRaise s f else s

def execNqCoalTimeout (f : Nat) (h : HostCfg) (s : State) : Host.Outcome State Fault Refusal :=
  .next (nqCoal f (seeHost (fresh s) f h))

/-- An error completion or timeout on a request of function f (R492). -/
def nqFail (f : Nat) (s : State) : State :=
  if f < fns s then emit (aerSet (setFlag (setFlag s (NQ_CFG.EN f) false) (NQ_STATUS.ERR f) true) f .request) (.aer f) else s

def execNqWriteError (f : Nat) (s : State) : Host.Outcome State Fault Refusal := .next (nqFail f (fresh s))

/-! ### Mailboxes (R503, R504) -/

/-- `n` words copied, word w of the list of fields `a` to word w of `b`. -/
def copyWords (s : State) (a b : Nat → Fld) (n : Nat) : State := (List.range n).foldl (fun t w => wr t (b w) (rd s (a w))) s

/-- A write of MBX_CTRL while MBX is in force. -/
def mbxStore (f : Nat) (v : Word) (s : State) : State :=
  if fns s ≤ f ∨ fnQuiet s f ∨ ¬ featOn s f 2 then s
  else
    let s1 := wr s (MBX_CTRL.REQ_WORDS f) (fldOf (MBX_CTRL.REQ_WORDS f) v)
    if !fldSet (MBX_CTRL.GO f) v then s1
    else if flag s (MBX_CTRL.BUSY f) then bump s1 (FN_STATUS.MBX_REFUSED f) 1
    else if !flag s (MBXF_CTRL.ENABLE f) then mbxEnd s1 f 4
    else
      let n := clampNat 1 64 (rd s1 (MBX_CTRL.REQ_WORDS f))
      let s2 := wr (copyWords s1 (MBX_REQ.V f) (MBXF_REQ.V f) n) (MBXF_CTRL.REQ_WORDS f) n
      pulseNamed (setFlag (setFlag s2 (MBXF_CTRL.PEND f) true) (MBX_CTRL.BUSY f) true) (rd s (MBXF_CTRL.EVT f))

def execMbxRequest (f : Nat) (v : Word) (s : State) : Host.Outcome State Fault Refusal := .next (mbxStore f v (fresh s))

/-- A write of MBXF_f_CTRL by firmware. -/
def mbxfStore (f : Nat) (v : Word) (s : State) : State :=
  if fns s ≤ f then s
  else
    let s1 := wr (wr s (MBXF_CTRL.ENABLE f) (fldOf (MBXF_CTRL.ENABLE f) v)) (MBXF_CTRL.TIMEOUT_MS f) (fldOf (MBXF_CTRL.TIMEOUT_MS f) v)
    let s2 := wr (wr s1 (MBXF_CTRL.EVT f) (fldOf (MBXF_CTRL.EVT f) v)) (MBXF_CTRL.RESP_WORDS f) (fldOf (MBXF_CTRL.RESP_WORDS f) v)
    if fldSet (MBXF_CTRL.DONE f) v ∧ flag s (MBXF_CTRL.PEND f) then
      let n := min 64 (rd s2 (MBXF_CTRL.RESP_WORDS f))
      mbxEnd (wr (copyWords s2 (MBXF_RESP.V f) (MBX_RESP.V f) n) (MBX_CTRL.RESP_WORDS f) n) f 1
    else s2

def execMbxDone (f : Nat) (v : Word) (s : State) : Host.Outcome State Fault Refusal := .next (mbxfStore f v (fresh s))

/-- TIMEOUT_MS after GO. -/
def mbxLate (f : Nat) (s : State) : State := if flag s (MBXF_CTRL.PEND f) then mbxEnd s f 2 else s

def execMbxTimeout (f : Nat) (s : State) : Host.Outcome State Fault Refusal := .next (mbxLate f (fresh s))

/-! ### Bed resets (R505 to R508) -/

/-- A request for a reset of BED_b: by PF0 or firmware through MGMT_BED_b, by the bed's tenant through BEDM_CTRL. -/
def bedAsk (src : Src) (b : Nat) (s : State) : State :=
  match src with
  | .pf (f + 1) => if f = b then (if featOn s (f + 1) 4 ∧ ¬ fnQuiet s (f + 1) then askBed s b else s) else hole s (f + 1)
  | _ => askBed s b

def execBedReset (src : Src) (b : Nat) (s : State) : Host.Outcome State Fault Refusal := .next (bedAsk src b (fresh s))

def execBedResetComplete (b : Nat) (s : State) : Host.Outcome State Fault Refusal :=
  let t := fresh s
  .next (if t.lane.resetting.contains b then endBed t b else t)

/-- A write of MGMT_BED_b: TENANT_RESET_EN (R496), then the reset it requests. -/
def mgmtBedStore (b : Nat) (v : Word) (s : State) : State :=
  if beds s ≤ b then s
  else
    let on := fldSet (MGMT_BED.TENANT_RESET_EN b) v
    let s1 := setFlag s (MGMT_BED.TENANT_RESET_EN b) on
    let n := rd s1 (NEGOTIATED.V (b + 1) 0)
    let s2 := if on then s1 else wr s1 (NEGOTIATED.V (b + 1) 0) (n - Nat.land n 16)
    if fldSet (MGMT_BED.RESET b) v then askBed s2 b else s2

def execTenantResetEnWrite (b : Nat) (v : Word) (s : State) : Host.Outcome State Fault Refusal :=
  .next (mgmtBedStore b v (fresh s))

/-! ### The console UART (R511, R513) -/

/-- The receiver at one sample of the line (R511, R512), and what it ends there: a byte, or a framing error. Sample 17 of a
stop bit arms it and may be the next start edge itself. (In part DESIGN CHOICE, log entry 33.) -/
def UartRx.sample (r : UartRx) (high : Bool) : UartRx × Option (Option Byte) :=
  match r with
  | .armed => (if high then .armed else .frame 1 0 0, none)
  | .wait => (if high then .armed else .wait, none)
  | .frame i hi bits =>
    let b := i / 32
    let n := (if 15 ≤ i % 32 ∧ i % 32 ≤ 17 then hi else 0) + b2n high
    if i % 32 = 15 ∨ i % 32 = 16 then (.frame (i + 1) n bits, none)
    else if i % 32 ≠ 17 then (.frame (i + 1) 0 bits, none)
    else if b = 0 then (if 2 ≤ n then .armed else .frame (i + 1) 0 bits, none)
    else if b ≤ 8 then (.frame (i + 1) 0 (bits + if 2 ≤ n then 2 ^ (b - 1) else 0), none)
    else if 2 ≤ n then (if high then .armed else .frame 1 0 0, some (some (BitVec.ofNat 8 bits)))
    else (if high then .armed else .wait, some none)

/-- The receiver along a run of samples, and what it ends, in order. -/
def UartRx.run (r : UartRx) : List Bool → UartRx × List (Option Byte)
  | [] => (r, [])
  | x :: l =>
    let a := r.sample x
    let b := a.1.run l
    (b.1, a.2.toList ++ b.2)

/-- The samples of a line and of one bit time more at level `stop`. -/
def UartLine.samples (l : UartLine) (stop : Bool) : List Bool :=
  (match l with
   | .byte x => true :: List.replicate 32 false ++ (List.range 8).flatMap fun i => List.replicate 32 (x.getLsbD i)
   | .levels r => r) ++ List.replicate 32 stop

/-- A frame ends: its byte, or none for a framing error. -/
def uartByte (s : State) (x : Option Byte) : State :=
  match x with
  | none => bump s UART_ERR.FRAMING 1
  | some b =>
    if 64 ≤ s.mgmt.rx.length then bump s UART_ERR.OVERRUN 1
    else showUart { s with mgmt := { s.mgmt with rx := s.mgmt.rx ++ [b] } }

/-- What the receive pin shows, sample by sample; the receiver rests while the UART is off. -/
def uartIn (l : UartLine) (stop : Bool) (s : State) : State :=
  if ¬ flag s UART_CTRL.EN ∨ mode s < 2 then { s with mgmt := { s.mgmt with uart := .armed } }
  else
    let r := s.mgmt.uart.run (l.samples stop)
    r.2.foldl uartByte { s with mgmt := { s.mgmt with uart := r.1 } }

def execUartRxFrame (line : UartLine) (stop : Bool) (s : State) : Host.Outcome State Fault Refusal :=
  .next (uartIn line stop (fresh s))

/-- A write of UART_DATA. (In part DESIGN CHOICE, log entry 33.) -/
def uartStore (v : Word) (s : State) : State :=
  if 64 ≤ s.mgmt.tx.length then bump s UART_ERR.TX_DROP 1
  else showUart { s with mgmt := { s.mgmt with tx := s.mgmt.tx ++ [BitVec.ofNat 8 v.toNat] } }

def execUartDataWrite (src : Src) (v : Word) (s : State) : Host.Outcome State Fault Refusal :=
  .next (forPf0 src (fresh s) (uartStore v))

/-- A read of UART_DATA: the word it returns, and what it pops. -/
def uartRead (src : Src) (s : State) : Nat × State :=
  let owner : Bool := match src with
    | .pf 0 => !flag s UART_CTRL.RX_OWNER
    | .trowel _ => flag s UART_CTRL.RX_OWNER
    | _ => false
  match s.mgmt.rx with
  | x :: r => if owner then (256 + x.toNat, showUart { s with mgmt := { s.mgmt with rx := r } }) else (0, s)
  | [] => (0, s)

def execUartDataPop (src : Src) (s : State) : Host.Outcome State Fault Refusal :=
  .next (forPf0 src { fresh s with readData := 0 } fun t =>
    let x := uartRead src t
    { x.2 with readData := BitVec.ofNat 32 x.1 })

/-- The sample period of the UART in units of 1/256 MGMT cycle (R510). -/
def uartPeriod (s : State) : Nat := max 1333 (rd s UART_CTRL.DIV)

/-- The bits of a byte on the line (R510): the start bit, the data bits from the least significant one, and the stop bit. -/
def uartBits (x : Byte) : List Bool := false :: (List.range 8).map (fun i => x.getLsbD i) ++ [true]

/-- The shifter has sent a byte; none leaves a held pad (R444). (In part DESIGN CHOICE, log entry 33.) -/
def uartSent (s : State) : State :=
  match s.mgmt.tx with
  | x :: r => if flag s UART_CTRL.EN && !padHeld s 4 then emit (showUart { s with mgmt := { s.mgmt with tx := r } }) (.uart (uartPeriod s) (uartBits x)) else s
  | [] => s

def execUartTxByteSent (s : State) : Host.Outcome State Fault Refusal := .next (uartSent (fresh s))

end Sys2Proof.Machine
end

