-- ==== Sys2Proof/Machine/Optics.lean ====
section
/-!
DEFINITION. The commands of the line optics (chapter 02).
-/

namespace Sys2Proof.Machine

/-! ### Lasers (R4, R48) -/

/-- The channel that channel k's laser is assigned: for the transmitter of R190 the one that it visits. -/
def assignedCh (s : State) (tx : Bool) (k : Nat) : Nat := if tx && k = ownCh s then s.join.tuned.getD k else k

/-- The lasers that serve, or are being brought in for, a channel. -/
def lasersOf (s : State) (tx : Bool) (k : Nat) : List Nat :=
  engOf s tx k :: ((if tx then s.line.txGraft else s.line.rxGraft).find k).toList

/-- The lasers of a channel go DARK, or start to tune where they are DARK. -/
def enableLasers (s : State) (tx on : Bool) (k : Nat) : State :=
  (lasersOf s tx k).foldl (fun t e =>
    if on then
      if (laserOf t tx e).st = 0 && lineUp t && !engFenced t tx e then tuneLaser t tx e (assignedCh t tx k) else t
    else if (laserOf t tx e).st = 0 then t
    else retireLaser t tx e fun x => darkLaser x tx e) s

/-- A write of LRX_CTRL_k; R4 and R7 leave an unlicensed channel at 0. -/
def lrxCtrlWrite (k : Nat) (v : Word) (s : State) : State :=
  if k < chans s then
    let s1 := writeFlds s [LRX_CTRL.DOZE_EN k, LRX_CTRL.ENABLE k] v
    let s2 := enableLasers (if flag s1 (LRX_CTRL.DOZE_EN k) then s1 else cutDoze s1 k) false (fldSet (LRX_CTRL.ENABLE k) v) k
    if flag s2 (LRX_CTRL.ENABLE k) then s2 else loseChannel s2 k
  else s

def execLrxEnableWrite (k : Nat) (v : Word) (s : State) : Host.Outcome State Fault Refusal :=
  .next (judgeAsk (lrxCtrlWrite k v (fresh s)))

/-- A write of LTX_CTRL_k. -/
def ltxCtrlWrite (k : Nat) (v : Word) (s : State) : State :=
  if k < chans s then
    let s1 := writeFlds s [LTX_CTRL.ENABLE k] v
    enableLasers s1 true (fldSet (LTX_CTRL.ENABLE k) v) k
  else s

def execLtxEnableWrite (k : Nat) (v : Word) (s : State) : Host.Outcome State Fault Refusal :=
  .next (ltxCtrlWrite k v (fresh s))

/-- The set point of a TUNING laser has settled. -/
def laserSettle (tx : Bool) (e : Nat) (s : State) : State :=
  let l := laserOf s tx e
  if l.st = 1 then putLaser s tx e { l with st := 2, good := 0 } else s

def execLaserSettled (tx : Bool) (e : Nat) (s : State) : Host.Outcome State Fault Refusal :=
  .next (laserSettle tx e (fresh s))

/-- 20 ms in LOCKING without lock. -/
def lockTimeout (tx : Bool) (e : Nat) (s : State) : State :=
  let l := laserOf s tx e
  if l.st = 2 then lockFault (putLaser s tx e { l with st := 4, good := 0 }) tx e else s

def execLaserLockTimeout (tx : Bool) (e : Nat) (s : State) : Host.Outcome State Fault Refusal :=
  .next (lockTimeout tx e (fresh s))

/-- 1 ms after a laser went LOST. -/
def lostRetry (tx : Bool) (e : Nat) (s : State) : State :=
  let l := laserOf s tx e
  if l.st = 4 then tuneLaser s tx e l.chan else s

def execLaserLostRetry (tx : Bool) (e : Nat) (s : State) : Host.Outcome State Fault Refusal :=
  .next (lostRetry tx e (fresh s))

/-! ### Segments (R63 to R68) -/

/-- A segment of channel k at the engine that serves it and at a spare beside it. -/
def takeSegment (k : Nat) (seg : RxSeg) (s : State) : State := acquire (seg.par.elim s (acquirePar s k)) k seg.own

def execSegmentAcquire (k : Nat) (seg : RxSeg) (s : State) : Host.Outcome State Fault Refusal :=
  .next (takeSegment k seg (fresh s))

/-- The receiver's DSP is powered again before the end of the last dozed segment (R68); the segments it dozed through
count. (In part DEDUCED, log entry 18.) -/
def dozeRestore (k : Nat) (s : State) : State :=
  if k < chans s ∧ flag s (LRX_STATUS.DOZING k) then
    let r := rxOf s k
    setFlag (bump (putRx s k { r with back := true }) (LRX_DOZE.COUNT k) r.run) (LRX_STATUS.DOZING k) false
  else s

def execRxDozeRestore (k : Nat) (s : State) : Host.Outcome State Fault Refusal := .next (dozeRestore k (fresh s))

/-! ### The ramp and the SOA limit (R74, R76, R460) -/

/-- The shadow ramp table. -/
def shadowRamp (s : State) : List Nat := (List.range 16).map fun k => rd s (LINE_RAMP.LEVEL k)

/-- No entry is above the one after it. -/
def rising : List Nat → Bool
  | a :: b :: r => a ≤ b && rising (b :: r)
  | _ => true

/-- RAMP_COMMIT set (R74). -/
def commitRamp (s : State) : State :=
  let s1 := setFlag s LINE_CTRL.RAMP_COMMIT false
  if rising (shadowRamp s) then { s1 with line := { s1.line with ramp := shadowRamp s } }
  else setFlag s1 LINE_STATUS.RAMP_ERR true

def execRampCommit (s : State) : Host.Outcome State Fault Refusal := .next (commitRamp (fresh s))

/-- A write of LINE_SOA_LIMIT (R76); in trim a write of GAIN_CAP goes to SOA_SAVED, and takes effect only where it lowers
the value (R460). -/
def soaLimitStore (v : Word) (s : State) : State :=
  let floor := max 0x200 (fldOf LINE_SOA_LIMIT.FLOOR v)
  let gain := max floor (fldOf LINE_SOA_LIMIT.GAIN_CAP v)
  let now := rd s LINE_SOA_LIMIT.GAIN_CAP
  let s1 := wr s LINE_SOA_LIMIT.FLOOR floor
  if rd s PWR_THERM.STATE = 2 then
    wr (wr s1 PWR_TRIM.SOA_SAVED gain) LINE_SOA_LIMIT.GAIN_CAP (max floor (min now gain))
  else wr s1 LINE_SOA_LIMIT.GAIN_CAP gain

def execSoaLimitWrite (v : Word) (s : State) : Host.Outcome State Fault Refusal := .next (soaLimitStore v (fresh s))

/-! ### The protection tree (R78 to R82) -/

/-- LOS of a connector declared or cleared; the photodiodes work from LOAD on. -/
def losSet (c : Nat) (on : Bool) (s : State) : State :=
  if c < 2 ∧ 2 ≤ mode s then losCondition (setFlag s (if c = 0 then LINE_STATUS.LOS_A else LINE_STATUS.LOS_B) on) else s

def execLosDeclare (conn : Nat) (s : State) : Host.Outcome State Fault Refusal := .next (losSet conn true (fresh s))

def execLosClear (conn : Nat) (s : State) : Host.Outcome State Fault Refusal := .next (losSet conn false (fresh s))

/-- 100 ms in TIME ticks. -/
def hundredMs : Nat := 125000000

/-- The connector in use has been in LOS for HOLDOFF microseconds (R80). (In part DEDUCED, log entry 19.) -/
def holdoffEnd (s : State) : State :=
  let c := connNo s
  let due : Bool := match s.line.lastSwitch with
    | none => true
    | some t => hundredMs ≤ (s.time.c + 2 ^ 64 - t) % 2 ^ 64
  if 2 ≤ mode s ∧ forceOf s = 0 ∧ flag s LINE_CTRL.AUTO_EN ∧ losOn s c ∧ losOn s (1 - c) = false ∧ due then switchTo s (1 - c)
  else s

def execLosHoldoffExpiry (s : State) : Host.Outcome State Fault Refusal := .next (judgeAsk (holdoffEnd (fresh s)))

/-- The connector that FORCE names, or else the head end's command (R80, R81). -/
def switchTarget (s : State) : Option Nat :=
  if forceOf s = 0 then s.line.switchCmd else some (forceOf s - 1)

/-- The switch that R80 calls for is made; with both connectors in LOS the terminal does not switch (R81), and a command lapses. (In part DEDUCED, log entry 19.) -/
def protSwitch (s : State) : State :=
  match switchTarget s with
  | some c => if c ≠ connNo s ∧ 2 ≤ mode s ∧ ¬(losOn s 0 ∧ losOn s 1) then switchTo s c else { s with line := { s.line with switchCmd := none } }
  | none => s

def execProtectionSwitch (s : State) : Host.Outcome State Fault Refusal := .next (judgeAsk (protSwitch (fresh s)))

def execSwitchSettled (s : State) : Host.Outcome State Fault Refusal :=
  .next (setFlag (fresh s) LINE_STATUS.SWITCHING false)

/-! ### The timing receiver, spares (R70, R83, R84) -/

/-- A frame boundary: the timing receiver moves where R70 calls for it. -/
def timingChange (s : State) : State :=
  match wantTiming s with
  | some (k, fb) =>
    if lineUp s ∧ (s.line.timed = false ∨ k ≠ timingCh s ∨ fb ≠ flag s LINE_CLK_SRC.FALLBACK) then moveTiming s k fb else s
  | none => s

def execTimingRxChange (s : State) : Host.Outcome State Fault Refusal := .next (timingChange (fresh s))

/-- The ready graft of a class for place k whose spare laser is LOCKED. -/
def lockedGraft (s : State) (tx : Bool) (k : Nat) : Option Graft :=
  s.rake.grafts.find? fun g =>
    g.ready && g.unit.cls = (if tx then .ltx else .lrx) && g.serves = k && (laserOf s tx g.spare.idx).st = 3

/-- The record of channel k's receiver when its spare takes over: what the engine itself holds is the spare's own. -/
def Rx.movedTo (old new : Rx) : Rx :=
  { old with gain := new.gain, afc := new.afc, align := new.align, taps := new.taps, tail := new.tail, back := new.back, stay := new.stay }

/-- The channel moves to its spare receiver (R83): at a frame boundary once the spare has read a frame header, or, where the
engine it replaces is fenced, as soon as its laser is LOCKED, and the Hunt then acquires from HUNT. (In part DEDUCED, log entry 18.) -/
def rxMove (k : Nat) (s : State) : State :=
  match lockedGraft s false k with
  | some g =>
    let p := s.line.rxPar.get k {}
    let go (t : State) : State :=
      admitGraft (putRx { t with line := { t.line with rxPar := t.line.rxPar.erase k } } k ((rxOf t k).movedTo p.rx)) g
    if !admits s g then rescrub s g else if g.fenced then go (loseChannel s k) else if p.read then go s else s
  | none => s

def execRxGraftSwitchover (k : Nat) (s : State) : Host.Outcome State Fault Refusal := .next (judgeAsk (rxMove k (fresh s)))

/-- The channel moves to its spare transmitter, between bursts (R84). -/
def txMove (k : Nat) (s : State) : State :=
  match lockedGraft s true k with
  | some g => if g.fenced || !emitting s k then finishGraft s g else s
  | none => s

def execTxGraftSwitchover (k : Nat) (s : State) : Host.Outcome State Fault Refusal := .next (txMove k (fresh s))

end Sys2Proof.Machine
end

