-- ==== Sys2Proof/Machine/Power.lean ====
section
/-!
DEFINITION. Modes, resets, waking, clocks, supplies and the thermal state: the commands of chapter 14.
-/

namespace Sys2Proof.Machine

/-! ### Mode requests (R206, R435, R436) -/

/-- A write of MODE_CTRL. (In part DEDUCED, log entry 16.) -/
def modeCtrlStore (v : Word) (s : State) : State :=
  let s1 := wr s MODE_CTRL.TARGET (fldOf MODE_CTRL.TARGET v)
  if fldSet MODE_CTRL.DEV_RESET v then deviceReset s1 6
  else if fldSet MODE_CTRL.GO v then modeGo s1 (fldOf MODE_CTRL.TARGET v)
  else s1

def execModeRequest (v : Word) (s : State) : Host.Outcome State Fault Refusal := .next (modeCtrlStore v (fresh s))

/-- 1 ms after the request: the terminal goes down unless a grant to DEV_ALLOC has arrived (R206). (In part DEDUCED, log entry 16.) -/
def gaspLate (s : State) : State := if s.power.gaspGrant || grantToDev s then s else gaspDone s

def execDyingGaspTimeout (s : State) : Host.Outcome State Fault Refusal := .next (gaspLate (fresh s))

/-- PWR_GOOD is low in DORMANT or SENTRY: the crystal stops for DORMANT, and a latched wake begins (R436, R437). -/
def settleDown (s : State) : State :=
  if s.power.pwrGood ∨ 2 ≤ mode s then s
  else
    let s1 := if mode s = 0 then setFlag { s with power := { s.power with xtal := false } } CLK_STATUS.AON_OK false else s
    match s.power.wake with
    | some c => wakeUp s1 c
    | none => s1

/-- The end of R436, once the mover's descriptor has completed. (In part DEDUCED, log entry 16.) -/
def downEnd (s : State) : State :=
  match s.power.down with
  | some m => if s.mover.run.isSome then s else settleDown (enterDown s m)
  | none => s

def execPowerDownComplete (s : State) : Host.Outcome State Fault Refusal := .next (downEnd (fresh s))

/-! ### Resets (R439, R450, R462, R554) -/

def execDeviceReset (s : State) : Host.Outcome State Fault Refusal :=
  let t := fresh s
  .next (if 2 ≤ mode t ∧ t.power.step ≠ 1 then deviceReset t 6 else t)

/-- RESET_N has been low for 1 µs. It has no effect of its own while the terminal waits for its supplies (R553), nor while
VDD_AON is below its threshold. (In part DEDUCED, log entry 16.) -/
def resetLow (s : State) : State :=
  let s1 := { s with power := { s.power with rstPin := true } }
  if 2 ≤ mode s ∧ (s.power.step = 1 ∨ s.power.step = 3) then s1
  else deviceReset { s1 with power := { s1.power with resetLow := true } } 5

def execResetNAssert (s : State) : Host.Outcome State Fault Refusal := .next (resetLow (fresh s))

def execResetNRelease (s : State) : Host.Outcome State Fault Refusal :=
  let t := fresh s
  .next { t with power := { t.power with resetLow := false, rstPin := false } }

/-- The lasers' wear as the ledger in flash holds it: a power loss forgets what came after. -/
def ledgerLasers (s : State) : Table Laser := s.boot.ledger.map fun e => (e.1, { wear := e.2 })

/-- VDD_AON below 1.45 V for 1 µs: a power-on reset; the light of a burst in progress goes out (R49). -/
def aonReset (s0 : State) : State :=
  let s := cutBursts s0
  let s1 : State := { State.reset with
    fuses := s.fuses
    line := { cal := s.line.cal, lasers := ledgerLasers s }
    time := { d25 := s.time.d25 }
    lane := { delay := s.lane.delay }
    boot := { flash := s.boot.flash, ledger := s.boot.ledger }
    mgmt := { perst := s.mgmt.perst }
    power := { step := 1, xtal := false, pwrGood := s.power.pwrGood }
    freeCtr := s.freeCtr
    readData := s.readData
    out := s.out
    pending := s.pending }
  let s2 := holdPads s (fuseRegs s1)
  if s.power.pwrEn then emit s2 (.pin "PWR_EN" false) else s2

def execAonPowerOnReset (s : State) : Host.Outcome State Fault Refusal := .next (aonReset (fresh s))

/-- VDD_AON passes its threshold: step 1 of R438. -/
def aonOn (s : State) : State :=
  if s.power.step = 1 then { s with power := { s.power with step := 2, xtal := true } } else s

def execVddAonPowerOn (s : State) : Host.Outcome State Fault Refusal := .next (aonOn (fresh s))

/-! ### I2C (R440, R441) and SENTRY (R442, R443) -/

/-- A wake fires: at once, or latched until R436 has ended and PWR_GOOD has fallen. -/
def fireWake (cause : Nat) (s : State) : State :=
  if mode s < 2 ∧ ¬ s.power.pwrGood then wakeUp s cause
  else if mode s < 2 ∨ s.power.down.isSome then
    if s.power.wake.isSome then s else { s with power := { s.power with wake := some cause } }
  else s

/-- The I2C target acts as the wake target: in DORMANT and SENTRY and during R436, armed, at its own address, which the
general call address never is (R437, R440). -/
def wakeOpen (s : State) (addr : Nat) : Bool :=
  (mode s < 2 || s.power.down.isSome) && flag s MODE_WAKE.EN && addr = rd s MODE_WAKE.ADDR && addr ≠ 0

/-- A transfer of the wake target: the address byte is acknowledged, and the wake fires at the STOP. -/
def wakeXfer (addr : Nat) (s : State) : State := if wakeOpen s addr then fireWake 1 (emit s .wakeAck) else s

def execI2cWake (addr : Nat) (s : State) : Host.Outcome State Fault Refusal := .next (wakeXfer addr (fresh s))

/-- The side channel answers now. -/
def sideOpen (s : State) (addr : Nat) : Bool := decide (2 ≤ mode s) && s.power.down.isNone && addr = rd s MODE_WAKE.ADDR

/-- The pointer byte; the wake target takes the transfer where the side channel is closed; a pointer above 15 is a free value. (In part DESIGN CHOICE, log entry 9.) -/
def sidePut (addr : Nat) (l : List Byte) (s : State) : State :=
  match l with
  | [] => wakeXfer addr s
  | x :: _ =>
    if !sideOpen s addr then wakeXfer addr s
    else if x.toNat < 16 then { s with power := { s.power with ptr := x.toNat } }
    else useFree { s with power := { s.power with ptr := freeBelow s 16 } }

def execI2cSideChannelWrite (addr : Nat) (bytes : List Byte) (s : State) : Host.Outcome State Fault Refusal :=
  .next (sidePut addr bytes (fresh s))

/-- The 16 bytes of the side channel. -/
def sideBytes (s : State) : List Byte :=
  beBytes 1 (mode s) ++ beBytes 1 (rd s PWR_THERM.STATE) ++ beBytes 2 (rd s PWR_THERM.TJ) ++ beBytes 2 (rd s PWR_METER.P1_W) ++
    beBytes 1 (rd s MODE_STATUS.WAKE_CAUSE) ++ beBytes 1 (rd s PWR_SUPPLY.WARN + 2 * b2n s.power.rstPin) ++ beBytes 8 s.fuses.serial

/-- `n` bytes from the pointer on; from the wake target, which leaves SDA released, 0xFF bytes (R437). -/
def sideGet (addr n : Nat) (s : State) : State :=
  if sideOpen s addr then
    let l := sideBytes s
    emit { s with power := { s.power with ptr := (s.power.ptr + n) % 16 } }
      (.i2c ((List.range n).map fun i => l.getD ((s.power.ptr + i) % 16) 0))
  else if wakeOpen s addr then fireWake 1 (emit (emit s .wakeAck) (.i2c (List.replicate n 0xFF)))
  else s

def execI2cSideChannelRead (addr n : Nat) (s : State) : Host.Outcome State Fault Refusal := .next (sideGet addr n (fresh s))

/-- The sum of the eight conversions of a sample. -/
def sum8 (l : List Int) : Int := (l.take 8).foldl (· + ·) 0

/-- One SENTRY cycle: the powers of both connectors in units of 1/256 dBm, the die temperature in 1/16 °C. -/
def sentryCycle (pa pb temp : List Int) (s : State) : State :=
  if mode s ≠ 1 then s
  else
    let thr := rdInt s MODE_SENTRY_THR.LIGHT_DBM * 256 * 8
    let light : Bool := flag s MODE_SENTRY.LIGHT_EN && (decide (thr ≤ sum8 pa) || decide (thr ≤ sum8 pb))
    let dark : Bool := flag s MODE_SENTRY.DARK_EN && decide (sum8 pa < thr - 4096) && decide (sum8 pb < thr - 4096)
    let hot : Bool := flag s MODE_SENTRY.TEMP_EN && decide (rdInt s MODE_SENTRY_THR.TEMP * 8 ≤ sum8 temp)
    let h := s.power.hits
    let up (b : Bool) (n : Nat) : Nat := if b then n + 1 else 0
    let h' := (up light h.1, up dark h.2.1, up hot h.2.2)
    let c := max 1 (rd s MODE_SENTRY.CONSEC)
    let s1 := { s with power := { s.power with hits := h' } }
    if c ≤ h'.1 then fireWake 2 s1 else if c ≤ h'.2.1 then fireWake 3 s1 else if c ≤ h'.2.2 then fireWake 4 s1 else s1

def execSentryCycle (pa pb temp : List Int) (s : State) : Host.Outcome State Fault Refusal :=
  .next (sentryCycle pa pb temp (fresh s))

/-! ### PWR_GOOD (R438, R552, R553) -/

def goodRise (s : State) : State :=
  if s.power.pwrEn ∧ ¬ s.power.pwrGood then
    { s with power := { s.power with pwrGood := true, step := if s.power.step = 3 then 4 else s.power.step } }
  else s

def execPwrGoodRise (s : State) : Host.Outcome State Fault Refusal := .next (goodRise (fresh s))

/-- PWR_GOOD has not risen in 100 ms: PWR_EN falls, and rises again 100 ms later. (In part DEDUCED, log entry 16.) -/
def goodLate (s : State) : State :=
  if s.power.step = 3 ∧ ¬ s.power.pwrGood then
    emit (emit (bump s SENS_STATUS.PG_RETRY 1) (.pin "PWR_EN" false)) (.pin "PWR_EN" true)
  else s

def execPwrGoodTimeout (s : State) : Host.Outcome State Fault Refusal := .next (goodLate (fresh s))

def goodFall (s : State) : State :=
  let s1 := { s with power := { s.power with pwrGood := false } }
  if !s.power.pwrGood then s
  else if s.power.pwrEn then bump s1 SENS_STATUS.PG_DROP 1
  else settleDown s1

def execPwrGoodDrop (s : State) : Host.Outcome State Fault Refusal := .next (goodFall (fresh s))

/-! ### Judging clocks (R452, R454, R456) -/

/-- A window's count lies within the tolerance. Clocks: 0 AON crystal (count 1 for full swing), 1 REFCLK, 2 STOCK on
REFCLK, 3 STOCK on the recovered clock. -/
def windowOk (clk count : Nat) : Bool :=
  match clk with
  | 0 => count ≠ 0
  | 1 => decide (152573 ≤ count) && decide (count ≤ 152602)
  | 2 => decide (4095 ≤ count) && decide (count ≤ 4097)
  | _ => decide (4999 ≤ count) && decide (count ≤ 5001)

/-- Windows to pass, and the ARG of kind 18. -/
def windowNeed (clk : Nat) : Nat := if clk = 0 then 1024 else if clk = 1 then 8 else 16
def clockArg (clk : Nat) : Nat := if clk = 0 then 25 else if clk = 1 then 0 else 1

/-- The clock is being judged now. -/
def clockJudged (s : State) (clk : Nat) : Bool :=
  let run : Bool := lineUp s
  match clk with
  | 0 => run || (mode s = 2 && decide (s.power.step ≠ 1) && !(s.power.step = 2 && s.power.resetLow))
  | 1 => run || (mode s = 2 && (s.power.step = 0 || decide (4 ≤ s.power.step)) && !s.power.resetLow)
  | 2 => (run && rd s CLK_STATUS.STOCK_SRC = 0) || (mode s = 2 && (s.power.step = 0 || decide (5 ≤ s.power.step)) && !s.power.resetLow)
  | _ => run && rd s CLK_STATUS.STOCK_SRC = 1

/-- The clock's bit in CLK_STATUS. -/
def clockShow (s : State) (clk : Nat) (ok : Bool) : State :=
  match clk with
  | 0 => setFlag s CLK_STATUS.AON_OK ok
  | 1 => setFlag s CLK_STATUS.REFCLK_OK ok
  | _ => setFlag s CLK_STATUS.STOCK_LOCK ok

/-- The clock is judged stable: R438 goes on, and a kind-18 condition ends. -/
def clockGood (clk : Nat) (s : State) : State :=
  let a := clockArg clk
  let s1 := clockShow s clk true
  let s2 := if s1.power.unstable.contains a then
      endLevel { s1 with power := { s1.power with unstable := s1.power.unstable.erase a } } { kind := 18, scope := .dev, arg := a }
    else s1
  if mode s = 2 ∧ clk = 0 ∧ s.power.step = 2 then
    emit { s2 with power := { s2.power with step := 3, pwrEn := true } } (.pin "PWR_EN" true)
  else if mode s = 2 ∧ clk = 1 ∧ s.power.step = 4 then { s2 with power := { s2.power with step := 5 } }
  else if mode s = 2 ∧ clk = 2 ∧ s.power.step = 5 then
    wr { s2 with power := { s2.power with step := 6 } } CLK_STATUS.STOCK_SRC 0
  else s2

/-- The clock is judged unstable in a run mode. -/
def clockBad (clk : Nat) (s : State) : State :=
  let a := clockArg clk
  let s1 := clockShow s clk false
  if s1.power.unstable.contains a then s1
  else raise { s1 with power := { s1.power with unstable := a :: s1.power.unstable } } { kind := 18, scope := .dev, arg := a }

/-- The end of a judging window. REFCLK_DEV beyond its width is a free value. (In part DESIGN CHOICE, log entry 9.) -/
def clockWindow (clk count : Nat) (s : State) : State :=
  if 3 < clk ∨ ¬ clockJudged s clk then s
  else
    let d : Int := (count : Int) - 152588
    let s0 := if clk ≠ 1 then s
      else if d.natAbs < 32768 then wrInt s CLK_JUDGE.REFCLK_DEV d
      else useFree (wr s CLK_JUDGE.REFCLK_DEV (freeBelow s 65536))
    if windowOk clk count then
      let n := s.power.pass.get clk 0 + 1
      let s1 := { s0 with power := { s0.power with
        pass := s0.power.pass.set clk (min n (windowNeed clk)) 0, failW := s0.power.failW.set clk 0 0 } }
      if windowNeed clk ≤ n then clockGood clk s1 else s1
    else
      let n := s.power.failW.get clk 0 + 1
      let s1 := bump { s0 with power := { s0.power with
        pass := s0.power.pass.set clk 0 0, failW := s0.power.failW.set clk (min n 2) 0 } } CLK_JUDGE.FAILS 1
      if 2 ≤ n ∧ lineUp s then clockBad clk s1 else s1

def execClockJudgeWindow (clk count : Nat) (s : State) : Host.Outcome State Fault Refusal :=
  .next (clockWindow clk count (fresh s))

/-- A timeout of a step of R438: the step is tried again. -/
def clockLate (clk : Nat) (s : State) : State :=
  if mode s = 2 ∧ ((clk = 0 ∧ s.power.step = 2) ∨ (clk = 1 ∧ s.power.step = 4) ∨ (clk = 2 ∧ s.power.step = 5)) then
    clockShow { s with power := { s.power with pass := s.power.pass.set clk 0 0 } } clk false
  else s

def execClockJudgeTimeout (clk : Nat) (s : State) : Host.Outcome State Fault Refusal := .next (clockLate clk (fresh s))

/-- 2 ms after tree LOF without a holdover commit: STOCK steps to REFCLK. -/
def holdLate (s : State) : State :=
  if lineUp s ∧ rd s CLK_STATUS.STOCK_SRC = 2 ∧ (mode s ≠ 5 ∨ flag s CLK_STATUS.REFCLK_OK) then stockTo s 0 else s

def execStockHoldTimeout (s : State) : Host.Outcome State Fault Refusal := .next (holdLate (fresh s))

/-- A write of CLK_DOM_d (R445, R451): RUN_EN only for DEBUG_TRACE, whose first start releases pad group 7. -/
def domStore (d : Nat) (v : Word) (s : State) : State :=
  let s1 := wr (wr s (CLK_DOM.DEEP_EN d) (fldOf (CLK_DOM.DEEP_EN d) v)) (CLK_DOM.SLEEP_EN d) (fldOf (CLK_DOM.SLEEP_EN d) v)
  if d ≠ 24 then s1
  else
    let s2 := wr s1 (CLK_DOM.RUN_EN 24) (fldOf (CLK_DOM.RUN_EN 24) v)
    if fldSet (CLK_DOM.RUN_EN 24) v then wr s2 MODE_PAD.HOLD (rd s2 MODE_PAD.HOLD % 128) else s2

def execDebugTraceEnable (s : State) : Host.Outcome State Fault Refusal :=
  let t := fresh s
  .next (if 2 ≤ mode t then domStore 24 (BitVec.ofNat 32 (wordOf t
    [CLK_DOM.DEEP_EN 24, CLK_DOM.SLEEP_EN 24] + 1)) t else t)

/-! ### Supplies (R446 to R449) -/

/-- A kind-19 condition stands: a supply warning, or FROZEN. -/
def supplyBad (s : State) : Bool := flag s PWR_SUPPLY.WARN || flag s PWR_AVS.FROZEN

/-- The Rake learns of a kind-19 condition that begins or ends. (In part DEDUCED, log entry 16.) -/
def supplyNote (old new : State) : State :=
  let e : FaultEv := { kind := 19, scope := .dev, arg := 0 }
  if !supplyBad old && supplyBad new then raise new e
  else if supplyBad old && !supplyBad new then endLevel new e
  else new

/-- A rail in use as VDD_CORE. -/
def isCore (s : State) (r : Nat) : Bool :=
  flag s (PMB_RAIL.EN r) && flag s (PMB_RAIL.CORE r) && !flag s (PMB_RAIL.DISABLED r)

/-- VDD_CORE has a rail in use. -/
def coreRail (s : State) : Bool := (List.range 8).any (isCore s)

/-- A transaction with VDD_CORE's regulator. -/
def corePmb (s : State) (cmd arg : Nat) : State :=
  match firstBelow 8 (isCore s) with
  | some r => emit s (.pmbus (rd s (PMB_RAIL.ADDR r)) cmd arg)
  | none => s

/-- PAGE of VDD_CORE's rail, and VOUT_COMMAND with a request (R447). -/
def sendRequest (s : State) (mv : Nat) : State :=
  match firstBelow 8 (isCore s) with
  | some r => corePmb (corePmb s 0x00 (rd s (PMB_RAIL.PAGE r))) 0x21 mv
  | none => s

/-- The next request of at most 5 mV toward T, if there is one. -/
def avsStep (s : State) : Option Nat :=
  let t := rd s PWR_AVS.TARGET_MV
  let a := rd s PWR_AVS.ACK_MV
  if a < t then some (min t (a + 5))
  else if t < a ∧ ¬ flag s PWR_AVS.FROZEN then some (max t (a - 5))
  else none

/-- The timing monitors' target `t`, every 10 ms. -/
def avsCompute (t : Nat) (s : State) : State :=
  if mode s < 2 ∨ ¬ coreRail s ∨ padHeld s 5 then s
  else
    let new := clampNat 620 800 t
    let new' := if flag s PWR_SUPPLY.WARN then max new (rd s PWR_AVS.TARGET_MV) else new
    let s1 := wr s PWR_AVS.TARGET_MV new'
    if s.power.request.isSome then s1
    else
      match avsStep s1 with
      | some r => sendRequest { s1 with power := { s1.power with request := some r, tries := 1, retry := false } } r
      | none => s1

def execAvsCompute (t : Nat) (s : State) : Host.Outcome State Fault Refusal := .next (avsCompute t (fresh s))

/-- The request is acknowledged; a raise ends FROZEN. -/
def avsAck (r : Nat) (s : State) : State :=
  let up : Bool := rd s PWR_AVS.ACK_MV < r
  let s1 := wr { s with power := { s.power with request := none, tries := 0 } } PWR_AVS.ACK_MV r
  supplyNote s (if up then setFlag s1 PWR_AVS.FROZEN false else s1)

/-- A transaction has failed: `again` repeats it, once (R446). -/
def pmbFail (s : State) (f : Fld) (again : State → State) : State :=
  let s1 := bump s f 1
  let s2 := { s1 with power := { s1.power with retry := !s1.power.retry } }
  if s.power.retry then s2 else again s2

/-- A poll reads STATUS_WORD and READ_VOUT. -/
def readPoll (s : State) : State := corePmb (corePmb s 0x79 0) 0x8B 0

/-- One transaction's outcome: of a poll while a request is in flight, of its VOUT_COMMAND, of VOUT_MODE, or the failure of
another, which is counted and tried once more. (In part DEDUCED, log entry 16.) -/
def avsPoll (reply : PmbReply) (s : State) : State :=
  match reply with
  | .voutMode r ok => if r < 8 ∧ 2 ≤ mode s then setFlag s (PMB_RAIL.DISABLED r) (!ok) else s
  | .failed pec again r cmd arg =>
    if 8 ≤ r ∨ mode s < 2 ∨ padHeld s 5 then s
    else
      let s1 := bump s (if pec then PMB_STATUS.PEC_ERR else PMB_STATUS.NACK) 1
      if again then s1 else emit s1 (.pmbus (rd s (PMB_RAIL.ADDR r)) cmd arg)
  | _ =>
    match s.power.request with
    | none => s
    | some r =>
      match reply with
      | .nack => pmbFail (readPoll s) PMB_STATUS.NACK id
      | .pec => pmbFail (readPoll s) PMB_STATUS.PEC_ERR id
      | .cmdNack => pmbFail s PMB_STATUS.NACK fun t => sendRequest t r
      | .cmdPec => pmbFail s PMB_STATUS.PEC_ERR fun t => sendRequest t r
      | .ok st vout =>
        let s1 := readPoll { s with power := { s.power with retry := false } }
        if !bitAt st 15 && !bitAt st 11 && decide (vout ≤ r + 5) && decide (r ≤ vout + 5) then avsAck r s1 else s1
      | .voutMode _ _ => s
      | .failed _ _ _ _ _ => s

def execAvsPoll (reply : PmbReply) (s : State) : Host.Outcome State Fault Refusal := .next (avsPoll reply (fresh s))

/-- 2 ms without an acknowledgement: the request is repeated, at most twice. -/
def avsLate (s : State) : State :=
  match s.power.request with
  | none => s
  | some r =>
    if s.power.tries < 3 then sendRequest { s with power := { s.power with tries := s.power.tries + 1, retry := false } } r
    else
      let s1 := bump { s with power := { s.power with request := none, tries := 0 } } PWR_SUPPLY.TIMEOUTS 1
      supplyNote s (setFlag s1 PWR_AVS.FROZEN true)

def execAvsTimeout (s : State) : Host.Outcome State Fault Refusal := .next (avsLate (fresh s))

/-- T_ref of R448, and its warning and reset levels. -/
def tRef (s : State) : Nat := match s.power.request with
  | some r => min r (rd s PWR_AVS.ACK_MV)
  | none => rd s PWR_AVS.ACK_MV
def warnLevel (s : State) : Nat := roundDiv (94 * tRef s) 100
def resetLevel (s : State) : Nat := roundDiv (89 * tRef s) 100

/-- The on-die sense of VDD_CORE stands at `mv`: a warning begins, stands or ends. (In part DESIGN CHOICE, log entry 32.) -/
def supplySense (mv : Nat) (s : State) : State :=
  if mode s < 2 then s
  else
    let s1 := wr s PWR_SUPPLY.VSENSE_MV (min mv 1023)
    if mv < warnLevel s then
      let s2 := { s1 with power := { s1.power with warned := true } }
      if flag s PWR_SUPPLY.WARN then s2 else supplyNote s (bump (setFlag s2 PWR_SUPPLY.WARN true) PWR_SUPPLY.WARNS 1)
    else supplyNote s (setFlag s1 PWR_SUPPLY.WARN false)

def execSupplyWarning (mv : Nat) (s : State) : Host.Outcome State Fault Refusal := .next (supplySense mv (fresh s))

/-- VDD_CORE below the reset level for 1 µs. -/
def supplyReset (mv : Nat) (s : State) : State :=
  if 2 ≤ mode s ∧ s.power.pwrEn ∧ mv < resetLevel s then deviceReset s 8 else s

def execSupplyReset (mv : Nat) (s : State) : Host.Outcome State Fault Refusal := .next (supplyReset mv (fresh s))

/-! ### The thermal state (R205, R458 to R462) -/

/-- TRIM_TJ in 1/16 °C. -/
def trimTj (s : State) : Int := (min 104 (rd s PWR_TRIM.TRIM_TJ) * 16 : Nat)

/-- GRANT_PCT (R460); with no power measured its quotient has no bound, and 99 is the least. (In part DESIGN CHOICE, log entry 32.) -/
def grantPct (s : State) : Nat :=
  if rd s PWR_THERM.STATE = 2 then
    (if s.power.p1 = 0 then 99 else min 99 (max 50 (100 * 1000000 / s.power.p1)))
  else 100

/-- THERMAL_STATE is sent (R205), under profile 3. -/
def sendTherm (s : State) : State :=
  if lineUp s ∧ rd s JOIN_STATUS.PROFILE = 3 then
    sendTend s true 0x45 (beBytes 1 (rd s PWR_THERM.STATE) ++ beBytes 1 (grantPct s) ++ beBytes 2 (rd s PWR_THERM.TJ) ++
      List.replicate 4 0) 0
  else s

/-- GAIN_CAP lowered by one step of trim, never below the floor of R76. -/
def lowerGain (s : State) : State :=
  let g := rd s LINE_SOA_LIMIT.GAIN_CAP
  let floor := max 0x200 (rd s LINE_SOA_LIMIT.FLOOR)
  wr s LINE_SOA_LIMIT.GAIN_CAP (max floor (g - max 1 (rd s PWR_TRIM.SOA_STEP) * 16))

/-- The thermal state changes (R459): kind 20, trim entered or left, THERMAL_STATE. -/
def setTherm (s : State) (st : Nat) : State :=
  let old := rd s PWR_THERM.STATE
  if old = st then s
  else
    let s1 := if old = 0 then s else endLevel s { kind := 20, scope := .dev, arg := old }
    let s2 := if st = 0 then s1 else raise s1 { kind := 20, scope := .dev, arg := st }
    let s3 := wr { s2 with power := { s2.power with quiet := 0 } } PWR_THERM.STATE st
    let s4 := if st = 2 then lowerGain (wr s3 PWR_TRIM.SOA_SAVED (rd s3 LINE_SOA_LIMIT.GAIN_CAP))
      else if old = 2 then wr s3 LINE_SOA_LIMIT.GAIN_CAP (rd s3 PWR_TRIM.SOA_SAVED)
      else s3
    sendTherm s4

/-- The transactions that sample the input power: READ_VOUT and READ_IOUT of every enabled rail (R446, R458). (In part DESIGN CHOICE, log entry 32.) -/
def samplePower (s : State) : State :=
  (List.range 8).foldl (fun t r =>
    if flag s (PMB_RAIL.EN r) && !flag s (PMB_RAIL.DISABLED r) && !padHeld s 5 then railPmb t r [0x8B, 0x8C] else t) s

/-- The end of a second: P1 in mW, and the largest I1 of its milliseconds in mA. (In part DESIGN CHOICE, log entry 32.) -/
def thermSecond (p1 i1 : Nat) (s : State) : State :=
  if mode s < 2 then s
  else
    let hot : Bool := decide (1100000 < p1)
    let surge := (hot :: s.power.surge).take 200
    let n := (surge.filter id).length
    let tj := rdInt s PWR_THERM.TJ
    let calm : Bool := decide (p1 ≤ 1050000) && decide (tj ≤ trimTj s - 80) && decide (i1 < 1250000) && !s.power.warned
    let q := if rd s PWR_THERM.STATE = 2 ∧ calm then s.power.quiet + 1 else 0
    let s1 := { s with power := { s.power with surge := surge, p1 := p1, quiet := q, warned := flag s PWR_SUPPLY.WARN } }
    let s2 := wr (wr (measureRatio (samplePower s1)) PWR_METER.P1_W (min 65535 (p1 / 1000))) PWR_THERM.SURGE_S n
    match rd s PWR_THERM.STATE with
    | 0 => if hot then setTherm s2 (if n ≤ 20 then 1 else 2) else s2
    | 1 => if hot then (if 20 < n then setTherm s2 2 else s2) else setTherm s2 0
    | _ => if 10 ≤ q then setTherm s2 0 else if 1050000 < p1 then lowerGain s2 else s2

def execThermalSecond (p1 i1 : Nat) (s : State) : Host.Outcome State Fault Refusal := .next (thermSecond p1 i1 (fresh s))

/-- The conditions at once: the 100 ms mean of the input power in mW, and I1 of the last millisecond in mA. -/
def thermFast (mean i1 : Nat) (s : State) : State :=
  if mode s < 2 then s
  else
    let s1 := wr s PWR_METER.IOUT_A (min 65535 (i1 / 1000))
    if rd s PWR_THERM.STATE ≠ 2 ∧ (1180000 < mean ∨ trimTj s ≤ rdInt s PWR_THERM.TJ ∨ 1300000 ≤ i1) then setTherm s1 2 else s1

def execThermalFastCheck (mean i1 : Nat) (s : State) : Host.Outcome State Fault Refusal := .next (thermFast mean i1 (fresh s))

/-- A supply warning has lasted 10 ms (R449). -/
def supplyLong (s : State) : State :=
  if flag s PWR_SUPPLY.WARN ∧ rd s PWR_THERM.STATE ≠ 2 then setTherm s 2 else s

def execSupplyWarningSustained (s : State) : Host.Outcome State Fault Refusal := .next (supplyLong (fresh s))

def execThermalStateRepeat (s : State) : Host.Outcome State Fault Refusal :=
  let t := fresh s
  .next (if rd t PWR_THERM.STATE = 0 then t else sendTherm t)

/-- Tj, in 1/16 °C, has reached 105 °C. -/
def thermReset (tj : Int) (s : State) : State :=
  if 2 ≤ mode s ∧ s.power.pwrEn ∧ 1680 ≤ tj then wrInt (deviceReset s 7) PWR_THERM.TJ tj else s

def execThermalReset (tj : Int) (s : State) : Host.Outcome State Fault Refusal := .next (thermReset tj (fresh s))

/-! ### Laser wear (R463) -/

/-- n / 1,000 is at most 2^(d / 2,560). -/
def wearLe (n : Nat) (d : Int) : Bool :=
  if 0 ≤ d then n ^ 2560 ≤ 1000 ^ 2560 * 2 ^ d.toNat else n ^ 2560 * 2 ^ (-d).toNat ≤ 1000 ^ 2560

/-- The largest number of k bits more than `a` that is no more than 1,000 · 2^(d / 2,560). -/
def wearRoot (d : Int) : Nat → Nat → Nat
  | 0, a => a
  | k + 1, a => wearRoot d k (if wearLe (a + 2 ^ k) d then a + 2 ^ k else a)

/-- The charge of one second at temperature t, 2^((t - 45 °C) / 10 °C) in units of 1/1,000 equivalent second; which of the
two neighbours stands for a charge between them is a free value. (In part DESIGN CHOICE, log entry 32.) -/
def wearRate (t : Int) : Nat :=
  let d := t - 45 * 256
  if 0 ≤ d ∧ d % 2560 = 0 then 1000 * 2 ^ (d / 2560).toNat
  else if -7680 ≤ d ∧ d % 2560 = 0 then 1000 / 2 ^ (-d / 2560).toNat
  else wearRoot d (11 + (d / 2560).toNat) 0 + Config.wearRound t % 2

/-- What a laser is charged. (In part DESIGN CHOICE, log entry 32.) -/
def wearCharge (u : WearUse) : Nat :=
  let r := wearRate u.temp
  if u.tx then r * ((u.lit - u.emit) * 1023 ^ 2 + u.emit * u.gain ^ 2) / 1023 ^ 2 else r * u.lit

/-- Firmware charges the lasers and writes the ledger to the flash's wear area. (In part DESIGN CHOICE, log entry 32.) -/
def wearWrite (use : List WearUse) (s : State) : State :=
  if mode s < 2 then s
  else
    let s1 := use.foldl (fun t u => putLaser t u.tx u.e { laserOf t u.tx u.e with wear := (laserOf t u.tx u.e).wear + wearCharge u }) s
    saveLedger s1

def execWearLedgerWrite (use : List WearUse) (s : State) : Host.Outcome State Fault Refusal := .next (wearWrite use (fresh s))

end Sys2Proof.Machine
end

