-- ==== Sys2Proof/Machine/Rake.lean ====
section
/-!
DEFINITION. The Rake's commands (chapter 13).
-/

namespace Sys2Proof.Machine

/-! ### Events (R407 to R411, R416, R429, R430) -/

/-- The event that a unit's own detector reports: kinds 5 to 9, 11, 17 and 21, in the scope that R408 gives the kind; a
receive fault of a lane only while its port is UP or it bridges, and none from a lane in loopback (R526, R528). (In part DESIGN CHOICE, log entry 15.) -/
def ExtFault.toEv (s : State) (x : ExtFault) : Option FaultEv :=
  let row : Scope := .row (4 * x.bed + x.row)
  let sc : Option Scope :=
    if x.kind = 5 ∨ x.kind = 6 ∨ x.kind = 21 then some (if x.scope = 2 then row else .dev)
    else if 7 ≤ x.kind ∧ x.kind ≤ 9 then some row
    else if x.kind = 11 then some .dev
    else if x.kind = 17 ∧ rd s (HL_LANE_CTRL.LOOPBACK x.bed x.arg) = 0 ∧ (x.loc ≠ 0 ∨ laneServes s x.bed x.arg) then some (.bed x.bed)
    else none
  match sc with
  | none => none
  | some c =>
    if x.bed < beds s ∧ x.row < 4 ∧ x.arg < 64 then
      some { kind := x.kind, scope := c, arg := x.arg, loc := if x.kind = 17 then x.arg else x.loc, cycle := s.time.c / 5, ext := some x.inj }
    else none

/-- An event that the armed injection explains takes its mark, and the injection counts down (R429): the event, whether
the Rake acts on it, and the state. -/
def matchInject (s : State) (e : FaultEv) (claimed : Bool) : FaultEv × Bool × State :=
  match s.rake.inject with
  | none => (e, false, s)
  | some (t, n, dry) =>
    if claimed && t.kind = e.kind && t.scope = e.scope && t.arg = e.arg then
      ({ e with inj := true }, dry, { s with rake := { s.rake with inject := if n ≤ 1 then none else some (t, n - 1, dry) } })
    else (e, false, s)

/-- The event to take: the first raised, and of those of its FAULT cycle the one with the lowest source number (R411). -/
def nextEv (l : List FaultEv) : Option FaultEv :=
  match l with
  | [] => none
  | e :: r => some (r.foldl (fun a x => if x.cycle = e.cycle && decide (x.source < a.source) then x else a) e)

/-- The Rake takes one of its events. -/
def takeThis (s : State) (e : FaultEv) : State :=
  let m := matchInject { s with rakeIn := s.rakeIn.erase e } { e with ext := none } (e.ext = some true)
  takeEvent m.2.2 m.1 m.2.1

/-- The first `n` events in the order of R411. -/
def evOrder : Nat → List FaultEv → List FaultEv
  | 0, _ => []
  | n + 1, l =>
    match nextEv l with
    | none => []
    | some e => e :: evOrder n (l.erase e)

/-- The events up to the last that a unit's own detector reported. -/
def dueEvs (l : List FaultEv) : List FaultEv :=
  ((evOrder l.length l).reverse.dropWhile fun e => e.ext.isNone).reverse

/-- The next waiting command reports another event of this FAULT cycle. (In part DESIGN CHOICE, log entry 42.) -/
def moreEvents (s : State) : Bool :=
  match s.pending with
  | .rakeFaultEvent (some _) :: _ => true
  | _ => false

/-- The Rake takes its events in the order of R411: with `ext`, what a unit's detector reports joins those on their way, and
the last report of a FAULT cycle has all of them taken; without it, the first that the block's own commands raised. -/
def takeFault (ext : Option ExtFault) (s : State) : State :=
  if mode s < 2 then s
  else
    match ext with
    | some x =>
      let s1 := { s with rakeIn := s.rakeIn ++ (x.toEv s).toList }
      if moreEvents s then s1 else (dueEvs s1.rakeIn).foldl takeThis s1
    | none =>
      match nextEv s.rakeIn with
      | none => s
      | some e => takeThis s e

def execRakeFaultEvent (ext : Option ExtFault) (s : State) : Host.Outcome State Fault Refusal :=
  .next (judgeAsk (sweepHunts (takeFault ext (fresh s))))

/-! ### Rings (R412 to R416, R431) -/

/-- NQ_FAULT is negotiated for function f (R502). -/
def nqFault (s : State) (f : Nat) : Bool := bitAt (rd s (NEGOTIATED.V f 0)) 6

/-- The main ring takes a record. -/
def pushMain (s : State) (r : Rec) : State :=
  let x := s.rake.main.push 1024 r
  let s1 := wr { s with rake := { s.rake with main := x.1 } } RAKE_RING_STAT.COUNT x.1.recs.length
  let s2 := if x.2 then bump s1 RAKE_RING_STAT.OVERFLOW 1 else s1
  if s.rake.main.recs.isEmpty && nqFault s 0 then notify s2 0 1 0 else s2

/-- The firmware ring takes a record; event 58 when it was empty (R414). -/
def pushFw (s : State) (r : Rec) : State :=
  let x := s.rake.fw.push 256 r
  let s1 := wr { s with rake := { s.rake with fw := x.1 } } RAKE_FW_STAT.COUNT x.1.recs.length
  let s2 := if x.2 then bump s1 RAKE_FW_STAT.OVERFLOW 1 else s1
  if s.rake.fw.recs.isEmpty then pulse s2 58 else s2

/-- The ring of BED_b takes a copy, without SOURCE and LOC (R431). -/
def pushBed (r : Rec) (s : State) (b : Nat) : State :=
  let old : Ring := s.rake.bed.get b {}
  let x := old.push 256 { r with source := 0, loc := 0 }
  let s1 := wr { s with rake := { s.rake with bed := s.rake.bed.set b x.1 {} } } (BEDF_STAT.COUNT b) x.1.recs.length
  let s2 := if x.2 then bump s1 (BEDF_STAT.OVERFLOW b) 1 else s1
  if old.recs.isEmpty && nqFault s (b + 1) then notify s2 (b + 1) 1 0 else s2

/-- The beds whose ring receives a record. -/
def recBeds (s : State) (r : Rec) : List Nat :=
  match r.scope with
  | .dev => if flag s (RAKE_KIND.TENANT r.kind) then List.range (beds s) else []
  | sc => [sc.bedOf]

/-- One waiting record is written into its rings. -/
def writeRecord (s : State) : State :=
  match s.rake.recQ with
  | [] => s
  | r :: q =>
    let s1 := pushMain { s with rake := { s.rake with recQ := q } } r
    let s2 := if flag s (RAKE_KIND.FW r.kind) then pushFw s1 r else s1
    (recBeds s r).foldl (pushBed r) s2

def execRakeRecordWrite (s : State) : Host.Outcome State Fault Refusal := .next (writeRecord (fresh s))

/-- The four words of a record (R413). -/
def Rec.words (r : Rec) : List Nat :=
  [2 ^ 31 + b2n r.cbr * 2 ^ 30 + b2n (levelKind r.kind) * 2 ^ 29 + r.ty * 2 ^ 25 + r.kind * 2 ^ 20 + r.seq,
   nsOf r.u,
   secOf r.u % 65536 * 65536 + b2n r.tvalid * 2 ^ 15 + b2n r.inj * 2 ^ 14 + r.scope.code * 2 ^ 12 + r.scope.bedOf * 2 ^ 9 +
     r.scope.rowOf * 2 ^ 7 + r.arg % 64,
   r.source * 2 ^ 20 + r.loc]

/-- A ring pops (R415): the ring without its oldest record, and the words read. -/
def Ring.pop (x : Ring) : Ring × List Nat :=
  match x.recs with
  | [] => (x, [0, 0, 0, 0])
  | r :: q => ({ x with recs := q }, r.words)

/-- The words latched into a ring's POP registers, word 0 returned to the reader. -/
def latchPop (s : State) (V : Nat → Fld) (w : List Nat) : State :=
  let s1 := (List.range 4).foldl (fun t i => wr t (V i) (w.getD i 0)) s
  { s1 with readData := BitVec.ofNat 32 (w.getD 0 0) }

/-- A read of POP_0 of ring 0 (main), 1 (firmware) or 2 + b (BED_b). -/
def popRing (s : State) (ring : Nat) : State :=
  match ring with
  | 0 =>
    let x := s.rake.main.pop
    latchPop (wr { s with rake := { s.rake with main := x.1 } } RAKE_RING_STAT.COUNT x.1.recs.length) RAKE_POP.V x.2
  | 1 =>
    let x := s.rake.fw.pop
    latchPop (wr { s with rake := { s.rake with fw := x.1 } } RAKE_FW_STAT.COUNT x.1.recs.length) RAKE_FW_POP.V x.2
  | n + 2 =>
    if n < beds s then
      let x := (s.rake.bed.get n {}).pop
      latchPop (wr { s with rake := { s.rake with bed := s.rake.bed.set n x.1 {} } } (BEDF_STAT.COUNT n) x.1.recs.length)
        (BEDF_POP.V n) x.2
    else s

/-- May this agent pop the ring: PF0 and firmware the main and firmware rings, PF(b+1) its bed's? (In part DEDUCED, log entry 14.) -/
def mayPop (ring : Nat) (src : Src) : Bool :=
  match src with
  | .pf f => if f = 0 then ring < 2 else ring = f + 1
  | .trowel _ => ring < 2
  | _ => false

/-- A read of POP_0 of BED_b's ring by PF0 or firmware (R487): the oldest record stays. -/
def peekRing (s : State) (b : Nat) : State :=
  { s with readData := BitVec.ofNat 32 (((s.rake.bed.get b {}).pop.2).getD 0 0) }

/-- A read of POP_0 by a source that does not pop the ring: PF0 and firmware peek at a bed's, a tenant function finds a
hole (R486, R487). -/
def strayPop (ring : Nat) (src : Src) (s : State) : State :=
  match src with
  | .pf (f + 1) => if f + 1 < fns s then { hole s (f + 1) with readData := 0 } else s
  | .pf 0 => if 2 ≤ ring ∧ ring - 2 < beds s then peekRing s (ring - 2) else s
  | .trowel _ => if 2 ≤ ring ∧ ring - 2 < beds s then peekRing s (ring - 2) else s
  | _ => s

def execRingPop (ring : Nat) (src : Src) (s : State) : Host.Outcome State Fault Refusal :=
  let t := fresh s
  .next (if !mayPop ring src then strayPop ring src t
    else if 2 ≤ ring ∧ t.lane.resetting.contains (ring - 2) then { t with readData := 0 }
    else popRing t ring)

/-- CBR set in the records of one source. -/
def Ring.clearMark (x : Ring) (e : FaultEv) : Ring :=
  { x with recs := x.recs.map fun r =>
      if r.kind = e.kind && r.scope = e.scope && r.srcKey = (e.arg, e.loc) then { r with cbr := true } else r }

/-- The first level condition that has ended is taken (R416), once its onset has been. The one source of kind 20
stays active where another thermal state has set in (R459). (In part DESIGN CHOICE, log entry 15.) -/
def takeEnd (s : State) : State :=
  match s.rakeEnds with
  | [] => s
  | e :: r =>
    let same (x : FaultEv) : Bool := x.kind = e.kind && x.scope = e.scope && x.arg = e.arg && x.loc = e.loc
    let goesOn : Bool := e.kind = 20 && s.rakeIn.any fun x => x.kind = 20
    if s.rakeIn.any same then s
    else
      let q : Ring := { recs := s.rake.recQ }
      showActive { s with rakeEnds := r, rake := { s.rake with
        sources := s.rake.sources.map fun x =>
          if x.kind = e.kind && x.scope = e.scope && x.arg = e.arg && x.loc = e.loc && !goesOn then { x with active := false } else x
        recQ := (q.clearMark e).recs
        main := s.rake.main.clearMark e
        fw := s.rake.fw.clearMark e
        bed := s.rake.bed.map fun b => (b.1, b.2.clearMark e) } }

def execLevelConditionEnd (s : State) : Host.Outcome State Fault Refusal := .next (takeEnd (fresh s))

/-! ### Scrub and switch-over (R418, R423, R533) -/

/-- A lane graft begins (R533, time 0): the spare takes the slot's settings, both lanes bridge, and OFFER leaves. -/
def beginLaneGraft (s : State) (g : Graft) : State :=
  let b := g.serves / 32
  let slot := g.serves % 32
  let e := g.spare.idx % 34
  let old := lanePos s b slot
  let src := g.unit.idx % 34
  let s1 := wr (wr s (HL_LANE_CTRL.TX_PRECODE b e) (rd s (HL_LANE_CTRL.TX_PRECODE b src)))
    (HL_LANE_CTRL.RX_PRECODE b e) (rd s (HL_LANE_CTRL.RX_PRECODE b src))
  let s2 := wr (wr s1 (HL_LANE_TXEQ.C_M2 b e) (rd s (HL_LANE_TXEQ.C_M2 b src))) (HL_LANE_TXEQ.C_M1 b e)
    (rd s (HL_LANE_TXEQ.C_M1 b src))
  let s3 := wr (wr s2 (HL_LANE_TXEQ.C_0 b e) (rd s (HL_LANE_TXEQ.C_0 b src))) (HL_LANE_TXEQ.C_P1 b e)
    (rd s (HL_LANE_TXEQ.C_P1 b src))
  let s4 := wr s3 (HL_LANE_STAT.STATE b e) 4
  let s5 := if old < 34 then wr s4 (HL_LANE_STAT.STATE b old) 4 else s4
  let s6 := putLaneGraft s5 g.spare.idx { slot := slot, old := old, spare := e }
  if (hsPort s6 b slot).isSome then bump (sendHs s6 b 2 slot e) (HL_BED_MSG.OFFERS b) 1 else s6

/-- The preparation of a scrubbed spare beside the failing unit (R418 step 3). -/
def prepare (s : State) (g : Graft) : State :=
  match g.unit.cls with
  | .lrx => tuneLaser { s with line := { s.line with
        rxGraft := s.line.rxGraft.insert g.serves g.spare.idx, rxPar := s.line.rxPar.erase g.serves } } false g.spare.idx g.serves
  | .ltx => tuneLaser { s with line := { s.line with txGraft := s.line.txGraft.insert g.serves g.spare.idx } } true
      g.spare.idx g.serves
  | .cipher => { s with cipher := { s.cipher with grafts := g.serves :: s.cipher.grafts.erase g.serves } }
  | .trowel => finishGraft s g
  | .lane => beginLaneGraft s g
  | _ => s

/-- The handshake of a lane graft has come to its end. -/
def handshakeOver (s : State) (g : Graft) : Bool :=
  match laneGraft s g.spare.idx with
  | some h => g.unit.cls = .lane && h.ours && h.theirs
  | none => false

/-- A scrub has succeeded: a table bank serves again; a spare has its shadow's generation, and is prepared, unless this was
a scrub that repeats an earlier one. -/
def scrubbed (s : State) (g : Graft) : State :=
  let gen := shadowGen s (poolOf g.spare)
  if g.unit.cls = .table then
    let s1 := dropGraft s g
    showGrafting { s1 with rake := { s1.rake with tableShadow := s1.rake.tableShadow.erase g.spare.idx } }
  else
    let h := { g with ready := true, prep := true }
    let s1 := setGen (putGraft s h) g.spare gen
    if !g.prep || g.unit.cls = .trowel then prepare s1 h
    else if handshakeOver s g then finishGraft s1 h
    else s1

/-- A scrub ends (R423); `ok` is what the read-back compared. It fails from a shadow that nothing could mend (R426). A second
mismatch fences the unit; a table bank's lookups stay with the shadow (R425). -/
def endScrub (s : State) (g : Graft) (ok : Bool) : State :=
  let gen := shadowGen s (poolOf g.spare)
  if g.gen ≠ gen ∧ g.busy < 10 then putGraft s { g with gen := gen, busy := g.busy + 1 }
  else if ok && !s.rake.badShadow.contains (poolOf g.spare) then scrubbed s g
  else if g.tries = 0 then putGraft s { g with tries := 1 }
  else if g.unit.cls = .table then
    showGrafting (record (fenceUnit (dropGraft s g) g.unit g.serves g.ev) 7 g.ev (some g.spare))
  else
    let s1 := record (fenceUnit (unprepare (dropGraft s g) g) g.spare g.serves g.ev) 7 g.ev (some g.spare)
    showGrafting (afterLaneGraft (startGraft (record s1 6 g.ev (some g.spare)) g.unit g.serves g.ev g.fenced) g)

/-- The scrub of a unit without power or asleep is told ahead of its return: the read-backs that failed in a row (R423). (In part DESIGN CHOICE, log entry 15.) -/
def wakeScrub (s : State) (c : Nat) (ok : Bool) : State :=
  match unitOfCode c with
  | none => s
  | some u =>
    if domState (mode s) u.domain = 0 ∨ (servesOf s u).isNone ∨ unitFenced s u then s
    else { s with rake := { s.rake with
      woken := if ok then s.rake.woken.erase c else s.rake.woken.insert c (min 2 (s.rake.woken.get c 0 + 1)) } }

/-- The graft whose spare has unit code `u`. -/
def graftByCode (s : State) (u : Nat) : Option Graft := s.rake.grafts.find? fun g => g.spare.code = u

/-- No scrub ends in a unit without power. -/
def scrubEnd (u : Nat) (ok : Bool) (s : State) : State :=
  match graftByCode s u with
  | none => wakeScrub s u ok
  | some g => if g.ready || unitDown s g.spare then s else endScrub s g ok

def execScrubComplete (u : Nat) (ok : Bool) (s : State) : Host.Outcome State Fault Refusal :=
  .next (judgeAsk (sweepHunts (scrubEnd u ok (fresh s))))

/-- The switch-over of a ready graft of one of the classes `p`. -/
def switchOver (u : Nat) (p : UCls → Bool) (s : State) : State :=
  match graftByCode s u with
  | none => s
  | some g => if g.ready && p g.unit.cls then finishGraft s g else s

def execBankGraftSwitchover (u : Nat) (s : State) : Host.Outcome State Fault Refusal :=
  .next (switchOver u (fun c => c = .bank) (fresh s))

def execTileGraftSwitchover (u : Nat) (s : State) : Host.Outcome State Fault Refusal :=
  .next (switchOver u (fun c => c = .parser || c = .reshuf) (fresh s))

/-! ### Returning a unit (R427) -/

/-- The memory that ARG names holds the bank that served place p (R408, R429). -/
def memHolds (arg : Nat) (u : RUnit) (p : Nat) : Bool :=
  if arg = 2 then u.cls = .table else u.cls = .bank && (if arg = 0 then p < 96 else 96 ≤ p)

/-- An injection's target is the place p that the unit served, or the memory that it belonged to (R429, R430). (In part DESIGN CHOICE, log entry 15.) -/
def injectUnits (s : State) (e : FaultEv) (u : RUnit) (p : Nat) : Bool :=
  match e.kind with
  | 5 => memHolds e.arg u p
  | 6 => memHolds e.arg u p
  | 7 => u.cls = .parser && u.idx / 16 = 4 * (4 * e.scope.bedOf + e.scope.rowOf) + e.arg
  | 8 => u.cls = .reshuf && u.idx / 16 = 4 * (4 * e.scope.bedOf + e.scope.rowOf) + e.arg
  | _ => u.cls = .cipher && servesOf s u = some (logicalEng (4 * e.scope.bedOf + e.scope.rowOf) (e.arg = 1))

/-- A graft, a scrub or an injection involves the fenced unit. -/
def unitBusy (s : State) (f : Fenced) : Bool :=
  s.rake.grafts.any (fun g => g.unit = f.unit || g.spare = f.unit) ||
    (match s.rake.inject with
     | some (e, _, _) => injectUnits s e f.unit f.serves
     | none => false)

/-- RAKE_RETURN is written: RESULT 3 or 4, or the self-test starts. -/
def returnGo (v : Word) (s : State) : State :=
  let s1 := wr s RAKE_RETURN.LOC (fldOf RAKE_RETURN.LOC v)
  if fldSet RAKE_RETURN.GO v && !flag s RAKE_RETURN.GO then
    match s.rake.fenced.find? fun f => Config.locCode f.unit.code % 2 ^ 20 = fldOf RAKE_RETURN.LOC v with
    | none => wr s1 RAKE_RETURN.RESULT 3
    | some f =>
      if unitBusy s f then wr s1 RAKE_RETURN.RESULT 4
      else setFlag { s1 with rake := { s1.rake with returning := some f } } RAKE_RETURN.GO true
  else s1

def execRakeReturn (v : Word) (s : State) : Host.Outcome State Fault Refusal := .next (returnGo v (fresh s))

/-- The unit leaves its fence: a free spare of its scope with generation 0; the shadow still serves a table bank's lookups. (In part DESIGN CHOICE, log entry 15.) -/
def unfence (s : State) (f : Fenced) : State :=
  let s1 := setGen { s with rake := { s.rake with fenced := s.rake.fenced.filter fun x => x.unit ≠ f.unit } } f.unit 0
  match f.unit.cls with
  | .table => { s1 with rake := { s1.rake with place := s1.rake.place.erase f.unit.code } }
  | .lane => setFree (wr s1 (HL_LANE_STAT.STATE (f.unit.idx / 34) (f.unit.idx % 34)) 0) (poolOf f.unit)
      (insertNat f.unit.idx (freeSpares s1 (poolOf f.unit)))
  | .lrx =>
    let s2 := setFree s1 (poolOf f.unit) (insertNat f.unit.idx (freeSpares s1 (poolOf f.unit)))
    if (servesOf s2 f.unit).isSome then s2
    else { s2 with line := { s2.line with rxFenced := s2.line.rxFenced.erase f.unit.idx } }
  | .ltx =>
    let s2 := setFree s1 (poolOf f.unit) (insertNat f.unit.idx (freeSpares s1 (poolOf f.unit)))
    if (servesOf s2 f.unit).isSome then s2
    else { s2 with line := { s2.line with txFenced := s2.line.txFenced.erase f.unit.idx } }
  | _ => setFree s1 (poolOf f.unit) (insertNat f.unit.idx (freeSpares s1 (poolOf f.unit)))

/-- The first place of a unit's pool that has neither a unit nor a graft in progress. -/
def placeWaits (s : State) (u : RUnit) : Option Fenced :=
  s.rake.unserved.find? fun w =>
    poolOf w.unit = poolOf u && !(s.rake.grafts.any fun g => g.unit.cls = w.unit.cls && g.serves = w.serves)

/-- The self-test ends (R427): a place of the unit's scope that waits is grafted at once, and a table bank is scrubbed. -/
def returnEnd (ok : Bool) (s : State) : State :=
  match s.rake.returning with
  | none => s
  | some f =>
    let s1 := setFlag { s with rake := { s.rake with returning := none } } RAKE_RETURN.GO false
    if ok then
      let s2 := record (unfence (wr s1 RAKE_RETURN.RESULT 1) f) 8 f.ev (some f.unit)
      if f.unit.cls = .table then scrubTable s2 f.unit f.ev
      else
        match placeWaits s2 f.unit with
        | some w => if (chooseSpare s2 w.unit).isSome then graftWith s2 w.unit w.serves w.ev true f.unit.idx else s2
        | none => s2
    else wr s1 RAKE_RETURN.RESULT 2

def execRakeReturnComplete (ok : Bool) (s : State) : Host.Outcome State Fault Refusal := .next (returnEnd ok (fresh s))

/-! ### Injection (R429, R430) -/

/-- The target of RAKE_INJECT_TGT for a kind. -/
def injectTarget (s : State) (k : Nat) : FaultEv :=
  let g := 4 * rd s RAKE_INJECT_TGT.BED + rd s RAKE_INJECT_TGT.ROW
  let c := rd s RAKE_INJECT_TGT.SCOPE
  { kind := k, scope := if c = 2 then .row g else if c = 1 then .bed (g / 4) else .dev, arg := rd s RAKE_INJECT_TGT.ARG }

/-- The target exists on the variant and no unit of it is fenced. -/
def injectOk (s : State) (e : FaultEv) : Bool :=
  let inVariant : Bool := match e.scope with
    | .row g => g < rows s && (if e.kind = 9 then e.arg < 2 else e.kind = 7 || e.kind = 8) && decide (e.arg < 4)
    | .dev => (e.kind = 5 || e.kind = 6) && decide (e.arg < 3)
    | .bed _ => false
  inVariant && !(s.rake.unserved.any fun f =>
    if e.kind = 9 then f.unit.cls = .cipher && f.serves = logicalEng (4 * e.scope.bedOf + e.scope.rowOf) (e.arg = 1)
    else if e.kind = 7 || e.kind = 8 then injectUnits s e f.unit f.serves else false)

def injectGo (v : Word) (s : State) : State :=
  let s1 := writeFlds s [RAKE_INJECT.DRY, RAKE_INJECT.COUNT, RAKE_INJECT.KIND] v
  if fldSet RAKE_INJECT.GO v then
    let k := rd s1 RAKE_INJECT.KIND
    let e := injectTarget s k
    if k < 5 ∨ 9 < k then wr s1 RAKE_INJECT.RESULT 2
    else if !injectOk s e then wr s1 RAKE_INJECT.RESULT 3
    else if s.rake.inject.isSome then wr s1 RAKE_INJECT.RESULT 4
    else wr { s1 with rake := { s1.rake with
      inject := some (e, max 1 (rd s1 RAKE_INJECT.COUNT), flag s1 RAKE_INJECT.DRY) } } RAKE_INJECT.RESULT 1
  else s1

def execRakeInject (v : Word) (s : State) : Host.Outcome State Fault Refusal := .next (injectGo v (fresh s))

end Sys2Proof.Machine
end

