-- ==== Sys2Proof/Machine/Sched.lean ====
section
/-!
DEFINITION. The commands of the buffers and the schedulers (R299 to R328).
-/

namespace Sys2Proof.Machine

/-! ### Upstream (R301 to R307) -/

/-- A frame passes its meter: none when the policer drops it, else the count from which it is eligible. -/
def meterPass (f : UpIn) (s : State) : State × Option (Option Nat) :=
  if !f.meterEn then (s, some none)
  else
    let m := f.meter
    let x := meterFresh s m
    let len := f.bytes.length + (if flag s (METER_CFG.LEN_MODE m) then 2 else 24)
    let cost : Int := (len * 2 ^ 24 : Nat)
    let pol := flag s (METER_CFG.POL_EN m)
    if pol && decide (x.pol < cost) then (bump (putMeter s m x) (METER_CNT.POL_DROP m) 1, none)
    else
      let x1 := if pol then { x with pol := x.pol - cost } else x
      let r := rd s (METER_SHP_RATE.RATE m)
      if flag s (METER_CFG.SHP_EN m) && r ≠ 0 then
        let w := if 0 ≤ x1.shp then 0 else ceilDiv x1.shp.natAbs r
        let w1 := min w (2 ^ 30)
        let x2 := { x1 with shp := max (x1.shp - cost) (-(2 ^ 55)) }
        let s1 := putMeter s m x2
        let s2 := if 2 ^ 30 < w then bump s1 (METER_CNT.SHP_CLAMP m) 1 else s1
        (s2, some (if w1 = 0 then none else some ((cLow s + w1) % 2 ^ 32)))
      else (putMeter s m x1, some none)

/-- A frame enters its transmit queue, or is dropped there (R147). -/
def enterQueue (f : UpIn) (wait : Option Nat) (s : State) : State :=
  let n := cellsOf f.bytes.length
  if !flag s (ALLOC_LO.VALID f.slot) then freeUp (bump s BURST_DROP.NO_ALLOC 1) f.port n
  else if rd s (ALLOC_LO.OWNER f.slot) ≠ f.port / 32 then freeUp (bump s BURST_DROP.OWNER 1) f.port n
  else pushUp s { port := f.port, slot := f.slot, q := f.q, wait := wait, bytes := f.bytes }

/-- One classified upstream frame: policer, shaper, admission, queue. -/
def admitUp (f : UpIn) (s : State) : State :=
  let r := meterPass f s
  match r.2 with
  | none => r.1
  | some wait =>
    let s1 := r.1
    let p := f.port
    let n := cellsOf f.bytes.length
    let high := highEff s1 p + rd s1 (SCHED_UP_PORT_HEAD.HEADROOM p)
    if high < rd s1 (SCHED_UP_PORT_USE.USED p) + n then bump s1 (SCHED_UP_PORT_DROP.OVER p) 1
    else if upCells s1 < rd s1 SCHED_UP_USE.USED + n then bump s1 (SCHED_UP_PORT_DROP.FULL p) 1
    else
      let s2 := chargeUp s1 p n
      enterQueue f wait { s2 with sched := { s2.sched with lastAdm := s2.sched.lastAdm.insert p (s2.time.c + 1) } }

def admitUpNext (s : State) : State :=
  match s.sched.upIn with
  | [] => s
  | f :: r => admitUp f { s with sched := { s.sched with upIn := r } }

def execUpstreamAdmission (s : State) : Host.Outcome State Fault Refusal := .next (admitUpNext (fresh s))

/-- Frames whose wait has passed become eligible (R306). -/
def shaperDue (s : State) : State :=
  let due (f : UpFrame) : UpFrame :=
    match f.wait with
    | some e => if 0 ≤ signed32 (cLow s) e then { f with wait := none } else f
    | none => f
  { s with burst := { s.burst with queues := s.burst.queues.map fun e => (e.1, e.2.map due) } }

def execShaperEligible (s : State) : Host.Outcome State Fault Refusal := .next (shaperDue (fresh s))

/-- The background sweep refreshes a meter (R303). -/
def meterSweep (m : Nat) (s : State) : State := if m < 4096 then putMeter s m (meterFresh s m) else s

def execMeterSweep (m : Nat) (s : State) : Host.Outcome State Fault Refusal := .next (meterSweep m (fresh s))

/-- A write of METER_m_POL_RATE, _SHP_RATE, _CFG or _SHPB (`which` 0 to 3). -/
def meterStore (m which : Nat) (v : Word) (s : State) : State :=
  if m < 4096 ∧ which < 4 then
    let fs := match which with
      | 0 => [METER_POL_RATE.RATE m]
      | 1 => [METER_SHP_RATE.RATE m]
      | 2 => [METER_CFG.POL_EN m, METER_CFG.SHP_EN m, METER_CFG.LEN_MODE m, METER_CFG.POL_BURST m]
      | _ => [METER_SHPB.SHP_BURST m]
    meterFill (writeFlds s fs v) m
  else s

def execMeterConfigWrite (m which : Nat) (v : Word) (s : State) : Host.Outcome State Fault Refusal :=
  .next (meterStore m which v (fresh s))

/-! ### Pause sent (R309 to R314) -/

/-- The frame of an asserted pause is sent again. -/
def pauseAgain (p : Nat) (s : State) : State :=
  if portUpNow s p && flag s (SCHED_UP_PORT_USE.ASSERTED p) then sendFlow s p 0 else s

def execPauseResend (P : Nat) (s : State) : Host.Outcome State Fault Refusal := .next (pauseAgain P (fresh s))

/-- A write of SCHED_UP_PORT_p_CFG: a change of FC_MODE first releases the pause in the old form. (In part DEDUCED, log entry 38.) -/
def fcStore (p : Nat) (v : Word) (s : State) : State :=
  if p < ports s then
    let m := fcMode s p
    let fs := [SCHED_UP_PORT_CFG.FC_MODE p, SCHED_UP_PORT_CFG.PFC_EN p]
    let s1 := writeFlds s fs v
    if fcMode s1 p = m then s1
    else
      let rel := Nat.lor (pressMask s p) (holdMask s p)
      let bare := { s with sched := { s.sched with press := s.sched.press.filter (· ≠ p), hold := s.sched.hold.erase p } }
      let s2 := { s1 with sched := bare.sched }
      let s3 := if m ≠ 0 ∧ flag s (SCHED_UP_PORT_USE.ASSERTED p) then pushGen s2 p (flowFrame bare p m rel) else s2
      holdPort (checkPause (showAsserted s3 p) p) p
  else s

def execFcModeWrite (P : Nat) (v : Word) (s : State) : Host.Outcome State Fault Refusal := .next (fcStore P v (fresh s))

/-- Is a port active (R314)? -/
def portActive (s : State) (p : Nat) : Bool :=
  portFormed s p && (rd s (SCHED_UP_PORT_USE.USED p) ≠ 0 ||
    (match s.sched.lastAdm.get p 0 with
     | 0 => false
     | n + 1 => decide ((s.time.c + 2 ^ 64 - n) % 2 ^ 64 ≤ 10000)))

/-- The ledger (R313, R314). -/
def ledger (s : State) : State :=
  let act (g : Nat) : Nat := ((List.range 8).filter fun i => portActive s (8 * g + i)).length
  let rowsOn (b : Nat) : Nat := ((List.range 4).filter fun r => act (4 * b + r) ≠ 0).length
  let mult (b : Nat) : Nat := max 1 (rd s (SCHED_LEDGER.MULT b))
  let sum := (List.range (beds s)).foldl (fun a b => a + mult b * rowsOn b) 0
  let share (b : Nat) : Nat := if sum = 0 then 0 else rd s SCHED_POOL.POOL * mult b / sum
  let s1 := (List.range (beds s)).foldl (fun t b =>
    wr (wr t (SCHED_LEDGER.ACTIVE b) (rowsOn b)) (SCHED_LEDGER.ROW_SHARE b) (share b)) (wr s SCHED_STATUS.A_SUM sum)
  let tbl := (List.range (ports s)).filterMap fun p =>
    if portActive s p then some (p, share (p / 32) / act (p / 8) + 1) else none
  let s2 := setFlag { s1 with sched := { s1.sched with share := tbl } } SCHED_STATUS.TRIM (rd s PWR_THERM.STATE = 2)
  checkPauses s2

def execLedgerRecompute (s : State) : Host.Outcome State Fault Refusal := .next (ledger (fresh s))

/-! ### Downstream admission (R317) -/

def admitDn (f : DnIn) (s : State) : State :=
  let p := f.port
  let n := cellsOf f.bytes.length
  if !portFormed s p then bump s (SCHED_ROW.NOPORT (p / 8)) 1
  else if !portUpNow s p then bump s (SCHED_DN_PORT_DROP.DOWN p) 1
  else if rd s (SCHED_DN_Q.QMAX p f.q) * 8 < queueCells (dnQueue s p f.q) + n ∨
      rd s (SCHED_DN_PORT_CFG.PORT_MAX p) < rd s (SCHED_DN_PORT_STAT.USED p) + n ∨
      dnCells s < rd s SCHED_DN_USE.USED + n then bump s (SCHED_DN_QDROP.TAIL p f.q) 1
  else pushDn s p f.q { bytes := f.bytes, cells := n, spr := none, tag := f.tag }

def admitDnNext (s : State) : State :=
  match s.sched.dnIn with
  | [] => s
  | f :: r => admitDn f { s with sched := { s.sched with dnIn := r } }

def execDownstreamAdmission (s : State) : Host.Outcome State Fault Refusal := .next (admitDnNext (fresh s))

/-! ### Serving a port (R319, R325) -/

/-- The transmission that the port had under way has ended (R300). -/
def endFrame (s : State) (p : Nat) : State :=
  match s.sched.busy.find p with
  | none => s
  | some (_, c) => freeDn { s with sched := { s.sched with busy := s.sched.busy.erase p } } p c

/-- A frame starts on a port. -/
def startFrame (s : State) (p q cells : Nat) (l : List Byte) : State :=
  emit { s with sched := { s.sched with busy := s.sched.busy.insert p (q, cells) } } (.frame p (wireFrame l))

/-- A queue may start its head: its gate is open for the whole transmission and it is not paused. -/
def qReady (s : State) (p q : Nat) : Bool :=
  match dnQueue s p q with
  | [] => false
  | f :: _ => !qPaused s p q && bitAt (gatesOf s (p / 8)) q &&
      (neverCloses s (p / 8) q || decide (txTime s p f.sent.length ≤ closesIn s (p / 8) q))

/-- The head of queue q leaves; `w` tells a weighted queue. (In part DEDUCED, log entry 38.) -/
def serveQueue (s : State) (p q : Nat) (w : Bool) : State :=
  match dnQueue s p q with
  | [] => s
  | f :: r =>
    let a := s.sched.arb.get p {}
    let a1 := if w then a.start q (tagInc (f.bytes.length + 24) (rd s (SCHED_DN_Q.WEIGHT p q))) else a
    let s1 := setArb (setDnQueue s p q r) p (if r.isEmpty then a1.leave q else a1)
    match f.spr with
    | none => startFrame s1 p (q + 1) f.cells f.sent
    | some t =>
      let d := sprDepart s1 p f.bytes t
      startFrame d.2 p (q + 1) f.cells d.1

/-- The held Trellis frame of the lowest tributary of port p. -/
def heldTrib (s : State) (p : Nat) : Option (Nat × List Byte) :=
  (s.sched.trib.find? fun e => e.2.1 = p).map fun e => (e.1, e.2.2)

/-- One frame boundary. -/
def boundary (p : Nat) (s : State) : State :=
  let s0 := endFrame s p
  if !portUpNow s0 p || flag s0 (HL_PORT.TX_DOZING p) then s0
  else
    let s1 := if flag s0 (SCHED_GATE_CTRL.GATE_EN (p / 8)) then dropOver s0 p else s0
    match s1.sched.gen.get p [] with
    | l :: r => startFrame { s1 with sched := { s1.sched with gen := s1.sched.gen.set p r [] } } p 0 0 l
    | [] =>
      let prio := rd s1 (SCHED_DN_PORT_CFG.TRIB_PRIO p)
      match (if qPaused s1 p prio then none else heldTrib s1 p) with
      | some (t, l) => startFrame { s1 with sched := { s1.sched with trib := s1.sched.trib.erase t } } p 0 0 l
      | none =>
        let ready := (List.range 8).filter (qReady s1 p)
        let strict := ready.filter fun q => flag s1 (SCHED_DN_Q.SP p q)
        match strict.reverse with
        | q :: _ => serveQueue s1 p q false
        | [] =>
          match (s1.sched.arb.get p {}).pick ready with
          | some q => serveQueue s1 p q true
          | none => s1

def execPortFrameBoundary (P : Nat) (s : State) : Host.Outcome State Fault Refusal := .next (boundary P (fresh s))

/-- A pause timer of port p reaches 0. -/
def timerEnd (p q : Nat) (s : State) : State :=
  if q ≤ 8 ∧ p < ports s ∧ s.sched.timer.get (16 * p + q) 0 ≠ 0 then loadPause s p q 0 else s

def execPauseTimerExpiry (P q : Nat) (s : State) : Host.Outcome State Fault Refusal := .next (timerEnd P q (fresh s))

/-! ### Gate lists (R323 to R327) -/

def execGateEntryChange (g : Nat) (s : State) : Host.Outcome State Fault Refusal :=
  .next (if g < rows s then applyGates g (fresh s) else fresh s)

/-- The changeover at CT (R326, R328). -/
def changeover (g : Nat) (s : State) : State :=
  match s.sched.gct.find g with
  | some (ct + 1) =>
    if g < rows s ∧ flag s (SCHED_GATE_CTRL.PENDING g) ∧ ct ≤ now s then
      let s1 := { s with sched := { s.sched with gct := s.sched.gct.erase g } }
      let s2 := setFlag (setFlag s1 (SCHED_GATE_CTRL.ARM g) false) (SCHED_GATE_CTRL.PENDING g) false
      takeOver g (wr s2 (SCHED_GATE_CTRL.OPER g) (1 - rd s (SCHED_GATE_CTRL.OPER g)))
    else s
  | _ => s

def execGateChangeover (g : Nat) (s : State) : Host.Outcome State Fault Refusal := .next (changeover g (fresh s))

/-- The fields of register `reg` of list l of row g: 0 BASE_NS, 1 BASE_SEC, 2 CFG, 3 CYCLE, 4 + e entry e. -/
def gateFlds (g l reg : Nat) : List Fld :=
  match reg with
  | 0 => [SCHED_GATE_BASE_NS.NS g l]
  | 1 => [SCHED_GATE_BASE_SEC.SEC_LO g l]
  | 2 => [SCHED_GATE_CFG.SEC_HI g l, SCHED_GATE_CFG.LEN g l]
  | 3 => [SCHED_GATE_CYCLE.CYCLE g l]
  | n => [SCHED_GCL.GATES g l (n - 4), SCHED_GCL.INTERVAL g l (n - 4)]

/-- A write to a list or its registers (R327). -/
def gateStore (g l reg : Nat) (v : Word) (s : State) : State :=
  if g < rows s ∧ l < 2 ∧ reg < 260 then
    if l = rd s (SCHED_GATE_CTRL.OPER g) then setFlag s (SCHED_GATE_CTRL.WR_REFUSED g) true
    else
      let s1 := writeFlds s (gateFlds g l reg) v
      let s2 := { s1 with sched := { s1.sched with gct := s1.sched.gct.erase g } }
      setFlag (setFlag s2 (SCHED_GATE_CTRL.ARM g) false) (SCHED_GATE_CTRL.PENDING g) false
  else s

def execGateListWrite (g l reg : Nat) (v : Word) (s : State) : Host.Outcome State Fault Refusal :=
  .next (gateStore g l reg v (fresh s))

end Sys2Proof.Machine
end

