-- ==== Sys2Proof/Machine/Sprinkler.lean ====
section
/-!
DEFINITION. The Sprinkler's commands (R243 to R268).
-/

namespace Sys2Proof.Machine

/-- The Sprinkler runs (R244). -/
def sprOn (s : State) : Bool := inService s && flag s SPR_CTRL.ENABLE

/-- Where the answer to a received frame goes: its sender. -/
def replyTo' (h : PtpHead) : SprTo := { tr := h.tr, tag := h.tag, dmac := h.smac, addr := h.src, mc := false }

/-! ### Delay requests (R249, R255, R258) -/

/-- The Delay_Resp to a request. -/
def delayResp (s : State) (p : Nat) (d : SprTo) (l : List Byte) (off u : Nat) : State :=
  let corr := (beAt l (off + 8) 8 + 2 ^ 64 - fracOf u) % 2 ^ 64
  let msg := ptpHeader s p 9 54 (uniFlag d) corr (beAt l (off + 30) 2) 3 0x7F ++ stampBytes u ++ slice l (off + 20) 10
  sprSend s p d msg

/-- Does a client entry match a unicast Delay_Req? -/
def matchesReq (p : Nat) (h : PtpHead) (l : List Byte) (x : Client) : Bool :=
  x.port = p && x.tr = h.tr && x.addr = h.src && x.cid = beAt l (h.off + 20) 8 && x.cport = beAt l (h.off + 28) 2 &&
    (!x.vlan || h.tag.any fun t => t.2 = x.vid)

/-- The entry that serves a request, its Delay_Resp stream on and not expired: one that matches the VID before one that
does not ask for it. -/
def servesReq (s : State) (p : Nat) (h : PtpHead) (l : List Byte) : Option (Nat × Client) :=
  match s.spr.clients.find? fun e => e.2.vlan && matchesReq p h l e.2 && streamLive s e.2 0 with
  | some e => some e
  | none => s.spr.clients.find? fun e => matchesReq p h l e.2 && streamLive s e.2 0

/-- One Delay_Req. -/
def serveReq (q : PtpIn) (s : State) : State :=
  let p := q.port
  let h := q.head
  if !sprOn s || !flag s TIME_STATUS.VALID || !flag s (SPR_PORT.ENABLE p) then s
  else if h.mcast && flag s (SPR_PORT.MCAST_EN p) then
    delayResp s p (if flag s (SPR_PORT.DRESP_UNICAST p) then replyTo' h else mcastTo h.tr) q.bytes h.off q.u
  else if h.mcast then bump s SPR_DROP.NO_CLIENT 1
  else
    match servesReq s p h q.bytes with
    | none => bump s SPR_DROP.NO_CLIENT 1
    | some (i, x) =>
      if x.credit = 0 then
        bump (setClients s (s.spr.clients.insert i { x with drop := satAdd 16 x.drop 1 })) SPR_DROP.RATE 1
      else
        delayResp (setClients s (s.spr.clients.insert i { x with credit := x.credit - 1 })) p (clientTo x) q.bytes h.off q.u

def reqNext (s : State) : State :=
  match s.spr.inbox with
  | [] => s
  | q :: r => serveReq q { s with spr := { s.spr with inbox := r } }

def execDelayReq (s : State) : Host.Outcome State Fault Refusal := .next (reqNext (fresh s))

/-- A credit rises. -/
def creditUp (i : Nat) (s : State) : State :=
  match clientAt s i with
  | none => s
  | some x => setClients s (s.spr.clients.insert i { x with credit := min 4 (x.credit + 1) })

def execDrespCreditRefill (i : Nat) (s : State) : Host.Outcome State Fault Refusal := .next (creditUp i (fresh s))

/-! ### Announce, Sync, Follow_Up (R249 to R260, R267) -/

/-- A pending clear of the leap flags takes effect with an Announce (R253). -/
def leapClear (s : State) : State :=
  match s.spr.utc with
  | none => s
  | some (f, _) =>
    if f % 4 = 0 then wr (wr s SPR_UTC.LEAP61 0) SPR_UTC.LEAP59 0 else s

/-- A port's multicast transport. -/
def portTr (s : State) (p : Nat) : Nat := if rd s (SPR_PORT.TRANSPORT p) = 3 then 0 else rd s (SPR_PORT.TRANSPORT p)

/-- The Sprinkler may send on a port. -/
def sprPortOn (s : State) (p : Nat) : Bool := sprOn s && flag s (SPR_PORT.ENABLE p) && portUpNow s p

/-- An Announce of a multicast port, or of a client. -/
def sendAnnounce (mc : Bool) (i : Nat) (s : State) : State :=
  if mc then
    if sprPortOn s i && flag s (SPR_PORT.MCAST_EN i) then
      let s1 := leapClear s
      let d := mcastTo (portTr s i)
      let n := s.spr.mseqAnn.get i 0
      let s2 := { s1 with spr := { s1.spr with mseqAnn := s1.spr.mseqAnn.set i ((n + 1) % 65536) 0 } }
      sprSend s2 i d (announceMsg s1 i d n (rd s (SPR_PORT.LOG_ANN i)))
    else s
  else
    match clientAt s i with
    | none => s
    | some x =>
      if sprPortOn s x.port && streamLive s x 2 then
        let s1 := leapClear s
        let s2 := setClients s1 (s1.spr.clients.insert i { x with seqAnn := (x.seqAnn + 1) % 65536 })
        sprSend s2 x.port (clientTo x) (announceMsg s1 x.port (clientTo x) x.seqAnn 0x7F)
      else s

def execAnnounceSend (mc : Bool) (i : Nat) (s : State) : Host.Outcome State Fault Refusal := .next (sendAnnounce mc i (fresh s))

/-- A Sync of a multicast port, or of a client. -/
def sendSync (mc : Bool) (i : Nat) (s : State) : State :=
  if !flag s TIME_STATUS.VALID then s
  else if mc then
    if sprPortOn s i && flag s (SPR_PORT.MCAST_EN i) then
      let n := s.spr.mseqSync.get i 0
      let s1 := { s with spr := { s.spr with mseqSync := s.spr.mseqSync.set i ((n + 1) % 65536) 0 } }
      syncSend s1 i (mcastTo (portTr s i)) (flag s (SPR_PORT.TWO_STEP i)) n (rd s (SPR_PORT.LOG_SYNC i))
    else s
  else
    match clientAt s i with
    | none => s
    | some x =>
      if sprPortOn s x.port && streamLive s x 1 then
        let s1 := setClients s (s.spr.clients.insert i { x with seqSync := (x.seqSync + 1) % 65536 })
        syncSend s1 x.port (clientTo x) x.two x.seqSync 0x7F
      else s

def execSyncSend (mc : Bool) (i : Nat) (s : State) : Host.Outcome State Fault Refusal := .next (sendSync mc i (fresh s))

/-- The oldest Follow_Up due joins its port's queue; outside SERVICE and HOLDOVER it is not sent. -/
def followNext (s : State) : State :=
  match s.spr.follow with
  | [] => s
  | (p, l) :: r =>
    let s1 := { s with spr := { s.spr with follow := r } }
    if sprOn s then pushSpr s1 p l { kind := 0, off := 0, tr := 0, follow := [] } else s1

def execFollowUpSend (s : State) : Host.Outcome State Fault Refusal := .next (followNext (fresh s))

/-! ### Expiry (R263) -/

/-- A stream of the client at place i has expired: the row's load falls, and an entry with no live stream goes, remembered
for a renewal in the same cycle. -/
def expire (i : Nat) (s : State) : State :=
  match clientAt s i with
  | none => s
  | some x =>
    if streamLive s x 0 || streamLive s x 1 || streamLive s x 2 then sprShow s (x.port / 8)
    else
      let s1 := setClients s (s.spr.clients.erase i)
      sprShow { s1 with spr := { s1.spr with gone := (s.time.c, i, x) :: s.spr.gone.filter (·.1 = s.time.c) } } (x.port / 8)

def execStreamExpiry (i : Nat) (s : State) : Host.Outcome State Fault Refusal := .next (expire i (fresh s))

/-! ### Commands (R264) and ports (R257) -/

/-- SPR_CMD written with GO and a given OP; the word gives INDEX. -/
def sprOp (op : Nat) (v : Word) (s : State) : State :=
  let s1 := wr (wr s SPR_CMD.OP op) SPR_CMD.INDEX (fldOf SPR_CMD.INDEX v)
  sprRun op s1

def execSprUpsert (v : Word) (s : State) : Host.Outcome State Fault Refusal := .next (sprOp 1 v (fresh s))
def execSprRemove (v : Word) (s : State) : Host.Outcome State Fault Refusal := .next (sprOp 2 v (fresh s))
def execSprLookup (v : Word) (s : State) : Host.Outcome State Fault Refusal := .next (sprOp 3 v (fresh s))
def execSprRead (v : Word) (s : State) : Host.Outcome State Fault Refusal := .next (sprOp 4 v (fresh s))

/-- The fields of SPR_PORT_p. -/
def sprPortFlds (p : Nat) : List Fld :=
  [SPR_PORT.ENABLE p, SPR_PORT.MCAST_EN p, SPR_PORT.TWO_STEP p, SPR_PORT.TRANSPORT p, SPR_PORT.DRESP_UNICAST p,
   SPR_PORT.LOG_ANN p, SPR_PORT.LOG_SYNC p, SPR_PORT.TC p]

/-- A write of SPR_PORT_p: ignored with PORT_REFUSED when it breaks the intervals or the row's budget. -/
def sprPortStore (p : Nat) (v : Word) (s : State) : State :=
  if p < ports s then
    let s1 := writeFlds s (sprPortFlds p) v
    if logOk (-3) (rdInt s1 (SPR_PORT.LOG_ANN p)) ∧ logOk (-7) (rdInt s1 (SPR_PORT.LOG_SYNC p)) ∧ rowLoad s1 (p / 8) ≤ rowBudget then
      let was := flag s (SPR_PORT.ENABLE p) && flag s (SPR_PORT.MCAST_EN p)
      let on := flag s1 (SPR_PORT.ENABLE p) && flag s1 (SPR_PORT.MCAST_EN p)
      let s2 := if on && !was then
          { s1 with spr := { s1.spr with mseqSync := s1.spr.mseqSync.erase p, mseqAnn := s1.spr.mseqAnn.erase p } }
        else s1
      sprShow s2 (p / 8)
    else setFlag s SPR_STATUS.PORT_REFUSED true
  else s

def execSprPortWrite (p : Nat) (v : Word) (s : State) : Host.Outcome State Fault Refusal :=
  .next (sprPortStore p v (fresh s))

/-! ### Unicast negotiation (R261, R262) -/

/-- The next TLV of type 4, 6 or 7 from offset `o` of a PTP message's TLVs: its type, its data and the offset behind it;
others are passed over. `n` bounds their number. -/
def nextTlv (n : Nat) (l : List Byte) (o : Nat) : Option (Nat × List Byte × Nat) :=
  match n with
  | 0 => none
  | m + 1 =>
    let len := beAt l (o + 2) 2
    if l.length < o + 4 ∨ l.length < o + 4 + len then none
    else
      let ty := beAt l o 2
      if ty = 4 ∨ ty = 6 ∨ ty = 7 then some (ty, slice l (o + 4) len, o + 4 + len) else nextTlv m l (o + 4 + len)

/-- The TLVs of a Signaling message, from its PTP header's length. -/
def sigTlvs (q : PtpIn) : List Byte := (slice q.bytes q.head.off (beAt q.bytes (q.head.off + 2) 2)).drop 44

/-- The oldest message of the hand-off ring with its next TLV; messages without one are done with. -/
def sigFront (n : Nat) (s : State) : State × Option (PtpIn × PtpHead × Nat × List Byte × Nat) :=
  match n with
  | 0 => (s, none)
  | m + 1 =>
    match s.spr.ring with
    | [] => (s, none)
    | q :: r =>
      let pop := { s with spr := { s.spr with ring := r, sigOff := 0 } }
      let t := sigTlvs q
      match nextTlv t.length t s.spr.sigOff with
      | none => sigFront m pop
      | some (ty, d, o) => (s, some (q, q.head, ty, d, o))

/-- The oldest TLV of type `ty`, if that is what comes next, is handled by `f`; done messages leave the ring. -/
def sigStep (ty : Nat) (f : PtpIn → PtpHead → List Byte → State → State) (s : State) : State :=
  let x := sigFront (s.spr.ring.length + 1) s
  match x.2 with
  | none => x.1
  | some (q, h, t, d, o) =>
    if t = ty then
      let y := f q h d { x.1 with spr := { x.1.spr with sigOff := o } }
      (sigFront (y.spr.ring.length + 1) y).1
    else x.1

/-- A Signaling message with one TLV back to the requester. (In part DESIGN CHOICE, log entry 25.) -/
def sigReply (s : State) (q : PtpIn) (h : PtpHead) (ty : Nat) (data : List Byte) : State :=
  let d := replyTo' h
  let tlv := beBytes 2 ty ++ beBytes 2 data.length ++ data
  let seq := freeBelow s 65536
  let msg := ptpHeader s q.port 0xC (44 + tlv.length) (uniFlag d) 0 seq 5 0x7F ++ slice q.bytes (h.off + 20) 10 ++ tlv
  if sprPortOn s q.port && flag s TIME_STATUS.VALID then sprSend (useFree s) q.port d msg else s

/-- The client that a requester is. TWO_STEP of a new client is firmware's choice, a free value. (In part DESIGN CHOICE, log entry 25.) -/
def requester (s : State) (q : PtpIn) (h : PtpHead) : Client :=
  { port := q.port, tr := h.tr, two := freeBelow s 2 = 1, vlan := h.tag.isSome, pcp := (h.tag.map (·.1)).getD 0
    vid := (h.tag.map (·.2)).getD 0, addr := h.src, dmac := h.smac, cport := beAt q.bytes (h.off + 28) 2
    cid := beAt q.bytes (h.off + 20) 8, annExp := 0, syncExp := 0, drespExp := 0, logAnn := 0, logSync := 0, logDresp := 0
    on := 0, seqSync := 0, seqAnn := 0, drop := 0, credit := 0 }

/-- The stream of a message type: 2 Announce, 1 Sync, 0 Delay_Resp; and its smallest log interval. -/
def streamOf (mt : Nat) : Option (Nat × Int) :=
  if mt = 0xB then some (2, -3) else if mt = 0 then some (1, -7) else if mt = 9 then some (0, -7) else none

/-- An entry with one stream granted. -/
def withStream (x : Client) (i : Nat) (log : Int) (exp : Nat) : Client :=
  let on := Nat.lor x.on (2 ^ i)
  match i with
  | 2 => { x with on := on, logAnn := log, annExp := exp }
  | 1 => { x with on := on, logSync := log, syncExp := exp }
  | _ => { x with on := on, logDresp := log, drespExp := exp }

/-- A GRANT TLV: type 5. The renewal flag is copied from the bit of the request `d` that stands where the GRANT carries it;
of a request too short for that bit it is free. (In part DESIGN CHOICE, log entry 25.) -/
def grantTlv (s : State) (q : PtpIn) (h : PtpHead) (d : List Byte) (mt log dur : Nat) : State :=
  let renew := if 8 ≤ d.length then beAt d 7 1 % 2 else freeBelow s 2
  sigReply (useFree s) q h 5 (beBytes 1 (mt * 16) ++ beBytes 1 log ++ beBytes 4 dur ++ [0] ++ beBytes 1 renew)

/-- Firmware issues an upsert through SPR_DATA and SPR_CMD (R262, R264). -/
def fwUpsert (s : State) (x : Client) : State :=
  sprRun 1 (wr (showClient s x) SPR_CMD.OP 1)

/-- A REQUEST_UNICAST_TRANSMISSION TLV. -/
def requestTlv (q : PtpIn) (h : PtpHead) (d : List Byte) (s : State) : State :=
  let mt := beAt d 0 1 / 16
  let logB := beAt d 1 1
  match streamOf mt with
  | none => grantTlv s q h d mt logB 0
  | some (i, lo) =>
    let log := toSigned 8 logB
    let use := if log < lo then lo else log
    let dur := clampNat 10 (5 * max 2 (rd s SPR_CTRL.MAX_DUR)) (beAt d 2 4)
    let base := requester s q h
    let old := match sprFind s base with
      | some (_, x) => { x with dmac := base.dmac, pcp := base.pcp }
      | none => base
    let s1 := fwUpsert (useFree s) (withStream old i use ((secNow s + dur) % 2 ^ 32))
    let r := rd s1 SPR_CMD.RESULT
    grantTlv s1 q h d mt (if r = 1 ∨ r = 2 then ofSigned 8 use else logB) (if r = 1 ∨ r = 2 then dur else 0)

def execRequestUnicastTransmission (s : State) : Host.Outcome State Fault Refusal := .next (sigStep 4 requestTlv (fresh s))

/-- A CANCEL_UNICAST_TRANSMISSION TLV: the stream's ON bit clears; an entry with no stream on goes. -/
def cancelTlv (q : PtpIn) (h : PtpHead) (d : List Byte) (s : State) : State :=
  let mt := beAt d 0 1 / 16
  let s1 := match streamOf mt, sprFind s (requester s q h) with
    | some (i, _), some (_, x) =>
      let on := x.on - Nat.land x.on (2 ^ i)
      let t := fwUpsert s { x with on := on }
      if on = 0 then sprRun 2 (wr (showClient t { x with on := on }) SPR_CMD.OP 2) else t
    | _, _ => s
  sigReply s1 q h 7 (beBytes 1 (mt * 16) ++ [0])

def execCancelUnicastTransmission (s : State) : Host.Outcome State Fault Refusal := .next (sigStep 6 cancelTlv (fresh s))

/-- Nothing comes of an ACKNOWLEDGE_CANCEL. -/
def ackTlv (_ : PtpIn) (_ : PtpHead) (_ : List Byte) (s : State) : State := s

def execAcknowledgeCancelUnicastTransmission (s : State) : Host.Outcome State Fault Refusal := .next (sigStep 7 ackTlv (fresh s))

end Sys2Proof.Machine
end

