-- ==== Sys2Proof/Machine/Time.lean ====
section
/-!
DEFINITION. The time engine's commands: reads, rate, steps, triggers, PPS, captures, the servo and holdover (chapter 06),
and the sensors that triggers convert (R565).
-/

namespace Sys2Proof.Machine

/-! ### Reads (R210, R227) -/

/-- The snapshot of PF0's registers. -/
def latchTime (s : State) : State :=
  let u := now s
  let o := s.time.ofs
  let s1 := wr (wr (wr s TIME_NOW_NS.NS (nsOf u)) TIME_NOW_MID.SEC_LO (secOf u)) TIME_NOW_MID.FRAC (fracOf u)
  let s2 := wr (wr s1 TIME_NOW_SEC.SEC_HI (secOf u / 65536)) TIME_NOW_TS.TS (tsOf u)
  let s3 := wr (wr s2 TIME_CNT_LO.CNT_LO s.time.c) TIME_CNT_HI.CNT_HI (s.time.c / 2 ^ 32)
  let s4 := wr (wr (wr s3 TIME_OFS_NS.NS (nsOf o)) TIME_OFS_MID.SEC_LO (secOf o)) TIME_OFS_MID.FRAC (fracOf o)
  wr (wr (wr s4 TIME_OFS_SEC.SEC (secOf o / 65536)) TIME_BASE_LO.BASE_LO s.time.base) TIME_BASE_HI.BASE_HI (s.time.base / 2 ^ 32)

/-- The snapshot of a tenant function. -/
def latchShot (s : State) (f : Nat) : State :=
  { s with time := { s.time with shot := s.time.shot.insert f (now s, s.time.c, s.time.ofs, s.time.base) } }

/-- A read of TIME_NOW_NS, or by a tenant function of its BEDT_NOW_NS, which answers only while TIME_SNAP is in force
(R488, R496) and no bed reset runs (R506). -/
def readNow (src : Src) (s : State) : State :=
  let ans (t : State) : State := { t with readData := BitVec.ofNat 32 (nsOf (now t)) }
  match src with
  | .pf (f + 1) =>
    if fns s ≤ f + 1 then s
    else if featOn s (f + 1) 3 && !s.lane.resetting.contains f then ans (latchShot s (f + 1))
    else { s with readData := 0 }
  | _ => ans (latchTime s)

def execTimeNowRead (src : Src) (s : State) : Host.Outcome State Fault Refusal := .next (readNow src (fresh s))

/-- A read of TIME_FS_FC latches TS, FRAC and VALID of the selected entry; an entry without a record reads 0. (In part DEDUCED, log entry 22.) -/
def readFs (s : State) : State :=
  let s1 := match s.time.ring.find (rd s TIME_FS_SEL.IDX) with
    | some r =>
      wr (wr (wr (setFlag s TIME_FS_SEL.VALID true) TIME_FS_SEL.FRAC r.frac) TIME_FS_TS.TS r.ts) TIME_FS_FC.FC r.fc
    | none => wr (wr (wr (setFlag s TIME_FS_SEL.VALID false) TIME_FS_SEL.FRAC 0) TIME_FS_TS.TS 0) TIME_FS_FC.FC 0
  { s1 with readData := BitVec.ofNat 32 (rd s1 TIME_FS_FC.FC) }

def execTimeFsRead (s : State) : Host.Outcome State Fault Refusal := .next (readFs (fresh s))

/-! ### Rate, step, set (R211 to R215) -/

/-- A write of TIME_RATE_HI: all 40 bits are committed (R211, R212). -/
def rateStore (v : Word) (s : State) : State :=
  commitRate s (toSigned 40 (fldOf TIME_RATE_HI.RATE_HI v * 2 ^ 32 + rd s TIME_RATE_LO.RATE_LO))

def execTimeRateCommit (v : Word) (s : State) : Host.Outcome State Fault Refusal := .next (rateStore v (fresh s))

/-- TIME_STEP. -/
def stepVal (s : State) : Int := toSigned 48 (rd s TIME_STEP_HI.STEP_HI * 2 ^ 32 + rd s TIME_STEP_LO.STEP_LO)

/-- TIME_SET. -/
def setVal (s : State) : Nat :=
  ((rd s TIME_SET_SEC.SEC * 65536 + rd s TIME_SET_MID.SEC_LO) * 1000000000 + rd s TIME_SET_NS.NS) * 65536 + rd s TIME_SET_MID.FRAC

/-- A write of TIME_ADJ: FORCE, then the set or else the step that it requests. -/
def adjStore (v : Word) (s : State) : State :=
  let s1 := setFlag s TIME_ADJ.FORCE (fldSet TIME_ADJ.FORCE v)
  if fldSet TIME_ADJ.GO_SET v then requestStep s1 (setDelta s1 (setVal s1)) true
  else if fldSet TIME_ADJ.GO_STEP v then requestStep s1 (stepVal s1) false
  else s1

def execTimeStep (v : Word) (s : State) : Host.Outcome State Fault Refusal := .next (adjStore v (fresh s))

def execTimeSet (v : Word) (s : State) : Host.Outcome State Fault Refusal :=
  let t := fresh s
  .next (adjStore v t)

/-! ### Sensors (R564, R565) -/

/-- A conversion of group g begins, or merges with the one in progress; groups 5 to 15 convert nothing. -/
def startConv (s : State) (g : Nat) : State :=
  if 5 ≤ g ∨ s.mgmt.conv.contains g then s else { s with mgmt := { s.mgmt with conv := s.mgmt.conv ++ [g] } }

/-- How many temperature sensors the variant has. -/
def tempSensors (s : State) : Nat := if s.fuses.variant = 2 then 16 else 32

/-- The hottest of the valid temperature sensors 0 to n - 1, the lowest index first: index and reading. (In part DEDUCED, log entry 22.) -/
def hottest (s : State) (n : Nat) : Option (Nat × Int) :=
  (List.range n).foldl (fun (a : Option (Nat × Int)) i =>
    if flag s (SENS_TEMP.VALID i) then
      match a with
      | some (j, t) => if t < rdInt s (SENS_TEMP.TEMP i) then some (i, rdInt s (SENS_TEMP.TEMP i)) else some (j, t)
      | none => some (i, rdInt s (SENS_TEMP.TEMP i))
    else a) none

/-- The conversion of group g completes with these values: temperatures in 1/16 °C, or voltages in mV. -/
def convDone (g : Nat) (vals : List Int) (s : State) : State :=
  if s.mgmt.conv.contains g then
    let s0 := { s with mgmt := { s.mgmt with conv := s.mgmt.conv.erase g } }
    if g = 4 then
      (List.range 8).foldl (fun t m => setFlag (wr t (SENS_VOLT.MV m) (vals.getD m 0).toNat) (SENS_VOLT.VALID m) true) s0
    else
      let s1 := (List.range 8).foldl (fun t i =>
        if 8 * g + i < tempSensors t then
          setFlag (wrInt t (SENS_TEMP.TEMP (8 * g + i)) (vals.getD i 0)) (SENS_TEMP.VALID (8 * g + i)) true
        else t) s0
      match hottest s1 (tempSensors s1) with
      | some (i, t) => wrInt (wr s1 SENS_STATUS.HOT i) PWR_THERM.TJ t
      | none => s1
  else s

def execSensorConversionComplete (g : Nat) (vals : List Int) (s : State) : Host.Outcome State Fault Refusal :=
  .next (convDone g vals (fresh s))

/-- The millisecond's conversions of every group. -/
def autoConv (s : State) : State :=
  if flag s SENS_CTRL.AUTO && decide (2 ≤ mode s) then (List.range 5).foldl startConv s else s

def execSensorAutoConversion (s : State) : Host.Outcome State Fault Refusal := .next (autoConv (fresh s))

/-! ### Triggers and PPS (R236 to R239) -/

/-- ENABLE and ADV of PPS output x. -/
def ppsOn (s : State) (x : Nat) : Bool := if x = 0 then flag s TIME_PPS_A.ENABLE else flag s TIME_PPS_B.ENABLE
def ppsAdv (s : State) (x : Nat) : Nat := if x = 0 then rd s TIME_PPS_A.ADV else rd s TIME_PPS_B.ADV

/-- The STOCK edges for which PPS output x stays high, 1,000 in 100 ns; a WIDTH of 0 counts as 1 (R239). -/
def ppsWidth (s : State) (x : Nat) : Nat := 1000 * max 1 (if x = 0 then rd s TIME_PPS_A.WIDTH else rd s TIME_PPS_B.WIDTH)

/-- The STOCK edge, counted from C = 0, nearest to the instant `e` in units of 2^-16/10 ns (R209, R239); the even one of two
as near. (In part DESIGN CHOICE, log entry 41.) -/
def stockEdge (s : State) (e : Int) : Int :=
  8 * s.time.base + roundHalfEven ((e - 10 * s.time.ofs) * 2 ^ 32) (2 ^ 48 + s.time.rate)

/-- A pulse starts on PPS output x for a target, or extends the one in progress (R238, R239); a held pad stays low (R444). -/
def ppsStart (s : State) (x target : Nat) : State :=
  if !ppsOn s x || bitAt (rd s MODE_PAD.HOLD) 2 then s
  else
    let n := stockEdge s (10 * (target : Int) - ppsAdv s x * 65536)
    let stop := n + ppsWidth s x
    let s1 := { s with time := { s.time with pulse := s.time.pulse.insert x (((s.time.pulse.find x).map (max stop)).getD stop) } }
    if s.time.pulse.has x then s1 else emit s1 (.pps x n)

/-- The action of trigger n; `jumped` tells a target that a step jumped over. (In part DEDUCED, log entry 22.) -/
def trigAct (n : Nat) (meas : List LaserMeas) (jumped : Bool) (s : State) : State :=
  let a := rd s (TIME_TRIG_CTRL.ARG n)
  match rd s (TIME_TRIG_CTRL.ACTION n) with
  | 1 => pulseNamed s (a % 64)
  | 2 => startConv s (a % 16)
  | 3 => meas.foldl laserMeasure s
  | 4 => gateTrigger s (a % 32) (now s)
  | 5 => if jumped then s else ppsStart s 0 (trigEdge s n)
  | 6 => if jumped then s else ppsStart s 1 (trigEdge s n)
  | _ => s

/-- PERIOD of trigger n, where it is periodic. -/
def trigPeriod (s : State) (n : Nat) : Nat :=
  let p := rd s (TIME_TRIG_PERIOD.PERIOD n)
  if 1 ≤ p ∧ p ≤ 7 then 8 else p

/-- The target of trigger n moved by `ns` nanoseconds. -/
def trigMove (s : State) (n ns : Nat) : State :=
  let u := (trigTarget s n + ns * 65536) % timeWrap
  wr (wr (wr s (TIME_TRIG_NS.NS n) (nsOf u)) (TIME_TRIG_MID.SEC_LO n) (secOf u)) (TIME_TRIG_SEC.SEC n) (secOf u / 65536)

/-- The trigger after its action: ARM cleared, or the target moved on. -/
def trigNext (n : Nat) (jumped : Bool) (s : State) : State :=
  let p := trigPeriod s n
  if p = 0 then setFlag s (TIME_TRIG_CTRL.ARM n) false
  else if jumped then
    let k := if trigTarget s n ≤ now s then (now s - trigTarget s n) / (p * 65536) + 1 else 1
    bump (trigMove s n (k * p)) (TIME_TRIG_CTRL.SKIPPED n) (k - 1)
  else trigMove s n p

/-- Trigger n is armed, and its target is reached or was jumped over. -/
def trigDue (s : State) (n : Nat) : Bool :=
  flag s (TIME_TRIG_CTRL.ARM n) && (s.time.jumped.contains n || decide (trigTarget s n ≤ now s))

/-- The destination of trigger n's action: its ACTION and what ARG picks (R237). -/
def trigDest (s : State) (n : Nat) : Option (Nat × Nat) :=
  let a := rd s (TIME_TRIG_CTRL.ARG n)
  match rd s (TIME_TRIG_CTRL.ACTION n) with
  | 1 => some (1, a % 64)
  | 2 => some (2, a % 16)
  | 4 => some (4, a % 32)
  | 3 => some (3, 0)
  | 5 => some (5, 0)
  | 6 => some (6, 0)
  | _ => none

/-- No due trigger of a lower number has the destination of trigger n (R238). (In part DESIGN CHOICE, log entry 41.) -/
def trigTurn (s : State) (n : Nat) : Bool :=
  (List.range n).all fun m => !(trigDue s m && (trigDest s m).isSome && trigDest s m = trigDest s n)

/-- An armed trigger whose target is reached, or was jumped over, fires in its turn. (In part DESIGN CHOICE, log entry 41.) -/
def trigFire (n : Nat) (meas : List LaserMeas) (s : State) : State :=
  let jumped := s.time.jumped.contains n
  if 2 ≤ mode s ∧ n < 64 ∧ trigDue s n ∧ trigTurn s n then
    let s0 := { s with time := { s.time with jumped := s.time.jumped.erase n } }
    trigNext n jumped (trigAct n meas jumped (setFlag s0 (TIME_TRIG_CTRL.FIRED n) true))
  else s

def execTimeTriggerFire (n : Nat) (meas : List LaserMeas) (s : State) : Host.Outcome State Fault Refusal :=
  .next (judgeAsk (trigFire n meas (fresh s)))

/-- The pulse of PPS output x ends, its WIDTH over with the present count of C or before (R238, R239). -/
def ppsFall (x : Nat) (s : State) : State :=
  match s.time.pulse.find x with
  | some e => if e ≤ 8 * s.time.c + 7 then ppsDrop s x else s
  | none => s

def execPpsPulseEnd (x : Nat) (s : State) : Host.Outcome State Fault Refusal := .next (ppsFall x (fresh s))

/-- A rising edge on PPS_IN_x, sampled p eighths of a tick after C (R240). -/
def ppsCapture (x p : Nat) (s : State) : State :=
  if 2 ≤ mode s ∧ x < 2 ∧ flag s (TIME_CAP_CTRL.ENABLE x) then
    if flag s (TIME_CAP_CTRL.NEW x) then setFlag s (TIME_CAP_CTRL.OVERRUN x) true
    else
      let u := nowAt s (p % 8)
      let s1 := wr (wr s (TIME_CAP_NS.NS x) (nsOf u)) (TIME_CAP_MID.SEC_LO x) (secOf u)
      setFlag (wr (wr s1 (TIME_CAP_MID.FRAC x) (fracOf u)) (TIME_CAP_SEC.SEC x) (secOf u / 65536)) (TIME_CAP_CTRL.NEW x) true
  else s

def execPpsInCapture (x p : Nat) (s : State) : Host.Outcome State Fault Refusal := .next (ppsCapture x p (fresh s))

/-! ### TIME_INFO and the servo (R228 to R231) -/

/-- t_rec of R228: the record extended against T (R218), moved by the skew of channel c. -/
def recTime (s : State) (r : FsRec) (c : Nat) : Int :=
  let nref := secOf (now s) * 1000000000 + nsOf (now s)
  let n : Int := nref + signed32 r.ts (nref % 2 ^ 32)
  let skew : Int := if c = timingCh s then 0 else rdInt s (BURST_SKEW.SKEW c)
  n * 65536 + r.frac + roundHalfEven (skew * 65536) 115

/-- R228: the phase error of a TIME_INFO body, where the servo accepts it. -/
def phaseError (s : State) (b : List Byte) : Option Int :=
  let ext := beAt b 0 6
  let c := beAt b 6 1 % 64
  match s.time.ring.find (ext % 128) with
  | none => none
  | some r =>
    if flag s TIME_DC_STATUS.VALID ∧ r.ext = ext ∧ c < chans s ∧ inSync s c ∧ (c = timingCh s ∨ flag s (BURST_SKEW.VALID c)) then
      let the : Int := ((beAt b 8 6 * 1000000000 + beAt b 14 4) * 65536 + beAt b 18 2 : Nat)
      some (recTime s r c - (the + delayDn s.time c))
    else none

/-- UTC fields of an accepted TIME_INFO (R253). Flags that come clear are cleared with the next Announce. -/
def takeUtc (s : State) (b : List Byte) : State :=
  let f := beAt b 7 1
  let s1 := setFlag { s with spr := { s.spr with utc := some (f, beAt b 20 2) } } SPR_UTC.VALID (bitAt f 2)
  let s2 := if bitAt f 2 then wr s1 SPR_UTC.OFFSET (beAt b 20 2) else s1
  if bitAt f 0 || bitAt f 1 then setFlag (setFlag s2 SPR_UTC.LEAP61 (bitAt f 0)) SPR_UTC.LEAP59 (bitAt f 1) else s2

/-- LOCKED and REFUSED_RUN after an accepted TIME_INFO (R229, R231). -/
def takeError (s : State) (e : Int) : State :=
  let s1 := if e.natAbs ≤ jumpThresh s then wr s TIME_STATUS.REFUSED_RUN 0 else s
  let good := if e.natAbs ≤ 10 * 65536 then s1.time.good + 1 else 0
  let s2 := { s1 with time := { s1.time with good := good, info := some e } }
  let s3 := if 50 * 65536 < e.natAbs then setFlag s2 TIME_STATUS.LOCKED false
    else if 16 ≤ good then setFlag s2 TIME_STATUS.LOCKED true else s2
  noteStatus s s3

/-- The way back from HOLDOVER (R234). -/
def takeBack (s : State) (e : Int) : State :=
  if mode s = 5 then
    let n := if e.natAbs ≤ jumpThresh s then s.time.back + 1 else 0
    let s1 := { s with time := { s.time with back := n } }
    if 2 ≤ n then enterService s1 else s1
  else s

/-- A TIME_INFO message. -/
def timeInfo (m : Msg) (s : State) : State :=
  match phaseError s m.body with
  | none => s
  | some e => takeBack (takeError (takeUtc (keepAnswer s 0x0E m.seq none) m.body) e) e

def execTimeInfo (s : State) : Host.Outcome State Fault Refusal := .next (judgeAsk (onMsg 0x0E timeInfo (fresh s)))

/-- The servo's loop takes phase error `e`: its integral term moves, and the rate of that term, with the proportional term of
`e` where `prop` says so, is committed, held to the 40 bits of ρ (R229). The loop's gains are its own. (In part DESIGN CHOICE, log entry 43.) -/
def servoRate (s : State) (e : Int) (prop : Bool) : State :=
  let i := s.time.integ + Config.servoStep e
  commitRate { s with time := { s.time with integ := i } }
    (clampInt (-(2 ^ 39)) (2 ^ 39 - 1) (i + if prop then Config.servoProp e else 0))

/-- TIME_STEP written by the servo. -/
def putStep (s : State) (d : Int) : State :=
  let c := ofSigned 48 (clampInt (-(2 ^ 47)) (2 ^ 47 - 1) d)
  wr (wr s TIME_STEP_LO.STEP_LO c) TIME_STEP_HI.STEP_HI (c / 2 ^ 32)

/-- TIME_SET written by the servo. -/
def putSet (s : State) (u : Nat) : State :=
  wr (wr (wr (wr s TIME_SET_NS.NS (nsOf u)) TIME_SET_MID.SEC_LO (secOf u)) TIME_SET_MID.FRAC (fracOf u)) TIME_SET_SEC.SEC
    (secOf u / 65536)

/-- R229: the servo's correction of phase error e. (In part DEDUCED, log entry 22.) -/
def correct (s : State) (e : Int) : State :=
  if !flag s TIME_STATUS.VALID then
    let s1 := putSet s (((now s : Int) - e) % (timeWrap : Nat)).toNat
    requestStep s1 (setDelta s1 (setVal s1)) true
  else if e.natAbs ≤ 64 * 65536 then servoRate s e true
  else
    let s1 := putStep s (-e)
    let s2 := requestStep s1 (stepVal s1) false
    if e.natAbs ≤ jumpThresh s then servoRate s2 e false
    else if rd s2 TIME_ADJ.RESULT = 2 then bump s2 TIME_STATUS.REFUSED_RUN 1
    else s2

/-- A servo cycle (R229, R230, R232): one superframe ends. -/
def servoCycle (s : State) : State :=
  if 3 ≤ mode s then
    let e := s.time.info
    let s1 := { s with time := { s.time with info := none, sf := s.time.sf + 1 } }
    let s2 := if !inService s then s1
      else if e.isSome then wr { s1 with time := { s1.time with missed := 0 } } TIME_STATUS.LOST_RUN 0
      else bump { s1 with time := { s1.time with missed := s1.time.missed + 1 } } TIME_STATUS.LOST_RUN 1
    match e with
    | some d => if mode s = 5 then s2 else correct s2 d
    | none => s2
  else s

def execServoCycle (s : State) : Host.Outcome State Fault Refusal := .next (judgeAsk (servoCycle (fresh s)))

/-- The event "time messages lost or refused" of R38 (R230). -/
def messagesLost (s : State) : State :=
  if mode s = 4 ∧ (8 ≤ s.time.missed ∨ 4 ≤ rd s TIME_STATUS.REFUSED_RUN) then enterHoldover s false else s

def execTimeMessagesLost (s : State) : Host.Outcome State Fault Refusal := .next (judgeAsk (messagesLost (fresh s)))

/-- A second in HOLDOVER (R233). -/
def holdoverSecond (s : State) : State :=
  if mode s = 5 then
    let s1 := bump s TIME_HOLD.ELAPSED 1
    if max 1 (rd s1 TIME_HOLD.LIMIT) ≤ rd s1 TIME_HOLD.ELAPSED then enterJoinCold s1 13 else s1
  else s

def execHoldoverSecond (s : State) : Host.Outcome State Fault Refusal := .next (judgeAsk (holdoverSecond (fresh s)))

end Sys2Proof.Machine
end

