-- ==== Sys2Proof/Machine/Trowel.lean ====
section
/-!
DEFINITION. The instructions of the Trowel cores that touch no memory but common memory (R368, R369, R371, R372), the
events and the driver's control of a core. Each runs on logical core `n` in the frame of `onCore`.
-/

namespace Sys2Proof.Machine

/-- ADD (R368). -/
def execTrwAdd (n d a b : Nat) (s : State) : Host.Outcome State Fault Refusal :=
  .next (runCore (fresh s) n fun k => guardRegs [d, a, b] (wordR 0x01 d a b 0x00) (.next (k.addOp d (k.reg a) (k.reg b) 0)))

/-- ADDC (R368). -/
def execTrwAddc (n d a b : Nat) (s : State) : Host.Outcome State Fault Refusal :=
  .next (runCore (fresh s) n fun k => guardRegs [d, a, b] (wordR 0x01 d a b 0x01) (.next (k.addOp d (k.reg a) (k.reg b) k.carry)))

/-- SUB (R368). -/
def execTrwSub (n d a b : Nat) (s : State) : Host.Outcome State Fault Refusal :=
  .next (runCore (fresh s) n fun k => guardRegs [d, a, b] (wordR 0x01 d a b 0x02) (.next (k.subOp d (k.reg a) (k.reg b) 0)))

/-- SUBB (R368). -/
def execTrwSubb (n d a b : Nat) (s : State) : Host.Outcome State Fault Refusal :=
  .next (runCore (fresh s) n fun k => guardRegs [d, a, b] (wordR 0x01 d a b 0x03) (.next (k.subOp d (k.reg a) (k.reg b) (1 - k.carry))))

/-- AND (R368). -/
def execTrwAnd (n d a b : Nat) (s : State) : Host.Outcome State Fault Refusal :=
  .next (runCore (fresh s) n fun k => guardRegs [d, a, b] (wordR 0x01 d a b 0x04) (.next (k.logicOp d (Nat.land (k.reg a) (k.reg b)))))

/-- OR (R368). -/
def execTrwOr (n d a b : Nat) (s : State) : Host.Outcome State Fault Refusal :=
  .next (runCore (fresh s) n fun k => guardRegs [d, a, b] (wordR 0x01 d a b 0x05) (.next (k.logicOp d (Nat.lor (k.reg a) (k.reg b)))))

/-- XOR (R368). -/
def execTrwXor (n d a b : Nat) (s : State) : Host.Outcome State Fault Refusal :=
  .next (runCore (fresh s) n fun k => guardRegs [d, a, b] (wordR 0x01 d a b 0x06) (.next (k.logicOp d (Nat.xor (k.reg a) (k.reg b)))))

/-- SLL (R368). -/
def execTrwSll (n d a b : Nat) (s : State) : Host.Outcome State Fault Refusal :=
  .next (runCore (fresh s) n fun k => guardRegs [d, a, b] (wordR 0x01 d a b 0x07) (.next (k.shiftOp .sll d (k.reg a) (bits (k.reg b) 0 6))))

/-- SRL (R368). -/
def execTrwSrl (n d a b : Nat) (s : State) : Host.Outcome State Fault Refusal :=
  .next (runCore (fresh s) n fun k => guardRegs [d, a, b] (wordR 0x01 d a b 0x08) (.next (k.shiftOp .srl d (k.reg a) (bits (k.reg b) 0 6))))

/-- SRA (R368). -/
def execTrwSra (n d a b : Nat) (s : State) : Host.Outcome State Fault Refusal :=
  .next (runCore (fresh s) n fun k => guardRegs [d, a, b] (wordR 0x01 d a b 0x09) (.next (k.shiftOp .sra d (k.reg a) (bits (k.reg b) 0 6))))

/-- MIN (R368). -/
def execTrwMin (n d a b : Nat) (s : State) : Host.Outcome State Fault Refusal :=
  .next (runCore (fresh s) n fun k => guardRegs [d, a, b] (wordR 0x01 d a b 0x0A) (.next (k.znOp d (if k.sreg a ≤ k.sreg b then k.reg a else k.reg b))))

/-- MAX (R368). -/
def execTrwMax (n d a b : Nat) (s : State) : Host.Outcome State Fault Refusal :=
  .next (runCore (fresh s) n fun k => guardRegs [d, a, b] (wordR 0x01 d a b 0x0B) (.next (k.znOp d (if k.sreg a ≤ k.sreg b then k.reg b else k.reg a))))

/-- MUL (R368). -/
def execTrwMul (n d a b : Nat) (s : State) : Host.Outcome State Fault Refusal :=
  .next (runCore (fresh s) n fun k => guardRegs [d, a, b] (wordR 0x01 d a b 0x0C) (.next (k.znOp d (w32 (k.reg a * k.reg b)))))

/-- CLS (R368). -/
def execTrwCls (n d a : Nat) (s : State) : Host.Outcome State Fault Refusal :=
  .next (runCore (fresh s) n fun k => guardRegs [d, a] (wordR 0x01 d a 0 0x0D) (.next (k.znOp d (clsOf (k.reg a)))))

/-- DIVQ (R368): A and D even, else ILLEGAL; DIV when b is 0 or q is out of range, and then nothing is written. -/
def execTrwDivq (n d a b : Nat) (sgn : Bool) (s : State) : Host.Outcome State Fault Refusal :=
  .next (runCore (fresh s) n fun k => 
    let w := wordR 0x28 d a b (if sgn then 0 else 1)
    guardRegs [d, a, b] w (if d % 2 = 1 ∨ a % 2 = 1 then illegal w
      else
        match divq sgn (k.reg (a + 1)) (k.reg a) (k.reg b) with
        | none => .trap 8 0 0
        | some (q, r) => .next (((k.setZN q).setReg d q).setReg (d + 1) r).adv))

/-- ADDI (R368): the immediate is sign-extended. -/
def execTrwAddi (n d a imm : Nat) (s : State) : Host.Outcome State Fault Refusal :=
  .next (runCore (fresh s) n fun k => guardRegs [d, a] (wordI 0x02 d a imm) (.next (k.addOp d (k.reg a) (ofSigned 32 (toSigned 16 imm)) 0)))

/-- ANDI (R368): the immediate is zero-extended. -/
def execTrwAndi (n d a imm : Nat) (s : State) : Host.Outcome State Fault Refusal :=
  .next (runCore (fresh s) n fun k => guardRegs [d, a] (wordI 0x03 d a imm) (.next (k.logicOp d (Nat.land (k.reg a) (bits imm 0 16)))))

/-- ORI (R368). -/
def execTrwOri (n d a imm : Nat) (s : State) : Host.Outcome State Fault Refusal :=
  .next (runCore (fresh s) n fun k => guardRegs [d, a] (wordI 0x04 d a imm) (.next (k.logicOp d (Nat.lor (k.reg a) (bits imm 0 16)))))

/-- XORI (R368). -/
def execTrwXori (n d a imm : Nat) (s : State) : Host.Outcome State Fault Refusal :=
  .next (runCore (fresh s) n fun k => guardRegs [d, a] (wordI 0x05 d a imm) (.next (k.logicOp d (Nat.xor (k.reg a) (bits imm 0 16)))))

/-- LUI (R368): d := imm << 16; no flags. -/
def execTrwLui (n d imm : Nat) (s : State) : Host.Outcome State Fault Refusal :=
  .next (runCore (fresh s) n fun k => guardRegs [d] (wordI 0x06 d 0 imm) (.next (k.setReg d (bits imm 0 16 * 2 ^ 16)).adv))

/-- SHI (R368): IMM16[15:14] selects the shift, 3 is illegal; IMM16[13:5] is 0. -/
def execTrwShi (n d a imm : Nat) (s : State) : Host.Outcome State Fault Refusal :=
  .next (runCore (fresh s) n fun k => 
    let w := wordI 0x07 d a imm
    guardRegs [d, a] w (if bits imm 5 9 ≠ 0 then illegal w
      else
        match bits imm 14 2 with
        | 0 => .next (k.shiftOp .sll d (k.reg a) (bits imm 0 5))
        | 1 => .next (k.shiftOp .srl d (k.reg a) (bits imm 0 5))
        | 2 => .next (k.shiftOp .sra d (k.reg a) (bits imm 0 5))
        | _ => illegal w))

/-- BEQ (R369). -/
def execTrwBeq (n a b off : Nat) (s : State) : Host.Outcome State Fault Refusal :=
  .next (runCore (fresh s) n fun k => guardRegs [a, b] (wordI 0x08 a b off) (.next (k.branch (k.reg a = k.reg b) off)))

/-- BNE (R369). -/
def execTrwBne (n a b off : Nat) (s : State) : Host.Outcome State Fault Refusal :=
  .next (runCore (fresh s) n fun k => guardRegs [a, b] (wordI 0x09 a b off) (.next (k.branch (k.reg a ≠ k.reg b) off)))

/-- BLT (R369). -/
def execTrwBlt (n a b off : Nat) (s : State) : Host.Outcome State Fault Refusal :=
  .next (runCore (fresh s) n fun k => guardRegs [a, b] (wordI 0x0A a b off) (.next (k.branch (k.sreg a < k.sreg b) off)))

/-- BGE (R369). -/
def execTrwBge (n a b off : Nat) (s : State) : Host.Outcome State Fault Refusal :=
  .next (runCore (fresh s) n fun k => guardRegs [a, b] (wordI 0x0B a b off) (.next (k.branch (k.sreg b ≤ k.sreg a) off)))

/-- BLTU (R369). -/
def execTrwBltu (n a b off : Nat) (s : State) : Host.Outcome State Fault Refusal :=
  .next (runCore (fresh s) n fun k => guardRegs [a, b] (wordI 0x0C a b off) (.next (k.branch (k.reg a < k.reg b) off)))

/-- BGEU (R369). -/
def execTrwBgeu (n a b off : Nat) (s : State) : Host.Outcome State Fault Refusal :=
  .next (runCore (fresh s) n fun k => guardRegs [a, b] (wordI 0x0D a b off) (.next (k.branch (k.reg b ≤ k.reg a) off)))

/-- JMP (R369). -/
def execTrwJmp (n off : Nat) (s : State) : Host.Outcome State Fault Refusal :=
  .next (runCore (fresh s) n fun k => .next { k with pc := k.target 26 off })

/-- CALL (R369, R353). -/
def execTrwCall (n off : Nat) (s : State) : Host.Outcome State Fault Refusal :=
  .next (runCore (fresh s) n fun k => k.callTo (k.target 26 off))

/-- JR (R369). -/
def execTrwJr (n a : Nat) (s : State) : Host.Outcome State Fault Refusal :=
  .next (runCore (fresh s) n fun k => guardRegs [a] (wordR 0x10 0 a 0 0) (.next { k with pc := k.reg a }))

/-- CALLR (R369, R353). -/
def execTrwCallr (n a : Nat) (s : State) : Host.Outcome State Fault Refusal :=
  .next (runCore (fresh s) n fun k => guardRegs [a] (wordR 0x11 0 a 0 0) (k.callTo (k.reg a)))

/-- RET (R369, R353). -/
def execTrwRet (n : Nat) (s : State) : Host.Outcome State Fault Refusal :=
  .next (runCore (fresh s) n fun k => k.retCall)

/-- MPY (R360, R361, R371): `f` holds HA, HB, UA, UB in bits 3 to 0. -/
def execTrwMpy (n x a b f : Nat) (s : State) : Host.Outcome State Fault Refusal :=
  .next (runCore (fresh s) n fun k => guardRegs [a, b] (wordM 0x20 x f a b) (.next (k.setAcc x (k.product a b f)).adv))

/-- MAC (R360, R361, R371): `f` holds HA, HB, UA, UB in bits 3 to 0. -/
def execTrwMac (n x a b f : Nat) (s : State) : Host.Outcome State Fault Refusal :=
  .next (runCore (fresh s) n fun k => guardRegs [a, b] (wordM 0x21 x f a b) (.next (k.setAcc x (k.acc x + k.product a b f)).adv))

/-- MSU (R360, R361, R371): `f` holds HA, HB, UA, UB in bits 3 to 0. -/
def execTrwMsu (n x a b f : Nat) (s : State) : Host.Outcome State Fault Refusal :=
  .next (runCore (fresh s) n fun k => guardRegs [a, b] (wordM 0x22 x f a b) (.next (k.setAcc x (k.acc x - k.product a b f)).adv))

/-- MAC2 (R371): HA and HB are 0. -/
def execTrwMac2 (n a b f : Nat) (s : State) : Host.Outcome State Fault Refusal :=
  .next (runCore (fresh s) n fun k => 
    let w := wordM 0x23 0 f a b
    guardRegs [a, b] w (if 4 ≤ f then illegal w
      else
        let lo := halfOf (k.reg a) false (bitAt f 1) * halfOf (k.reg b) false (bitAt f 0)
        let hi := halfOf (k.reg a) true (bitAt f 1) * halfOf (k.reg b) true (bitAt f 0)
        .next (((k.setAcc 0 (k.accA + lo)).setAcc 1 (k.accB + hi)).adv)))

/-- ACLR (R371). -/
def execTrwAclr (n x : Nat) (s : State) : Host.Outcome State Fault Refusal :=
  .next (runCore (fresh s) n fun k => .next (k.accOp x 0))

/-- AMOV (R371). -/
def execTrwAmov (n x y : Nat) (s : State) : Host.Outcome State Fault Refusal :=
  .next (runCore (fresh s) n fun k => .next (k.accOp x (k.acc y)))

/-- AADD (R371). -/
def execTrwAadd (n x y : Nat) (s : State) : Host.Outcome State Fault Refusal :=
  .next (runCore (fresh s) n fun k => .next (k.accOp x (k.acc x + k.acc y)))

/-- ASUB (R371). -/
def execTrwAsub (n x y : Nat) (s : State) : Host.Outcome State Fault Refusal :=
  .next (runCore (fresh s) n fun k => .next (k.accOp x (k.acc x - k.acc y)))

/-- ASHL (R371): IMM6 above 39 is illegal. -/
def execTrwAshl (n x imm : Nat) (s : State) : Host.Outcome State Fault Refusal :=
  .next (runCore (fresh s) n fun k => if 39 < imm then illegal (wordA 0x04 x 0 0 imm) else .next (k.accOp x (k.acc x * 2 ^ imm)))

/-- ASHR (R371). -/
def execTrwAshr (n x imm : Nat) (s : State) : Host.Outcome State Fault Refusal :=
  .next (runCore (fresh s) n fun k => .next (k.accOp x ((k.acc x).fdiv (2 ^ imm : Nat))))

/-- ASHRR (R371). -/
def execTrwAshrr (n x imm : Nat) (s : State) : Host.Outcome State Fault Refusal :=
  .next (runCore (fresh s) n fun k => .next (k.accOp x (rhe (k.acc x) imm)))

/-- AADDW (R371): IMM6 above 8 is illegal. -/
def execTrwAaddw (n x a imm : Nat) (s : State) : Host.Outcome State Fault Refusal :=
  .next (runCore (fresh s) n fun k => 
    let w := wordA 0x07 x 0 a imm
    guardRegs [a] w (if 8 < imm then illegal w else .next (k.accOp x (k.acc x + k.sreg a * 2 ^ imm))))

/-- ALDW (R371): IMM6 above 8 is illegal. -/
def execTrwAldw (n x a imm : Nat) (s : State) : Host.Outcome State Fault Refusal :=
  .next (runCore (fresh s) n fun k => 
    let w := wordA 0x08 x 0 a imm
    guardRegs [a] w (if 8 < imm then illegal w else .next (k.accOp x (k.sreg a * 2 ^ imm))))

/-- MVA (R363, R371). -/
def execTrwMva (n d x : Nat) (s : State) : Host.Outcome State Fault Refusal :=
  .next (runCore (fresh s) n fun k => guardRegs [d] (wordA 0x09 x 0 d 0) (.next (k.mva d x)))

/-- ANEG (R371). -/
def execTrwAneg (n x : Nat) (s : State) : Host.Outcome State Fault Refusal :=
  .next (runCore (fresh s) n fun k => .next (k.accOp x (-k.acc x)))

/-- NOP (R372). -/
def execTrwNop (n : Nat) (s : State) : Host.Outcome State Fault Refusal :=
  .next (runCore (fresh s) n fun k => .next k.adv)

/-- TRAP (R372): the TRAPI trap with TADDR := N; in trap mode a double trap. -/
def execTrwTrap (n imm : Nat) (s : State) : Host.Outcome State Fault Refusal :=
  .next (runCore (fresh s) n fun k => .trap 9 0 (bits imm 0 6))

/-- RETT (R356): PRIV in task mode. -/
def execTrwRett (n : Nat) (s : State) : Host.Outcome State Fault Refusal :=
  .next (runCore (fresh s) n fun k => if k.trapMode then .next k.ret else privTrap (wordS 0x02 0))

/-- WAIT (R378): the core is suspended until an event is admitted; while it waits, PC stays at the WAIT. -/
def execTrwWait (n : Nat) (s : State) : Host.Outcome State Fault Refusal :=
  .next (onCore (fresh s) n fun t k =>
    if k.admitted then putCore t n k.adv else wr t (TROWEL_CORE_STATUS.STATE n) 2)

/-- EVCLR (R372): clears pending event N. -/
def execTrwEvclr (n imm : Nat) (s : State) : Host.Outcome State Fault Refusal :=
  .next (runCore (fresh s) n fun k => .next ({ k with evtPend := putBits k.evtPend (bits imm 0 6) 1 0 } : Core).adv)

/-- SEV (R372, R376, R377): pulses event N in every core; 56 to 63 pulse nothing. -/
def execTrwSev (n imm : Nat) (s : State) : Host.Outcome State Fault Refusal :=
  .next (onCore (fresh s) n fun t k => pulseNamed (putCore t n k.adv) (bits imm 0 6))

/-- HALT (R372): halts the core with cause 3 and records a fault; PRIV in task mode. (In part DEDUCED, log entry 26.) -/
def execTrwHalt (n : Nat) (s : State) : Host.Outcome State Fault Refusal :=
  .next (onCore (fresh s) n fun t k =>
    if k.trapMode then
      raise (haltCore (putCore t n k.adv) n 3) { kind := 13, scope := .dev, arg := n, loc := physCore t n }
    else applyOut t n k (privTrap (wordS 0x06 0)))

/-- BREAK (R372): the BREAK trap; with DEBUG at 1, a halt with cause 2. (In part DEDUCED, log entry 26.) -/
def execTrwBreak (n : Nat) (s : State) : Host.Outcome State Fault Refusal :=
  .next (onCore (fresh s) n fun t k =>
    if flag t (TROWEL_CORE_CTRL.DEBUG n) then haltCore (putCore t n k.adv) n 2 else applyOut t n k (.trap 11 0 0))

/-- MVS (R351, R372): Wd := system register SYS; a read of CYCLE_LO latches CYCLE_HI. (In part DEDUCED, log entry 10.) -/
def execTrwMvs (n d sys : Nat) (s : State) : Host.Outcome State Fault Refusal :=
  .next (onCore (fresh s) n fun t k =>
    let w := wordV 0x30 d sys
    if !okReg d || !sysListed sys then applyOut t n k (illegal w)
    else if sysTrap sys && !k.trapMode then applyOut t n k (privTrap w)
    else if sys = 20 then
      putCore t n (({ k with cycHi := cycleCount t k / 2 ^ 32 } : Core).setReg d (cycleCount t k)).adv
    else putCore t n (k.setReg d (k.sysGet n sys)).adv)

/-- MSV (R350, R351, R372): system register SYS := Wa. -/
def execTrwMsv (n sys a : Nat) (s : State) : Host.Outcome State Fault Refusal :=
  .next (runCore (fresh s) n fun k => 
    let w := wordV 0x31 a sys
    if !okReg a || !sysListed sys then illegal w
    else if (sysTrap sys || sys = 24 || sys = 25) && !k.trapMode then privTrap w
    else .next (k.sysSet sys (k.reg a)).adv)

/-- EVENT_TRAP (R378): with IE at 1 and TRAP at 0, an admitted event raises the EVENT trap before the next instruction. -/
def execEventTrap (n : Nat) (s : State) : Host.Outcome State Fault Refusal :=
  .next (
    let t := fresh s
    if coreRuns t n && (coreAt t n).takesEvent then putCore t n (coreAt t n).enterEvent else t)

/-- ILLEGAL_INSTRUCTION (R367): the core executes an illegal word and raises ILLEGAL, or a double trap in trap mode. A word
that R367 does not call illegal changes nothing. -/
def execIllegalInstruction (n : Nat) (w : Word) (s : State) : Host.Outcome State Fault Refusal :=
  if illegalWord w.toNat then .next (runCore (fresh s) n fun _ => illegal w.toNat) else .next (fresh s)

/-- The word of common memory at address `a`. -/
def commonWord (s : State) (a : Nat) : Nat := leNat ((span a 4).map fun x => s.common.get x 0)

/-- CAS (R370): ALIGN first; an aligned address outside common memory raises ACCESS; Z := (old = the compared value). -/
def execTrwCas (n d a b : Nat) (s : State) : Host.Outcome State Fault Refusal :=
  .next (onCore (fresh s) n fun t k =>
    let w := wordR 0x1E d a b 0
    let p := k.reg a
    if !(okReg d && okReg a && okReg b) then applyOut t n k (illegal w)
    else if p % 4 ≠ 0 then applyOut t n k (.trap 6 0 p)
    else if p < 0x400000 ∨ 0x800000 ≤ p then applyOut t n k (.trap 5 (if mapped p then 2 else 1) p)
    else if !((span p 4).all fun x => k.mayByte .load true x && k.mayByte .store true x) then
      applyOut t n k (.trap 5 (if k.mayByte .load true p && k.mayByte .store true p then 3 else 2) p)
    else
      let old := commonWord t p
      let eq : Bool := old = k.reg d
      let t1 := if eq then { t with common := storeBytes t.common p (leBytes 4 (k.reg b)) } else t
      putCore t1 n ((k.setSt 0 eq).setReg d old).adv)

/-! ### The driver's control of cores (R376, R385) -/

/-- Logical core n exists and is neither fenced nor restarting. -/
def coreLive (s : State) (n : Nat) : Bool :=
  n < cores s && (rd s (TROWEL_CORE_STATUS.STATE n) = 1 || rd s (TROWEL_CORE_STATUS.STATE n) = 2)

/-- TROWEL_CORE_n_CTRL.HALT set (R385): the core halts at the next instruction boundary with cause 1. -/
def setHalt (n : Nat) (t : State) : State :=
  if n < cores t then
    let t1 := setFlag t (TROWEL_CORE_CTRL.HALT n) true
    if coreLive t1 n then haltCore t1 n 1 else t1
  else t

def execCoreHalt (n : Nat) (s : State) : Host.Outcome State Fault Refusal := .next (setHalt n (fresh s))

/-- HALT cleared (R385): a core that HALT, BREAK or a HALT instruction stopped goes on at TROWEL_CORE_n_PC. -/
def clearHalt (n : Nat) (t : State) : State :=
  if n < cores t then
    let t1 := setFlag t (TROWEL_CORE_CTRL.HALT n) false
    let c := rd t1 (TROWEL_CORE_STATUS.HALT_CAUSE n)
    if rd t1 (TROWEL_CORE_STATUS.STATE n) = 3 ∧ 1 ≤ c ∧ c ≤ 3 then
      wr (wr t1 (TROWEL_CORE_STATUS.STATE n) 1) (TROWEL_CORE_STATUS.HALT_CAUSE n) 0
    else t1
  else t

def execCoreResume (n : Nat) (s : State) : Host.Outcome State Fault Refusal := .next (clearHalt n (fresh s))

/-- A write of TROWEL_EVT (R376): GO pulses EVENT in every core and clears when the pulse is delivered. -/
def evtStore (v : Word) (s : State) : State :=
  let t := wr s TROWEL_EVT.EVENT (fldOf TROWEL_EVT.EVENT v)
  if fldSet TROWEL_EVT.GO v then pulseNamed t (fldOf TROWEL_EVT.EVENT v) else t

def execTrowelEvtGo (v : Word) (s : State) : Host.Outcome State Fault Refusal := .next (evtStore v (fresh s))

/-- The word of a core's memory at offset `a` of space 0 (IMEM) or 1 (DMEM). -/
def coreWord (k : Core) (space a : Nat) : Nat :=
  leNat ((List.range 4).map fun i => (if space = 0 then k.imem else k.dmem).get (a + i) 0)

/-- An access to TROWEL_MEM_DATA (R385): it advances OFFSET and reaches the memory of a halted core; in any other state a
read returns 0, a write is ignored and MEM_REFUSED is set. The word read and the state after. -/
def memAccess (write : Bool) (v : Word) (t : State) : Nat × State :=
  let n := rd t TROWEL_MEM_ADDR.CORE
  let sp := rd t TROWEL_MEM_ADDR.SPACE
  let o := rd t TROWEL_MEM_ADDR.OFFSET
  let t1 := wr t TROWEL_MEM_ADDR.OFFSET (if sp = 0 then (o + 1) % 65536 else o + 1)
  if cores t ≤ n then (0, t1)
  else if rd t (TROWEL_CORE_STATUS.STATE n) = 3 then
    let k := coreAt t n
    let a := (if sp = 0 then o % 65536 else o) * 4
    let l := leBytes 4 v.toNat
    if write then
      (0, putCore t1 n (if sp = 0 then { k with imem := storeBytes k.imem a l } else { k with dmem := storeBytes k.dmem a l }))
    else (coreWord k sp a, t1)
  else (0, setFlag t1 (TROWEL_CORE_STATUS.MEM_REFUSED n) true)

/-- TROWEL_MEM_ACCESS. -/
def execTrowelMemAccess (write : Bool) (v : Word) (s : State) : Host.Outcome State Fault Refusal :=
  let x := memAccess write v (fresh s)
  .next (if write then x.2 else { x.2 with readData := BitVec.ofNat 32 x.1 })

end Sys2Proof.Machine
end

