-- ==== Sys2Proof/Machine/Access.lean ====
section
/-!
DEFINITION. Register accesses: which register an offset names for a source (R485 to R490), what a write of it does, and
what a read of it returns and does (R7, R10 to R12, R486 to R489, R496, R569).
-/

namespace Sys2Proof.Machine

/-- The index of an offset among registers at `base + stride · i`, i below `n`. -/
def idxAt (a base stride n : Nat) : Option Nat :=
  if base ≤ a ∧ (a - base) % stride = 0 ∧ (a - base) / stride < n then some ((a - base) / stride) else none

/-! ### Writes, block by block -/

/-- MODE, power and clock. -/
def storeMode (a : Nat) (fs : List Fld) (v : Word) (s : State) : State :=
  if a = 0x100000 then modeCtrlStore v s
  else
    match idxAt a 0x100104 4 25 with
    | some d => domStore (d + 1) v s
    | none => writeFlds s fs v

/-- TIME_TRIG_n: while ARM is 1 the target and the period ignore writes (R236). (In part DEDUCED, log entry 22.) -/
def storeTrig (n o : Nat) (fs : List Fld) (v : Word) (s : State) : State :=
  let s1 := writeFlds s fs v
  if o = 0x10 then
    if flag s (TIME_TRIG_CTRL.ARM n) ∧ flag s1 (TIME_TRIG_CTRL.ARM n) then s1
    else { s1 with time := { s1.time with jumped := s1.time.jumped.erase n } }
  else if flag s (TIME_TRIG_CTRL.ARM n) then s
  else s1

/-- A write of SPR_DATA_w: the fields of R266 that are neither reserved (R12) nor read only. -/
def sprDataStore (w : Nat) (v : Word) (s : State) : State :=
  if 13 ≤ w then s
  else wr s (SPR_DATA.V w) (Nat.land v.toNat (if w = 0 then 0xFFFFE0FF else if w = 12 then 0xFFFFFF07 else 0xFFFFFFFF))

/-- TIME and the Sprinkler. -/
def storeTime (a : Nat) (fs : List Fld) (v : Word) (s : State) : State :=
  if a = 0x200020 then rateStore v s
  else if a = 0x200038 then adjStore v s
  else if a = 0x200074 then
    { s with time := { s.time with cal := s.time.cal.set (rd s TIME_CAL_IDX.ENTRY) v.toNat 0 } }
  else if a = 0x2000A0 then (if fldSet TIME_PPS_A.ENABLE v then writeFlds s fs v else ppsDrop (writeFlds s fs v) 0)
  else if a = 0x2000A4 then (if fldSet TIME_PPS_B.ENABLE v then writeFlds s fs v else ppsDrop (writeFlds s fs v) 1)
  else if 0x201000 ≤ a ∧ a < 0x201800 then storeTrig ((a - 0x201000) / 0x20) (a % 0x20) fs v s
  else if a = 0x240030 then sprCmdStore v s
  else
    match idxAt a 0x242000 0x20 256, idxAt a 0x240040 4 16 with
    | some p, _ => sprPortStore p v s
    | _, some w => sprDataStore w v s
    | _, _ => writeFlds s fs v

/-- A write of ALLOC_n_LO. -/
def allocLoStore (n : Nat) (v : Word) (s : State) : State := if fldSet (ALLOC_LO.REMOVE n) v then removeSlot s n else s

/-- LINE optics, framer and burst engine. (In part DEDUCED, log entry 19.) -/
def storeLine (a : Nat) (fs : List Fld) (v : Word) (s : State) : State :=
  if a = 0x300000 then
    (let s1 := writeFlds s fs v
     if fldSet LINE_CTRL.RAMP_COMMIT v then commitRamp s1 else s1)
  else if a = 0x300010 then soaLimitStore v s
  else if a = 0x308008 then extRefStore v s
  else if a = 0x310008 then setEqd s (fldOf BURST_EQD.EQD v)
  else if a = 0x310010 then allocAddStore v s
  else
    match idxAt a 0x301000 0x20 64, idxAt a 0x302000 0x10 64, idxAt a 0x311000 8 256, idxAt a 0x311004 8 256 with
    | some k, _, _, _ => lrxCtrlWrite k v s
    | _, some k, _, _ => ltxCtrlWrite k v s
    | _, _, some n, _ => allocLoStore n v s
    | _, _, _, some n => allocKeyStore n v s
    | _, _, _, _ => writeFlds s fs v

/-- JOIN_CTRL: MAX_PROFILE, RELEASE, ENABLE. -/
def joinStore (v : Word) (s : State) : State :=
  let s1 := wr s JOIN_CTRL.MAX_PROFILE (fldOf JOIN_CTRL.MAX_PROFILE v)
  let s2 := if fldSet JOIN_CTRL.RELEASE v then endHold s1 else s1
  if fldSet JOIN_CTRL.ENABLE v then listenCheck (setFlag s2 JOIN_CTRL.ENABLE true) else enableClear s2

/-- SIEVE_LOCK: FORCE_RELEASE by PF0, RELEASE, ACQUIRE. -/
def svLockStore (o : Nat) (v : Word) (s : State) : State :=
  let s1 := if fldSet SIEVE_LOCK.FORCE_RELEASE v ∧ o = 1 then svForce s else s
  let s2 := if fldSet SIEVE_LOCK.RELEASE v then svRelease o s1 else s1
  if fldSet SIEVE_LOCK.ACQUIRE v then svAcquire o s2 else s2

/-- The SIEVE block, for the source with owner code `o`. (In part DEDUCED, log entry 24.) -/
def storeSieve (o a : Nat) (fs : List Fld) (v : Word) (s : State) : State :=
  if a = 0x500004 then
    (let s1 := if fldSet SIEVE_COMMIT.ABORT v then svAbort o s else s
     if fldSet SIEVE_COMMIT.GO v then svCommit o s1 else s1)
  else if a = 0x500008 then svLockStore o v s
  else if a = 0x50003C then svWord7 o v s
  else
    match idxAt a 0x500100 0x20 8, idxAt a 0x500108 0x20 8, idxAt a 0x500020 4 7 with
    | some b, _, _ => svCfgStore o b false v s
    | _, some b, _ => svCfgStore o b true v s
    | _, _, some w => svOpStore w v s
    | _, _, _ => if svStaged a then svStagedStore o fs v s else writeFlds s fs v

/-- SCHED_GATE_g_CTRL. -/
def gateCtrlStore (g : Nat) (v : Word) (s : State) : State :=
  let s1 := writeFlds s [SCHED_GATE_CTRL.STEP_SEEN g, SCHED_GATE_CTRL.UNARMED g, SCHED_GATE_CTRL.WR_REFUSED g] v
  let s2 := if fldSet (SCHED_GATE_CTRL.ARM g) v then setFlag s1 (SCHED_GATE_CTRL.ARM g) true else s1
  gateEnable g (fldSet (SCHED_GATE_CTRL.GATE_EN g) v) s2

/-- SCHED and the meters. -/
def storeSched (a : Nat) (fs : List Fld) (v : Word) (s : State) : State :=
  if 0x610000 ≤ a ∧ a < 0x620000 then
    gateStore ((a - 0x610000) / 0x800) (a / 0x400 % 2) (4 + a % 0x400 / 4) v s
  else if 0x620000 ≤ a ∧ a < 0x640000 ∧ a % 0x20 < 0x10 then meterStore ((a - 0x620000) / 0x20) (a % 0x20 / 4) v s
  else if 0x60C000 ≤ a ∧ a < 0x60C800 then
    (let g := (a - 0x60C000) / 0x40
     let o := a % 0x40
     if o = 0 then gateCtrlStore g v s else gateStore g (o / 0x10 - 1) (o % 0x10 / 4) v s)
  else
    match idxAt a 0x601000 0x20 256, idxAt a 0x601008 0x20 256 with
    | some p, _ => fcStore p v s
    | _, some _ => poolUpdate (writeFlds s fs v)
    | _, _ => if a = SCHED_CTRL.HOLD_MASK.addr then holdPorts (writeFlds s fs v) else writeFlds s fs v

/-- The CIPHER block. -/
def storeCipher (src : Src) (a : Nat) (fs : List Fld) (v : Word) (s : State) : State :=
  if a = 0x700010 then forFirmware src s (cipherLoadStore v)
  else if a = 0x700068 then slotErase v (slotSeal v s)
  else
    match idxAt a 0x700020 4 10 with
    | some i => forFirmware src s (cipherWordStore i v)
    | none => writeFlds s fs v

/-- TROWEL_CORE_n_CTRL. -/
def coreCtrlStore (n : Nat) (v : Word) (s : State) : State :=
  let s1 := wr s (TROWEL_CORE_CTRL.DEBUG n) (fldOf (TROWEL_CORE_CTRL.DEBUG n) v)
  let was := flag s (TROWEL_CORE_CTRL.HALT n)
  let on := fldSet (TROWEL_CORE_CTRL.HALT n) v
  let s2 := if on && !was then setHalt n s1 else if was && !on then clearHalt n s1 else s1
  if fldSet (TROWEL_CORE_CTRL.RESTART n) v then restartCore s2 n else s2

/-- The TROWEL block. -/
def storeTrowel (a : Nat) (fs : List Fld) (v : Word) (s : State) : State :=
  if a = 0x800004 then evtStore v s
  else if a = 0x80000C then (memAccess true v s).2
  else
    match idxAt a 0x800100 0x10 12 with
    | some n => coreCtrlStore n v s
    | none => writeFlds s fs v

/-- The registers of mover channel n (R388); BASE only in IDLE and ERROR. -/
def storeMvCh (src : Src) (n o : Nat) (fs : List Fld) (v : Word) (s : State) : State :=
  if o = 0 then mvCtrlStore src n (fldSet (MV_CH_CTRL.START n) v) (fldSet (MV_CH_CTRL.STOP n) v) s
  else if o = 0x10 then mvDbStore src n s
  else if !mvMay s n (mvCode src) then mvRefuse s n
  else if (o = 4 ∨ o = 8) ∧ mvState s n ≠ 0 ∧ mvState s n ≠ 5 then s
  else writeFlds s fs v

/-- The MOVER block; MOVER_HOST only by PF0. -/
def storeMover (src : Src) (a : Nat) (fs : List Fld) (v : Word) (s : State) : State :=
  if 0x901000 ≤ a ∧ a < 0x901200 then storeMvCh src ((a - 0x901000) / 0x20) (a % 0x20) fs v s
  else if mvCode src = 1 then writeFlds s fs v
  else s

/-- The RAKE block; ACTION of kinds 10 and 11 is fixed (R408). -/
def storeRake (a : Nat) (fs : List Fld) (v : Word) (s : State) : State :=
  if a = 0xA00018 then returnGo v s
  else if a = 0xA0001C then injectGo v s
  else
    match idxAt a 0xA00100 4 32 with
    | some k => writeFlds s (if k = 10 ∨ k = 11 then [RAKE_KIND.N k, RAKE_KIND.FW k, RAKE_KIND.TENANT k, RAKE_KIND.WINDOW k] else fs) v
    | none => writeFlds s fs v

/-- Host lanes and MAC. -/
def storeHost (a : Nat) (fs : List Fld) (v : Word) (s : State) : State :=
  if 0xB10000 ≤ a ∧ a < 0xB18000 then
    (let b := (a - 0xB10000) / 0x1000
     let l := a % 0x1000 / 0x20
     if a % 0x20 = 0 then laneCtrlWrite b l v s else if a % 0x20 = 4 then txeqStore b l v s else writeFlds s fs v)
  else
    match idxAt a 0xB02000 4 32 with
    | some g => rowModeWrite g v s
    | none => writeFlds s fs v

/-- The TRELLIS block. -/
def storeTrellis (a : Nat) (fs : List Fld) (v : Word) (s : State) : State :=
  if a = 0xC00000 then
    (let s1 := writeFlds s fs v
     if fldSet TRELLIS_CTRL.READY v then setFlag s1 TRELLIS_CTRL.READY true else s1)
  else if 0xC10000 ≤ a then
    (let p := (a - 0xC10000) / 0x10000
     if a % 0x10000 < 0x8000 then pageStore p false (a % 0x10000 / 4) v s else pageStore p true (a % 0x8000 / 4) v s)
  else writeFlds s fs v

/-- PMB_RAIL_r: a write that would set CORE on a second rail is ignored; an enabled rail has its faults cleared and is asked
for its VOUT_MODE (R446). (In part DESIGN CHOICE, log entry 32.) -/
def railStore (r : Nat) (v : Word) (s : State) : State :=
  if fldSet (PMB_RAIL.CORE r) v ∧ (List.range 8).any fun q => q ≠ r && flag s (PMB_RAIL.CORE q) then s
  else
    let s1 := writeFlds s [PMB_RAIL.EN r, PMB_RAIL.CORE r, PMB_RAIL.ADDR r, PMB_RAIL.PAGE r] v
    if flag s1 (PMB_RAIL.EN r) && !padHeld s1 5 then
      railPmb s1 r [0x03, 0x20]
    else s1

/-- MGMT, PMBus and BOOT. Whether the flash answers, and whether a fuse write succeeds, is a free value here. (In part DESIGN CHOICE, log entry 29.) -/
def storeMgmt (src : Src) (a : Nat) (fs : List Fld) (v : Word) (s : State) : State :=
  if a = 0xD08010 then fuseStore v (freeBelow s 2 = 1) (useFree s)
  else if a = 0xD08014 then liveStore v (freeBelow s 2 = 1) (useFree s)
  else if a = 0xD08018 then flashCmdStore src v s
  else if a = 0xD01008 then uartStore v s
  else
    match idxAt a 0xD04010 4 8, idxAt a 0xD00040 4 8, idxAt a 0xD0C000 0x400 9 with
    | some r, _, _ => railStore r v s
    | _, some b, _ => mgmtBedStore b v s
    | _, _, some f => mbxfStore f v s
    | _, _, _ => writeFlds s fs v

/-- A register of function f's management set at offset `o` of the set; in reset it takes no write (R482, R506). -/
def fnStore (f o : Nat) (fs : List Fld) (v : Word) (s : State) : State :=
  if fnQuiet s f then s
  else if o = 0x30 then (if fldSet (FEAT_CTRL.COMMIT f) v then featCommit f s else s)
  else if o = 0x40 ∨ o = 0x44 then (if flag s (NQ_CFG.EN f) then s else writeFlds s fs v)
  else if o = 0x48 then nqCfgStore f v s
  else if o = 0x4C then nqHeadStore f v s
  else if o = 0x60 then mbxStore f v s
  else if o = 0x300 then (if fldSet (BEDM_CTRL.BED_RESET f) v then bedAsk (.pf f) (f - 1) s else s)
  else writeFlds s fs v

/-- The feature bit that puts a register of a management set in force, if it needs one (R496, R497). (In part DEDUCED, log entry 13.) -/
def fnGate (o : Nat) : Option Nat :=
  if 0x40 ≤ o ∧ o < 0x54 then some 0
  else if o = 0x60 ∨ (0x100 ≤ o ∧ o < 0x300) then some 2
  else if o = 0x300 then some 4
  else none

/-- The register at offset `o` of function f's management set answers. (In part DEDUCED, log entry 13.) -/
def fnLive (s : State) (f o : Nat) : Bool :=
  match fnGate o with
  | some b => featOn s f b
  | none => true

/-- A write to a register of the blocks of PF0's map, or of its management set, by PF0, a core or the start-up logic. (In part DEDUCED, log entry 26.) -/
def storeReg (src : Src) (a : Nat) (fs : List Fld) (v : Word) (s : State) : State :=
  match a / 0x100000 with
  | 0 => if 0x100 ≤ a ∧ fnLive s 0 (a - 0x100) then fnStore 0 (a - 0x100) fs v s else s
  | 1 => storeMode a fs v s
  | 2 => storeTime a fs v s
  | 3 => storeLine a fs v s
  | 4 => if a = 0x400000 then joinStore v s else writeFlds s fs v
  | 5 => storeSieve (svOwner src) a fs v s
  | 6 => storeSched a fs v s
  | 7 => storeCipher src a fs v s
  | 8 => storeTrowel a fs v s
  | 9 => storeMover src a fs v s
  | 10 => storeRake a fs v s
  | 11 => storeHost a fs v s
  | 12 => storeTrellis a fs v s
  | 13 => storeMgmt src a fs v s
  | _ => writeFlds s fs v

/-! ### Bed windows (R488, R540, R569) -/

/-- The bed window that an offset lies in, and the offset in it. -/
def bedAt (a : Nat) : Option (Nat × Nat) :=
  if 0x1000000 ≤ a ∧ a < 0x3000000 then some ((a - 0x1000000) / 0x400000, (a - 0x1000000) % 0x400000) else none

/-- The register that offset `w` of BED_b's window copies. -/
def sourceOf (b w : Nat) : Option Nat :=
  if w % 4 ≠ 0 then none
  else if 0x50000 ≤ w ∧ w ≤ 0x50008 then some (0x500110 + 0x20 * b + (w - 0x50000))
  else if 0x60000 ≤ w ∧ w < 0x60400 ∧ w % 0x20 < 0x10 then
    let p := 32 * b + (w - 0x60000) / 0x20
    match w % 0x20 with
    | 0 => some (0x60100C + 0x20 * p)
    | 4 => some (0x601010 + 0x20 * p)
    | 8 => some (0x604004 + 0x20 * p)
    | _ => some (0x604008 + 0x20 * p)
  else if 0x61000 ≤ w ∧ w < 0x61800 ∧ w % 0x40 < 0x20 then
    some (0x608004 + 0x40 * (32 * b + (w - 0x61000) / 0x40) + w % 0x40 * 2)
  else if w = 0xB0000 then some (0xB01000 + 0x10 * b)
  else if 0xB0010 ≤ w ∧ w < 0xB0020 then some (0xB02000 + 4 * (4 * b) + (w - 0xB0010))
  else if 0xB0100 ≤ w ∧ w < 0xB0300 ∧ w % 0x10 ≤ 8 then
    some (0xB04000 + 0x10 * (32 * b + (w - 0xB0100) / 0x10) + w % 0x10)
  else if 0xB1000 ≤ w ∧ w < 0xB1440 ∧ (w % 0x20 = 8 ∨ w % 0x20 = 0xC) then some (0xB10000 + 0x1000 * b + (w - 0xB1000))
  else none

/-- The fields of the register copied, those that read-clear at the copy's own place (R489). -/
def copyFlds (s : State) (b w : Nat) : Option (List Fld) :=
  match sourceOf b w with
  | none => none
  | some a =>
    match regAt s a with
    | some (_, fs, _) => some (fs.map fun f => if f.acc = .rc then { f with addr := bedBase b + w } else f)
    | none => none

/-- The BEDF registers at offset `w` (R431). -/
def bedfFlds (b w : Nat) : Option (List Fld) :=
  if w = 0xA0010 then some [BEDF_STAT.OVERFLOW b, BEDF_STAT.COUNT b]
  else if 0xA0000 ≤ w ∧ w < 0xA0010 ∧ w % 4 = 0 then some [BEDF_POP.V b ((w - 0xA0000) / 4)]
  else none

/-- A BEDT register at offset `w`? -/
def isBedt (w : Nat) : Bool := w = 0x20000 || w = 0x20004 || w = 0x20008 || w = 0x2000C || w = 0x20010

/-- The word of a BEDT register, from the tenant's own snapshot. -/
def bedtWord (s : State) (b w : Nat) : Nat :=
  let u := (s.time.shot.get (b + 1) (0, 0, 0, 0)).1
  match w with
  | 0x20000 => nsOf u
  | 0x20004 => secOf u % 65536 * 65536 + fracOf u
  | 0x20008 => secOf u / 65536
  | 0x2000C => tsOf u
  | _ => (rd s TIME_STATUS.HOLD_FREE) * 8 + rd s TIME_STATUS.HOLDOVER * 4 + rd s TIME_STATUS.LOCKED * 2 + rd s TIME_STATUS.VALID

/-! ### Reads -/

/-- What a register reads as where it shows state that other registers or memories hold. (In part DESIGN CHOICE, log entry 15.) -/
def viewOf (s : State) (a : Nat) (fs : List Fld) : Nat :=
  if a = 0x31001C then min (queueBytes s (rd s BURST_QSEL.SLOT) (rd s BURST_QSEL.QUEUE)) (2 ^ 32 - 1)
  else if a = 0x20001C then ofSigned 40 s.time.rate % 2 ^ 32
  else if a = 0x200020 then ofSigned 40 s.time.rate / 2 ^ 32
  else if a = 0x200074 then s.time.cal.get (rd s TIME_CAL_IDX.ENTRY) 0
  else if a = 0x240004 then wordOf s fs + sprCond s * 2 ^ 21
  else if a = 0x100224 then
    (let tx := flag s PWR_WEAR_SEL.DIR
     let i := rd s PWR_WEAR_SEL.INDEX
     let p := (laserOf s tx (if flag s PWR_WEAR_SEL.SPARE then 64 + i else engOf s tx i)).wear / 315360000
     b2n (900 ≤ p) * 2 ^ 31 + min p 0xFFFF)
  else
    match idxAt a 0x800104 0x10 12, idxAt a 0x800108 0x10 12, idxAt a 0x100 4 4, idxAt a 0x500020 4 8 with
    | some n, _, _, _ =>
      let k := coreAt s n
      if rd s (TROWEL_CORE_STATUS.STATE n) = 0 then wordOf s fs
      else wordOf s fs + b2n k.trapMode * 2 ^ (TROWEL_CORE_STATUS.TRAP n).lsb + k.cwp * 2 ^ (TROWEL_CORE_STATUS.CWP n).lsb +
        k.depth * 2 ^ (TROWEL_CORE_STATUS.DEPTH n).lsb
    | _, some n, _, _ => (coreAt s n).pc
    | _, _, some i, _ => devFeat s 0 i
    | _, _, _, some w => svOpView s w
    | _, _, _, _ => wordOf s fs

/-- The RC fields of a register clear (R10). -/
def clearRc (s : State) (fs : List Fld) : State := fs.foldl (fun t f => if f.acc = .rc then wr t f 0 else t) s

/-- A read of a register of PF0's map by PF0, a core or the start-up logic: the word, and the state after. -/
def fetchReg (src : Src) (a : Nat) (fs : List Fld) (s : State) : Nat × State :=
  if a < 0x100000 ∧ 0x100 ≤ a ∧ fnLive s 0 (a - 0x100) = false then (0, s)
  else if a = 0x200004 then (nsOf (now s), latchTime s)
  else if a = 0x200064 then (let t := readFs s; (t.readData.toNat, { t with readData := s.readData }))
  else if a = 0x700054 then (let x := slotStateRead s; (x.1.toNat, x.2))
  else if a = 0x700070 then (let x := sealPop (isFirmware src) s; (x.1.toNat, x.2))
  else if a = 0x80000C then memAccess false 0 s
  else if a = 0xA00030 then (let t := popRing s 0; (rd t (RAKE_POP.V 0), { t with readData := s.readData }))
  else if a = 0xA00050 then (let t := popRing s 1; (rd t (RAKE_FW_POP.V 0), { t with readData := s.readData }))
  else if a = 0xD01008 then uartRead src s
  else
    match idxAt a 0x309004 0x20 64 with
    | some k => let x := extLoRead k s; (x.1.toNat, x.2)
    | none => (viewOf s a fs, clearRc s fs)

/-- What a source other than a tenant function finds at an offset that no register occupies: PF0 counts a hole (R486). (In part DEDUCED, log entry 14.) -/
def holeOf (src : Src) (s : State) : State :=
  match src with
  | .pf f => hole s f
  | _ => s

/-- A read by PF0 in a bed window (R487): no side effect; none at an offset without a register. (In part DEDUCED, log entry 14.) -/
def peekBed (s : State) (b w : Nat) : Option Nat :=
  if 0xA0000 ≤ w ∧ w < 0xA0010 ∧ w % 4 = 0 then some (((s.rake.bed.get b {}).pop.2).getD ((w - 0xA0000) / 4) 0)
  else if isBedt w then some (if featOn s (b + 1) 3 then bedtWord s b w else 0)
  else
    match copyFlds s b w, bedfFlds b w, regAt s (bedBase b + w) with
    | some fs, _, _ => some (wordOf s fs)
    | _, some fs, _ => some (wordOf s fs)
    | _, _, some (_, fs, _) =>
      let o := w - 0xD0000
      some (if fnLive s (b + 1) o then (if o < 0x10 then devFeat s (b + 1) (o / 4) else wordOf s fs) else 0)
    | _, _, none => none

/-- The registers at `a` are for Trowel firmware only, MBXF_f_CTRL, REQ and RESP (chapter 16): other sources read 0 there and write
nothing. (In part DEDUCED, log entry 13.) -/
def fwOnly (src : Src) (a : Nat) : Bool :=
  match src with
  | .trowel _ => false
  | _ => decide (0xD0C000 ≤ a ∧ a < 0xD0C000 + 0x400 * 9)

/-- A read by PF0, a core or the start-up logic. -/
def readMain (src : Src) (a : Nat) (s : State) : Nat × State :=
  match bedAt a with
  | some (b, w) =>
    if beds s ≤ b then (0, s)
    else
      match peekBed s b w with
      | some x => (x, s)
      | none => (0, holeOf src s)
  | none =>
    match regAt s a with
    | some (_, fs, present) => if present && !fwOnly src a then fetchReg src a fs s else (0, s)
    | none => (0, holeOf src s)

/-- The word that fields read as right after a reset. -/
def resetWord (fs : List Fld) : Nat := fs.foldl (fun a f => a + (if f.acc = .wo then 0 else f.rst * 2 ^ f.lsb)) 0

/-- A read of a BEDT register by tenant function b + 1: the read of the first one latches the snapshot. -/
def readBedt (b w : Nat) (s : State) : Nat × State :=
  if featOn s (b + 1) 3 then
    let s1 := if w = 0x20000 then latchShot s (b + 1) else s
    (bedtWord s1 b w, s1)
  else (0, s)

/-- A read of a register of function f's management set, at offset `o` of the set. -/
def readFn (f o : Nat) (fs : List Fld) (s : State) : Nat × State :=
  if fnLive s f o then (if o < 0x10 then devFeat s f (o / 4) else wordOf s fs, clearRc s fs) else (0, s)

/-- A read by tenant function b + 1 in its own window. -/
def readBed (b w : Nat) (s : State) : Nat × State :=
  if isBedt w then readBedt b w s
  else if w = 0xA0000 then (let t := popRing s (2 + b); (rd t (BEDF_POP.V b 0), { t with readData := s.readData }))
  else
    match copyFlds s b w, bedfFlds b w, regAt s (bedBase b + w) with
    | some fs, _, _ => (wordOf s fs, clearRc s fs)
    | _, some fs, _ => (wordOf s fs, clearRc s fs)
    | _, _, some (_, fs, _) => readFn (b + 1) (w - 0xD0000) fs s
    | _, _, none => (0, hole s (b + 1))

/-- The same during a reset of its bed (R506): reset values, and no effect. -/
def readQuiet (b w : Nat) (s : State) : Nat :=
  match copyFlds s b w, regAt s (bedBase b + w) with
  | some fs, _ => resetWord fs
  | _, some (_, fs, _) => if w - 0xD0000 < 0x10 then devFeat s (b + 1) ((w - 0xD0000) / 4) else resetWord fs
  | _, none => 0

/-- A read of the word at an offset of BAR0: the word, and the state after. -/
def readAt (src : Src) (off : Nat) (s : State) : Nat × State :=
  let a := off / 4 * 4
  match src with
  | .pf (f + 1) =>
    if fns s ≤ f + 1 then (0, s)
    else if a = 0 then (viewOf s 0 [DEV_IDENT.DEVICE, DEV_IDENT.VENDOR, DEV_IDENT.VARIANT, DEV_IDENT.STEPPING], s)
    else
      match bedAt a with
      | some (b, w) =>
        if b ≠ f then (0, hole s (f + 1)) else if fnQuiet s (f + 1) then (readQuiet b w s, s) else readBed b w s
      | none => (0, hole s (f + 1))
  | _ => readMain src a s

/-! ### Writes -/

/-- A write by PF0, a core or the start-up logic. -/
def writeMain (src : Src) (a : Nat) (v : Word) (s : State) : State :=
  match bedAt a with
  | some (b, _) => if beds s ≤ b then s else holeOf src s
  | none =>
    match regAt s a with
    | some (_, fs, present) => if present && !fwOnly src a then storeReg src a fs v s else s
    | none => holeOf src s

/-- A write by tenant function b + 1 in its own window. -/
def writeBed (b w : Nat) (v : Word) (s : State) : State :=
  let f := b + 1
  if isBedt w then (if featOn s f 3 then hole s f else s)
  else if 0xD0000 ≤ w then
    match regAt s (bedBase b + w) with
    | some (_, fs, _) => if fnLive s f (w - 0xD0000) then fnStore f (w - 0xD0000) fs v s else s
    | none => hole s f
  else hole s f

/-- A write of a word at an offset of BAR0. -/
def applyWrite (src : Src) (off : Nat) (v : Word) (s : State) : State :=
  let a := off / 4 * 4
  match src with
  | .pf (f + 1) =>
    if fns s ≤ f + 1 ∨ a = 0 then s
    else
      match bedAt a with
      | some (b, w) => if b ≠ f then hole s (f + 1) else if fnQuiet s (f + 1) then s else writeBed b w v s
      | none => hole s (f + 1)
  | _ => writeMain src a v s

def execRegisterWrite (src : Src) (off : Nat) (v : Word) (s : State) : Host.Outcome State Fault Refusal :=
  .next (applyWrite src off v (fresh s))

/-- The word read at an offset, left in readData. -/
def readInto (src : Src) (off : Nat) (s : State) : State :=
  let x := readAt src off s
  { x.2 with readData := BitVec.ofNat 32 x.1 }

def execReadClearAccess (src : Src) (off : Nat) (s : State) : Host.Outcome State Fault Refusal :=
  .next (readInto src off (fresh s))

/-- Is this access of function f one to a hole, or a write to a read-only copy (R485, R486, R569)? (In part DEDUCED, log entry 13; DEDUCED, log entry 14.) -/
def isHole (s : State) (f a : Nat) (write : Bool) : Bool :=
  match f with
  | 0 =>
    match bedAt a with
    | some (b, w) => decide (b < beds s) && (write || (peekBed s b w).isNone)
    | none => (regAt s a).isNone
  | g + 1 =>
    match bedAt a with
    | some (b, w) =>
      b ≠ g || (!fnQuiet s f &&
        (if isBedt w then write && featOn s f 3
         else if write then decide (w < 0xD0000) || (regAt s a).isNone
         else (copyFlds s b w).isNone && (bedfFlds b w).isNone && (regAt s a).isNone))
    | none => a ≠ 0

/-- An access of function f to a hole; an access to anything else is no hole access and changes nothing. -/
def holeTake (f off : Nat) (write : Bool) (s : State) : State :=
  if f < fns s ∧ isHole s f (off / 4 * 4) write then
    let s1 := hole s f
    if write then s1 else { s1 with readData := 0 }
  else s

def execHoleAccess (f off : Nat) (write : Bool) (s : State) : Host.Outcome State Fault Refusal :=
  .next (holeTake f off write (fresh s))

end Sys2Proof.Machine
end

