-- ==== Sys2Proof/Machine/Boot.lean ====
section
/-!
DEFINITION. The start-up logic: self-test, choice of a bank, authentication, loading and applying the seed image (R464 to
R475).
-/

namespace Sys2Proof.Machine

/-! ### The self-test (R424, R433, R464 step 2) -/

/-- One unit fails its self-test: a unit in service is fenced and its place grafted or lost; a spare is fenced and leaves its
pool. (In part DEDUCED, log entry 31.) -/
def testFail (s : State) (c : Nat) : State :=
  match unitOfCode c with
  | none => s
  | some u =>
    if unitFenced s u then s
    else
      match servesOf s u with
      | some p => let e := testEv u p; startGraft (fenceUnit s u p e) u p e true
      | none =>
        if (freeSpares s (poolOf u)).contains u.idx then
          let e := testEv u 0
          setFree (fenceUnit s u 0 { e with scope := .dev }) (poolOf u) ((freeSpares s (poolOf u)).filter (· ≠ u.idx))
        else s

/-! ### Loading (R472) -/

/-- One record of a SIEVE_RECORDS section: applied, and counted where it is refused (R291, R474). -/
def bootRecord (s : State) (l : List Byte) : State :=
  let r : SvRec := { words := (List.range 8).map fun i => leAt l (4 * i) 4 }
  let s1 := recApply r s
  let x := rd s1 SIEVE_OP_RES.RESULT
  if x = 1 ∨ (x = 5 ∧ r.op = 4) then s1 else bump s1 BOOT_LOAD.SIEVE_REFUSED 1

/-- A commit of the start-up logic; no frame carries the version that it ends, so that version retires. -/
def bootCommit (s : State) : State :=
  let v := rd s SIEVE_VER.CUR
  retire v (svCommit 3 s)

/-- The records of an image, a commit after every 4,096 of them. -/
def bootRecords (n : Nat) : List (List Byte) → State → State
  | [], s => s
  | l :: r, s =>
    let s1 := bootRecord s l
    bootRecords (n + 1) r (if (n + 1) % 4096 = 0 then bootCommit s1 else s1)

/-- The sections of one type, joined in table order. -/
def bootBytes (s : State) (b ty : Nat) : List Byte := ((imgSecs s b).filter (·.ty = ty)).flatMap (secBytes s b)

/-- The pieces of `n` bytes of a byte string. -/
def pieces (n : Nat) (l : List Byte) : List (List Byte) := (List.range (l.length / n)).map fun i => slice l (n * i) n

/-- What the loads leave in mover channel 0 (R388, R472): every section that is loaded, IMEM apart, has passed through
it in descriptors of the start-up logic's, of 2,048 bytes at most into the Sieve (R395), and the logic has stopped the
channel. (In part DEDUCED, log entry 31.) -/
def moverLoads (b : Nat) (s : State) : State :=
  let parts (x : ImgSec) : Nat :=
    if x.ty = 3 ∨ x.ty = 8 ∨ (x.ty = 4 ∧ cores s ≤ x.arg) then 0 else if x.ty = 6 then ceilDiv x.len 2048 else min 1 x.len
  let n := (imgSecs s b).foldl (fun a x => a + parts x) 0
  wr (wr (bump s (MV_CH_CNT.DONE 0) n) (MV_CH_STATUS.STARTER 0) 3) MOVER_STATUS.LAST_CH 0

/-- Step 5 of R464: COMMON and the records, with a commit after the last one. -/
def bootLoad (b : Nat) (s : State) : State :=
  let s1 := wr { s with common := memOf 0x400000 (bootBytes s b 5) } SIEVE_LOCK.OWNER 3
  let l := pieces 32 (bootBytes s b 6)
  let s2 := moverLoads b (bootRecords 0 l s1)
  if l.length % 4096 = 0 then s2 else bootCommit s2

/-! ### Applying (R470, R473) -/

/-- An offset that REG_LIST may name (R470). (In part DEDUCED, log entry 30.) -/
def regListOk (a : Nat) : Bool :=
  a % 4 = 0 && decide (a < 0x1000000) && !(decide (0x700000 ≤ a) && decide (a < 0xA00000)) &&
    !(decide (0x500000 ≤ a) && decide (a < 0x500040)) && !(decide (0xD08000 ≤ a) && decide (a < 0xD09000)) && a ≠ 0x100000

/-- One pair of REG_LIST. (In part DEDUCED, log entry 30.) -/
def bootPair (s : State) (l : List Byte) : State :=
  let a := leAt l 0 4
  if regListOk a then applyWrite .startup a (BitVec.ofNat 32 (leAt l 4 4)) s else s

/-- RAIL_TABLE; the rails of `off` report an unsupported VOUT_MODE (R446). -/
def bootRails (off : Nat) (l : List Byte) (s : State) : State :=
  (List.range 8).foldl (fun t r =>
    setFlag (railStore r (BitVec.ofNat 32 (leAt l (4 * r) 4)) t) (PMB_RAIL.DISABLED r) (bitAt off r)) s

/-- The cores start in ascending order, but one that waits for a graft or is fenced (R349, R473 step 6). (In part DEDUCED, log entry 31.) -/
def bootCores (s : State) : State :=
  (List.range (cores s)).foldl (fun t n =>
    if rd t (TROWEL_CORE_STATUS.STATE n) = 5 || t.rake.grafts.any (fun g => g.unit.cls = .trowel && g.serves = n) then t
    else startCore t n) s

/-- Step 6 of R464, and step 7. -/
def bootApply (b off : Nat) (s : State) : State :=
  let s1 := (pieces 8 (bootBytes s b 2)).foldl bootPair (bootRails off (bootBytes s b 1) s)
  let s2 := wr (bootCommit (applyTree s1 b)) SIEVE_LOCK.OWNER 0
  let s3 := { s2 with boot := { s2.boot with page0 := pageOf s b, page1 := {}, active := 0 } }
  let s4 := showImage (wr (bootCores s3) BOOT_STATUS.STATE 4) b
  if flag s4 BOOT_IMAGE.JOIN_PERMIT then enterJoinFirst s4 else s4

/-! ### The sequence (R464, R467, R474) -/

/-- What R475 allows for reading `n` bytes, in ns. -/
def readTime (s : State) (n : Nat) : Nat := if s.boot.bus.octal then n * 5 / 2 else n * 160

/-- The bound of R475 on the time of one bank, in ns, from the bytes that it reads, the directory's among them, and the Sieve
records and REG_LIST pairs of a bank that loads; `r` is what its check gave. -/
def bankTime (s : State) (b r : Nat) (g : Nat → Nat) : Nat :=
  let len (ty : Nat) : Nat := ((imgSecs s b).filter (·.ty = ty)).foldl (fun a x => a + x.len) 0
  readTime s ((dirReads ++ bankReads s b r g).foldl (fun a o => a + o.read) 0) +
    (if r = 1 then 2000 * (len 6 / 32) + 16 * (len 2 / 8) else 0)

/-- TIME_MS: a free value within the bound of R475 (in ns, beside its 10 ms). (In part DESIGN CHOICE, log entry 9.) -/
def bootTime (ns : Nat) (s : State) : State :=
  useFree (wr s BOOT_LOAD.TIME_MS (freeBelow s (min 65536 (ceilDiv (10000000 + ns) 1000000 + 1))))

/-- How often mover channel 0, which carries every section but IMEM and NOTE, finds a CRC wrong (R472). (In part DEDUCED, log entry 31.) -/
def moverMisses (s : State) (b r : Nat) (g : Nat → Nat) : Nat :=
  ((bankSecs s b r g).filter fun x => x.1.ty ≠ 3 && x.1.ty ≠ 8).foldl (fun a x => a + x.2) 0

/-- Mover channel 0 reports `n` CRC mismatches (R399, R472). -/
def crcFails (n : Nat) (s : State) : State :=
  (List.range n).foldl (fun t _ => raise t { kind := 14, scope := .dev, arg := 0 }) s

/-- Step 3 of R464: both copies of the directory are read, and the flash is set up for the mode that the one in use names
(R467). -/
def bootDir (s : State) : State :=
  let s1 := sendOps dirReads s
  match dirChoice s1 with
  | some (i, _) =>
    let m := dirBus s1 i
    let t := sendOps m.2 { s1 with boot := { s1.boot with bus := m.1 } }
    setFlag (wr t BOOT_STATUS.DIR_COPY i) BOOT_STATUS.DIR_VALID true
  | none => setFlag (wr { s1 with boot := { s1.boot with bus := {} } } BOOT_STATUS.DIR_COPY 0) BOOT_STATUS.DIR_VALID false

/-- The banks in the order in which they are tried, steps 3 to 6 for each (R474). The flash reads of bank `x` fail where
`bad x`, and of its section i `g x i` reads come back wrong. `ns` is the time that the banks before may have taken. -/
def bootTry (bad : Nat → Bool) (g : Nat → Nat → Nat) (off ns : Nat) : List Nat → State → State
  | [], s => wr (bootTime ns s) BOOT_STATUS.STATE 5
  | b :: r, s0 =>
    let s := bootDir s0
    let x := checkReads s b (bad b) (g b)
    let ns' := ns + bankTime s b x (g b)
    let s1 := setBankResult (crcFails (moverMisses s b x (g b)) (readBank b x (g b) s)) b x
    if x = 1 then bootApply b off (bootTime ns' (bootLoad b s1)) else bootTry bad g off ns' r s1

/-- In the self-test's list of failures, the entries that name a section: 2^20 + 64·bank + section, once for each of its reads
that comes back wrong. (In part DEDUCED, log entry 31.) -/
def badReads (fails : List Nat) (b i : Nat) : Nat := fails.count (2 ^ 20 + 64 * b + i)

/-- Steps 2 to 7 of R464. `fails` are the codes of the units that fail their self-test, and of the sections that a read
returns wrong. (In part DEDUCED, log entry 31.) -/
def bootRun (fails : List Nat) (rdA rdB : Bool) (off : Nat) (s : State) : State :=
  let s1 := wr s MODE_PAD.HOLD (rd s MODE_PAD.HOLD - Nat.land (rd s MODE_PAD.HOLD) 0x3E)
  let s2 := (fails.filter (· < 2 ^ 20)).foldl testFail { s1 with power := { s1.power with step := 0 } }
  let first := match dirChoice s2 with
    | some (_, p) => p
    | none => 0
  bootTry (fun b => if b = 0 then rdA else rdB) (badReads fails) off 0 [first, 1 - first] s2

/-- Step 1 of R464: after a thermal reset the logic waits until Tj is 95 °C or below. (In part DEDUCED, log entry 31.) -/
def bootCool (s : State) : Bool :=
  rd s MODE_STATUS.WAKE_CAUSE ≠ 7 ||
    match hottest s (tempSensors s) with
    | some (_, t) => t ≤ 1520
    | none => false

/-- The start-up logic runs at step 6 of R438. (In part DESIGN CHOICE, log entry 1; DESIGN CHOICE, log entry 9; DEDUCED, log entry 31.) -/
def startUp (fails : List Nat) (rdA rdB : Bool) (off : Nat) (s : State) : State :=
  if mode s = 2 ∧ s.power.step = 6 ∧ ¬ s.power.resetLow ∧ bootCool s then bootRun fails rdA rdB off s else s

def execStartupSequence (fails : List Nat) (rdA rdB : Bool) (off : Nat) (s : State) : Host.Outcome State Fault Refusal :=
  .next (judgeAsk (startUp fails rdA rdB off (fresh s)))

end Sys2Proof.Machine
end

