-- ==== Sys2Proof/Machine/Mover.lean ====
section
/-!
DEFINITION. The block mover's engine: fetching and checking descriptors, moving their bytes, their events and chains (R387 to
R406).
-/

namespace Sys2Proof.Machine

/-! ### Descriptors (R394) -/

/-- The words of a 64-byte descriptor. -/
def mvWords (l : List Byte) : List Nat := (List.range 16).map fun i => leAt l (4 * i) 4

def dWord (d : List Nat) (i : Nat) : Nat := d.getD i 0
def dOp (d : List Nat) : Nat := bits (dWord d 0) 28 4
def dStore (d : List Nat) : Bool := bitAt (dWord d 0) 27
def dCheck (d : List Nat) : Bool := bitAt (dWord d 0) 26
def dKind (d : List Nat) : Nat := bits (dWord d 0) 24 2
def dArg (d : List Nat) : Nat := bits (dWord d 0) 16 8
def dLen (d : List Nat) : Nat := bits (dWord d 1) 0 24
def dSrc (d : List Nat) : Nat := dWord d 3 * 2 ^ 32 + dWord d 2
def dDst (d : List Nat) : Nat := dWord d 5 * 2 ^ 32 + dWord d 4
def dPar (d : List Nat) : Nat := dWord d 6
def dCrc (d : List Nat) : Nat := dWord d 7

/-- E and W of INTERLEAVE (R396). -/
def dElem (d : List Nat) : Nat := 2 ^ bits (dPar d) 0 2
def dStreams (d : List Nat) : Nat := bits (dPar d) 8 8

/-- SPACE and offset of a mover address (R389). -/
def spOf (a : Nat) : Nat := a / 2 ^ 60
def ofOf (a : Nat) : Nat := a % 2 ^ 60

/-! ### Checks (R389 to R391, R395) -/

/-- The host window. -/
def hostLo (s : State) : Nat := rd s MOVER_HOST_BASE_HI.BASE_HI * 2 ^ 32 + rd s MOVER_HOST_BASE_LO.BASE_LO * 2 ^ 12
def hostHi (s : State) : Nat := rd s MOVER_HOST_LIMIT_HI.BASE_HI * 2 ^ 32 + rd s MOVER_HOST_LIMIT_LO.BASE_LO * 2 ^ 12

/-- Every byte of a range is mapped, not forbidden, and permits this direction. A range without bytes touches none. -/
def mvAllowed (s : State) (write : Bool) (a n : Nat) : Bool :=
  let o := ofOf a
  n = 0 ||
    match spOf a with
    | 0 => decide (hostLo s ≤ o) && decide (o + n ≤ hostHi s)
    | 1 => decide (o + n ≤ 0x400000)
    | 2 =>
      let c := o / 2 ^ 24
      decide (o < 2 ^ 28) && decide (o % 2 ^ 24 + n ≤ 0x80000) && decide (c < cores s) &&
        rd s (TROWEL_CORE_STATUS.STATE c) ≠ 5
    | 3 => decide (o + n ≤ 0x1000000) && !overlap o n 0x700000 0x300000 && !overlap o n 0xD08000 0x1000
    | 4 => !write && decide (o + n ≤ 0x4000000)
    | 5 => write && o = 0
    | _ => false

/-- PARAM meets the constraints of R396. -/
def paramOk (d : List Nat) : Bool :=
  match dOp d with
  | 0 => dPar d = 0
  | 1 => dSrc d = 0 && dLen d % 4 = 0
  | 2 =>
    decide (1 ≤ dStreams d) && decide (dStreams d ≤ 64) && dLen d % (dStreams d * dElem d) = 0 && dPar d / 2 ^ 17 = 0 &&
      bits (dPar d) 2 6 = 0
  | 3 => dLen d % 128 = 0 && dPar d = 0
  | _ => false

/-- EVT_KIND and EVT_ARG meet R400. -/
def evtOk (s : State) (d : List Nat) : Bool :=
  match dKind d with
  | 2 => dArg d < rows s
  | 3 => dArg d ≤ 55
  | _ => dArg d = 0

/-- The descriptor is valid (R395). (In part DEDUCED, log entry 27.) -/
def descOk (s : State) (d : List Nat) : Bool :=
  let dev : Bool := spOf (dDst d) = 3 || (dOp d ≠ 1 && spOf (dSrc d) = 3)
  paramOk d && bits (dWord d 0) 0 16 = 0 && bits (dWord d 1) 24 8 = 0 &&
    !(dev && (dSrc d % 4 ≠ 0 || dDst d % 4 ≠ 0 || dLen d % 4 ≠ 0)) &&
    !(spOf (dDst d) = 5 && (dLen d % 32 ≠ 0 || 2048 < dLen d)) &&
    !(dStore d && (spOf (dDst d) = 3 || spOf (dDst d) = 5)) &&
    !((dStore d || dCheck d) && dLen d = 0) &&
    !(dOp d ≠ 1 && overlap (dSrc d) (dLen d) (dDst d) (dLen d)) &&
    evtOk s d

/-- Every byte that the descriptor touches may be touched (R391). (In part DEDUCED, log entry 27.) -/
def descAllowed (s : State) (d : List Nat) : Bool :=
  (dOp d = 1 || mvAllowed s false (dSrc d) (dLen d)) &&
    mvAllowed s true (dDst d) (dLen d + if dStore d then 4 else 0)

/-! ### Reading and writing (R393) -/

/-- A byte of host memory as the command's read requests find it. -/
def hostByte (h : List HostSeg) (a : Nat) : Byte :=
  match h with
  | [] => 0
  | g :: r => if g.addr ≤ a ∧ a < g.addr + g.bytes.length then g.bytes.getD (a - g.addr) 0 else hostByte r a

/-- A byte of a space without side effects. -/
def mvByte (h : List HostSeg) (s : State) (a : Nat) : Byte :=
  let o := ofOf a
  match spOf a with
  | 0 => hostByte h o
  | 1 => s.common.get (0x400000 + o) 0
  | 2 => (coreAt s (o / 2 ^ 24)).dmem.get (o % 2 ^ 24) 0
  | 4 => flashByte s o
  | _ => 0

def mvBytes (h : List HostSeg) (s : State) (a n : Nat) : List Byte := (List.range n).map fun i => mvByte h s (a + i)

/-- The source as which channel n's starter acts (R286, R400). (In part DEDUCED, log entry 27.) -/
def starterSrc (s : State) (n : Nat) : Src :=
  match rd s (MV_CH_STATUS.STARTER n) with
  | 1 => .pf 0
  | 3 => .startup
  | _ => .trowel 0

/-- A device register read and written by the mover. An offset without a register reads 0 and ignores a write. (In part DEDUCED, log entry 14; DEDUCED, log entry 27.) -/
def devRead (src : Src) (o : Nat) (s : State) : Nat × State :=
  if (regAt s o).isSome then readAt src o s else (0, s)

/-- In part DEDUCED, log entry 14; DEDUCED, log entry 27. -/
def devWrite (src : Src) (o v : Nat) (s : State) : State :=
  if (regAt s o).isSome then applyWrite src o (BitVec.ofNat 32 v) s else s

/-- `n` words read from device offset `o` on, ascending. -/
def devReads (src : Src) (n o : Nat) (s : State) : List Byte × State :=
  match n with
  | 0 => ([], s)
  | m + 1 =>
    let x := devRead src o s
    let y := devReads src m (o + 4) x.2
    (leBytes 4 x.1 ++ y.1, y.2)

/-- Words written from device offset `o` on, ascending. -/
def devWrites (src : Src) (n o : Nat) (l : List Byte) (s : State) : State :=
  match n with
  | 0 => s
  | m + 1 => devWrites src m (o + 4) (l.drop 4) (devWrite src o (leAt l 0 4) s)

/-- `n` words copied from one device register to the next. -/
def devCopy (src : Src) (n a b : Nat) (s : State) : List Byte × State :=
  match n with
  | 0 => ([], s)
  | m + 1 =>
    let x := devRead src a s
    let y := devCopy src m (a + 4) (b + 4) (devWrite src b x.1 x.2)
    (leBytes 4 x.1 ++ y.1, y.2)

/-- The source bytes of a descriptor. -/
def mvFetch (h : List HostSeg) (src : Src) (a n : Nat) (s : State) : List Byte × State :=
  if spOf a = 3 then devReads src (n / 4) (ofOf a) s else (mvBytes h s a n, s)

/-- Bytes written to a space; the records of a SIEVE destination wait for the record port. -/
def mvPut (src : Src) (a : Nat) (l : List Byte) (s : State) : State :=
  let o := ofOf a
  if l.isEmpty then s
  else
    match spOf a with
    | 0 => emit s (.hostWrite 0 o l)
    | 1 => { s with common := storeBytes s.common (0x400000 + o) l }
    | 2 => let k := coreAt s (o / 2 ^ 24); putCore s (o / 2 ^ 24) { k with dmem := storeBytes k.dmem (o % 2 ^ 24) l }
    | 3 => devWrites src (l.length / 4) o l s
    | _ => s

/-! ### What the operations make of their source (R396 to R398) -/

/-- The source element that destination element `x` of INTERLEAVE takes; `m` elements in each of `w` streams. -/
def streamIdx (gather : Bool) (w m x : Nat) : Nat := if gather then x % m * w + x / m else x % w * m + x / w

def interleave (gather : Bool) (w e : Nat) (l : List Byte) : List Byte :=
  (List.range (l.length / e)).flatMap fun x => slice l (streamIdx gather w (l.length / (w * e)) x * e) e

/-- One group of 32 words: bit i of word b is bit b of source word i. -/
def bitGroup (l : List Byte) : List Byte :=
  (List.range 32).flatMap fun b =>
    leBytes 4 ((List.range 32).foldl (fun a i => a + b2n (bitAt (leAt l (4 * i) 4) b) * 2 ^ i) 0)

def bitplane (l : List Byte) : List Byte := (List.range (l.length / 128)).flatMap fun g => bitGroup (slice l (128 * g) 128)

/-- The bytes that an operation writes, from its source. -/
def opBytes (d : List Nat) (l : List Byte) : List Byte :=
  match dOp d with
  | 1 => (List.range (dLen d / 4)).flatMap fun _ => leBytes 4 (dPar d)
  | 2 => interleave (bitAt (dPar d) 16) (dStreams d) (dElem d) l
  | 3 => bitplane l
  | _ => l

/-! ### The engine (R387, R391, R392, R399, R401) -/

/-- Channel n fails with a cause (R391, R392, R395, R399, R402, R403). (In part DEDUCED, log entry 27.) -/
def mvFail (n cause : Nat) (s : State) : State :=
  let s1 := mvEnter (wr { s with mover := { s.mover with run := none } } (MV_CH_STATUS.ERR n) cause) n 5
  raise s1 { kind := if cause = 4 then 15 else 14, scope := .dev, arg := n, loc := 0 }

/-- The next ready channel, RUNNING or STOPPING with a descriptor still to carry out, round-robin after the one last served. -/
def mvNextCh (s : State) : Option Nat :=
  ((List.range 16).map fun i => (rd s MOVER_STATUS.LAST_CH + 1 + i) % 16).find? fun n => mvState s n = 1 || mvState s n = 4

/-- Where channel n's present descriptor stands. -/
def mvAt (s : State) (n : Nat) : Nat :=
  (rd s (MV_CH_BASE_HI.BASE_HI n) * 2 ^ 32 + rd s (MV_CH_BASE_LO.BASE_LO n) * 64 + rd s (MV_CH_CUR.OFFSET n) * 64) % 2 ^ 64

/-- May a descriptor be fetched from here (R402)? -/
def fetchOk (s : State) (a : Nat) : Bool := (spOf a = 0 || spOf a = 1 || spOf a = 4) && mvAllowed s false a 64

/-- The engine is free and the mover runs (R387, R406). -/
def mvIdle (s : State) : Bool := 2 ≤ mode s && s.mover.run.isNone && s.power.down.isNone

/-- A 32-byte record for each 32 bytes. -/
def mvRecs (l : List Byte) : List (List Byte) := (List.range (l.length / 32)).map fun i => slice l (32 * i) 32

/-- How far into its source the first k destination bytes of descriptor `d` reach, in whole words (R393, R396 to R398). (In part DEDUCED, log entry 27.) -/
def srcNeed (d : List Nat) (k : Nat) : Nat :=
  let w := dStreams d
  let e := dElem d
  let n := match dOp d with
    | 1 => 0
    | 2 => (List.range (ceilDiv k e)).foldl (fun a x => max a ((streamIdx (bitAt (dPar d) 16) w (dLen d / (w * e)) x + 1) * e)) 0
    | 3 => 128 * ceilDiv k 128
    | _ => k
  min (dLen d) (4 * ceilDiv n 4)

/-- The bytes of descriptor `d` pass from source to destination, the first k of them written, and no more read than they
take (R392); with them, what was read. -/
def mvPass (h : List HostSeg) (src : Src) (k : Nat) (d : List Nat) (s : State) : List Byte × State :=
  if dOp d = 0 ∧ spOf (dSrc d) = 3 ∧ spOf (dDst d) = 3 then devCopy src (k / 4) (ofOf (dSrc d)) (ofOf (dDst d)) s
  else
    let r := if dOp d = 1 then ([], s) else mvFetch h src (dSrc d) (srcNeed d k) s
    let l := opBytes d (padTo (dLen d) r.1)
    (l, mvPut src (dDst d) (l.take k) r.2)

/-- The CRC and the records of the run. -/
def mvKeep (crc : Nat) (recs : List (List Byte)) (s : State) : State :=
  match s.mover.run with
  | some r => { s with mover := { s.mover with run := some { r with crc := crc, recs := recs } } }
  | none => s

/-- The run of channel n on descriptor `d` begins. -/
def mvRun (n : Nat) (d : List Nat) (cut : Bool) (s : State) : State :=
  { s with mover := { s.mover with run := some { ch := n, words := d, crc := 0, recs := [], cut := cut } } }

/-- The engine moves the bytes of descriptor `d` for channel n; with `stop` only the first bytes are written before a transport
error. -/
def mvMove (h : List HostSeg) (stop : Option Nat) (n : Nat) (d : List Nat) (s : State) : State :=
  let src := starterSrc s n
  let k := match stop with
    | some k => min k (dLen d)
    | none => dLen d
  let x := mvPass h src k d (mvRun n d stop.isSome s)
  let crc := crc32c x.1
  let s1 := if dStore d && !stop.isSome then mvPut src (dDst d + dLen d) (beBytes 4 crc) x.2 else x.2
  mvKeep crc (if spOf (dDst d) = 5 then mvRecs (x.1.take k) else []) s1

/-- The engine takes the next ready channel: it fetches and checks its descriptor, and runs it if its OP is `op`. An invalid
or suppressed descriptor, and a forbidden fetch, end in ERROR whichever command finds them. (In part DEDUCED, log entry 27.) -/
def mvTake (op : Nat) (h : List HostSeg) (stop : Option Nat) (s : State) : State :=
  if mvIdle s then
    match mvNextCh s with
    | none => s
    | some n =>
      let a := mvAt s n
      let s1 := wr s MOVER_STATUS.LAST_CH n
      if !fetchOk s a then mvFail n 6 s1
      else
        let d := mvWords (mvBytes h s a 64)
        if !descOk s d then mvFail n 2 s1
        else if !descAllowed s d then mvFail n 1 s1
        else if dOp d = op then mvMove h stop n d s1
        else s
  else s

def execMoverCopy (host : List HostSeg) (stop : Option Nat) (s : State) : Host.Outcome State Fault Refusal :=
  .next (mvTake 0 host stop (fresh s))

def execMoverFill (host : List HostSeg) (stop : Option Nat) (s : State) : Host.Outcome State Fault Refusal :=
  .next (mvTake 1 host stop (fresh s))

def execMoverInterleave (host : List HostSeg) (stop : Option Nat) (s : State) : Host.Outcome State Fault Refusal :=
  .next (mvTake 2 host stop (fresh s))

def execMoverBitplane (host : List HostSeg) (stop : Option Nat) (s : State) : Host.Outcome State Fault Refusal :=
  .next (mvTake 3 host stop (fresh s))

/-- The next record of a descriptor whose destination is SIEVE, once FREE is not 0: eight words to SIEVE_OP_0 to
SIEVE_OP_7. -/
def mvRecord (s : State) : State :=
  match s.mover.run with
  | some r =>
    match r.recs with
    | l :: rest =>
      if rd s SIEVE_OP_STATUS.FREE = 0 then s
      else
        devWrites (starterSrc s r.ch) 8 0x500020 l { s with mover := { s.mover with run := some { r with recs := rest } } }
    | [] => s
  | none => s

def execMoverSieveRecordWrite (s : State) : Host.Outcome State Fault Refusal := .next (mvRecord (fresh s))

/-- The LINK word of channel n's present descriptor, read again. -/
def linkOf (h : List HostSeg) (s : State) (n : Nat) : Nat := leNat (mvBytes h s (mvAt s n + 60) 4)

/-- CUR takes the link's offset and the channel runs. (In part DEDUCED, log entry 27.) -/
def mvFollow (n link : Nat) (s : State) : State := mvEnter (wr s (MV_CH_CUR.OFFSET n) (link / 64)) n 1

/-- The completion event (R400, R401). -/
def mvEvent (n : Nat) (d : List Nat) (s : State) : State :=
  match dKind d with
  | 1 => svCommit (svOwner (starterSrc s n)) s
  | 2 => setFlag s (SCHED_GATE_CTRL.ARM (dArg d)) true
  | 3 => pulseNamed s (dArg d)
  | _ => s

/-- The descriptor in the engine completes: the CRC check, the event, the count and the chain (R399, R401, R403). (In part DEDUCED, log entry 27.) -/
def mvComplete (h : List HostSeg) (s : State) : State :=
  match s.mover.run with
  | some r =>
    if r.cut || !r.recs.isEmpty then s
    else if dCheck r.words && r.crc ≠ dCrc r.words then mvFail r.ch 3 s
    else
      let n := r.ch
      let s1 := bump (mvEvent n r.words { s with mover := { s.mover with run := none } }) (MV_CH_CNT.DONE n) 1
      if mvState s1 n = 4 then mvEnter s1 n 0
      else
        let link := linkOf h s1 n
        if bitAt link 0 then mvFollow n link s1 else mvEnter (wr s1 (MV_CH_STATUS.DB_PEND n) 0) n 2
  | none => s

def execDescriptorComplete (host : List HostSeg) (s : State) : Host.Outcome State Fault Refusal :=
  .next (mvComplete host (fresh s))

/-- The error of a read of host memory is one on a request of PF0's (R491, R492). -/
def hostFail (host : Bool) (s : State) : State := if host then nqFail 0 s else s

/-- A transport error (R392): of the descriptor in the engine, or of the next one's fetch. (In part DEDUCED, log entry 27.) -/
def mvError (s : State) : State :=
  match s.mover.run with
  | some r => hostFail (dOp r.words ≠ 1 && spOf (dSrc r.words) = 0) (mvFail r.ch 4 s)
  | none =>
    if mvIdle s then
      match mvNextCh s with
      | some n => hostFail (spOf (mvAt s n) = 0) (mvFail n 4 (wr s MOVER_STATUS.LAST_CH n))
      | none => s
    else s

def execMoverTransportError (s : State) : Host.Outcome State Fault Refusal := .next (mvError (fresh s))

/-- The read of LINK in SETTLE (R403). -/
def mvSettle (h : List HostSeg) (n : Nat) (s : State) : State :=
  if n < 16 ∧ 2 ≤ mode s ∧ mvState s n = 2 then
    let link := linkOf h s n
    if bitAt link 0 then mvFollow n link s
    else if 0 < rd s (MV_CH_STATUS.DB_PEND n) then wr (bump s (MV_CH_CNT.EMPTY_DB n) 1) (MV_CH_STATUS.DB_PEND n) 0
    else mvEnter s n 3
  else s

def execMoverSettleExpiry (n : Nat) (host : List HostSeg) (s : State) : Host.Outcome State Fault Refusal :=
  .next (mvSettle host n (fresh s))

end Sys2Proof.Machine
end

