-- ==== Sys2Proof/Machine/TrowelMem.lean ====
section
/-!
DEFINITION. The Trowel cores' loads and stores, the window spills, and the P-384 assist (R353, R365, R370, R379 to R384).
-/

namespace Sys2Proof.Machine

/-! ### The P-384 assist (R384) -/

/-- A write to P384_CMD: while BUSY it is ignored and RESULT becomes 3; a reserved command answers RESULT 2. (In part DEDUCED, log entry 26.) -/
def p384Go (c : Nat) (s : State) : State :=
  if s.p384.busy then { s with p384 := { s.p384 with result := 3 } }
  else if 1 ≤ c ∧ c ≤ 4 then { s with p384 := { s.p384 with cmd := c, busy := true, result := 0 } }
  else { s with p384 := { s.p384 with result := 2 } }

/-- `n` bytes of the data area from byte `o`. -/
def p384Bytes (s : State) (o n : Nat) : List Byte := (List.range n).map fun i => s.p384.data.get (o + i) 0

/-- A load of the word at offset `o` of the assist. What the words outside P384_STATUS and the data area read as is a free
value. (In part DEDUCED, log entry 26.) -/
def assistRead (o : Nat) (s : State) : Nat × State :=
  if o = 4 then (b2n s.p384.busy * 2 ^ 31 + s.p384.result, s)
  else if 0x100 ≤ o ∧ o < 0x300 then (beNat (p384Bytes s (o - 0x100) 4), s)
  else (freeBelow s (2 ^ 32), useFree s)

/-- A store of the word at offset `o` of the assist. (In part DEDUCED, log entry 26.) -/
def assistWrite (o v : Nat) (s : State) : State :=
  if o = 0 then p384Go (v % 16) s
  else if 0x100 ≤ o ∧ o < 0x300 then
    { s with p384 := { s.p384 with data := storeBytes s.p384.data (o - 0x100) (beBytes 4 v) } }
  else s

/-- The assist ends a command with a result and its output bytes. (In part DESIGN CHOICE, log entry 9.) -/
def p384End (r o : Nat) (l : List Byte) (s : State) : State :=
  { s with p384 := { s.p384 with cmd := 0, busy := false, result := r, data := storeBytes s.p384.data o l } }

/-- Command 2: ECDH with the held key, the HKDF of R195 and the hand-over to the vault (R342). How bytes 292 to 295 code the
vault's status is a free value. (In part DEDUCED, log entry 26.) -/
def p384Ecdh (s : State) : State :=
  let down := beNat (p384Bytes s 288 2)
  let up := beNat (p384Bytes s 290 2)
  match s.p384.eph with
  | none => p384End 2 0 [] s
  | some d =>
    match ecdhX d (p384Bytes s 0 97) with
    | none => p384End 2 0 [] s
    | some z =>
      if down = up ∨ 2 ^ 14 ≤ down ∨ 2 ^ 14 ≤ up then p384End 2 0 [] s
      else
        let prk := hmac384 (p384Bytes s 128 48) z
        let s1 := setFlag { s with cipher := { s.cipher with kek := some (hkdfExpand prk (ascii "yaldy kek") 32) } }
          CIPHER_STATUS.KEK_VALID true
        let s2 := tendLoad (tendLoad s1 down 0 (hkdfExpand prk (ascii "yaldy tend down") 32)) up 1
          (hkdfExpand prk (ascii "yaldy tend up") 32)
        p384End 1 292 (beBytes 4 (freeBelow s2 (2 ^ 32))) (useFree s2)

/-- The assist completes its command. The keys and the nonce that it draws are free values. -/
def p384Complete (s : State) : State :=
  if s.p384.busy then
    match s.p384.cmd with
    | 1 =>
      let d := 1 + freeBelow s (p384N - 1)
      p384End 1 0 (pubOf d) { useFree s with p384 := { s.p384 with eph := some d } }
    | 2 => p384Ecdh s
    | 3 => p384End (if ecdsaVerify (p384Bytes s 0 97) (p384Bytes s 128 48) (p384Bytes s 192 96) then 1 else 2) 0 [] s
    | _ => p384End 1 192 (ecdsaSign s.fuses.idPriv (1 + freeBelow s (p384N - 1)) (p384Bytes s 128 48)) (useFree s)
  else s

/-- A running core writes command `c` to P384_CMD. -/
def p384Ask (n c : Nat) (s : State) : State := if coreRuns s n then p384Go c s else s

def execP384Generate (n : Nat) (s : State) : Host.Outcome State Fault Refusal := .next (p384Ask n 1 (fresh s))

def execP384Ecdh (n : Nat) (s : State) : Host.Outcome State Fault Refusal := .next (p384Ask n 2 (fresh s))

def execP384Verify (n : Nat) (s : State) : Host.Outcome State Fault Refusal := .next (p384Ask n 3 (fresh s))

def execP384Sign (n : Nat) (s : State) : Host.Outcome State Fault Refusal := .next (p384Ask n 4 (fresh s))

def execP384Complete (s : State) : Host.Outcome State Fault Refusal := .next (p384Complete (fresh s))

/-! ### Memory as core n sees it (R379) -/

/-- A byte of instruction, data or common memory. (In part DESIGN CHOICE, log entry 8.) -/
def memByte (s : State) (n x : Nat) : Byte :=
  if x < 0x40000 then (coreAt s n).imem.get x 0
  else if x < 0x180000 then (coreAt s n).dmem.get (x - 0x100000) 0
  else s.common.get x 0

/-- Bytes stored in one of the three memories. (In part DESIGN CHOICE, log entry 8.) -/
def putMem (n a : Nat) (l : List Byte) (s : State) : State :=
  if a < 0x40000 then putCore s n { coreAt s n with imem := storeBytes (coreAt s n).imem a l }
  else if a < 0x180000 then putCore s n { coreAt s n with dmem := storeBytes (coreAt s n).dmem (a - 0x100000) l }
  else { s with common := storeBytes s.common a l }

/-- Bytes of one access: `w` of them from `a`, at most 4. -/
def loadPart (n a w : Nat) (s : State) : Nat × State :=
  if isDev a then readAt (.trowel n) (a - 0x10000000) s
  else if 0x800000 ≤ a ∧ a < 0x801000 then assistRead (a - 0x800000) s
  else (leNat ((span a w).map (memByte s n)), s)

def storePart (n a w v : Nat) (s : State) : State :=
  if isDev a then applyWrite (.trowel n) (a - 0x10000000) (BitVec.ofNat 32 v) s
  else if 0x800000 ≤ a ∧ a < 0x801000 then assistWrite (a - 0x800000) v s
  else putMem n a (leBytes w v) s

/-- The words of an access of several words, in ascending addresses. -/
def loadWords (n : Nat) : List Nat → State → List Nat × State
  | [], s => ([], s)
  | a :: r, s =>
    let x := loadPart n a 4 s
    let y := loadWords n r x.2
    (x.1 :: y.1, y.2)

def storeWords (n : Nat) : List (Nat × Nat) → State → State
  | [], s => s
  | (a, v) :: r, s => storeWords n r (storePart n a 4 v s)

/-- Core n goes on behind its instruction with its registers changed by `f`, unless the access itself reset the device. -/
def coreOn (n : Nat) (f : Core → Core) (s : State) : State :=
  if rd s (TROWEL_CORE_STATUS.STATE n) = 0 then s else putCore s n (f (coreAt s n)).adv

/-- The new value of a base register, if the access mode gives one. -/
def Core.setBase (k : Core) (a : Nat) (b : Option Nat) : Core :=
  match b with
  | some v => k.setReg a v
  | none => k

/-- The checks of a load or store of `w` bytes, in order: the encoding, the circular buffer, alignment and protection; then
`go` with the address and the base register's new value (R365, R367, R370, R382). -/
def onAccess (op w n d a m : Nat) (load : Bool) (s : State) (go : State → Core → Nat → Option Nat → State) : State :=
  onCore s n fun t k =>
    if !lOk load d a m w then applyOut t n k (illegal (wordI op d a m))
    else
      match k.address a m with
      | .error o => applyOut t n k o
      | .ok (p, b) =>
        match k.memCheck (if load then .load else .store) p w with
        | some o => applyOut t n k o
        | none => go t k p b

/-- A load of `w` bytes, at most 4; `ext` extends what it read. -/
def loadOp (op w : Nat) (ext : Nat → Nat) (n d a m : Nat) (s : State) : State :=
  onAccess op w n d a m true s fun t _ p b =>
    let x := loadPart n p w t
    coreOn n (fun k => (k.setReg d (ext x.1)).setBase a b) x.2

/-- A store of the low `w` bytes of a register, at most 4. -/
def storeOp (op w n d a m : Nat) (s : State) : State :=
  onAccess op w n d a m false s fun t k p b =>
    coreOn n (fun k' => k'.setBase a b) (storePart n p w (k.reg d) t)

/-- The sign extension of a `w`-bit value to 32 bits. -/
def sext (w v : Nat) : Nat := ofSigned 32 (toSigned w v)

def execTrwLdB (n d a imm : Nat) (s : State) : Host.Outcome State Fault Refusal :=
  .next (loadOp 0x14 1 (sext 8) n d a imm (fresh s))

def execTrwLdBu (n d a imm : Nat) (s : State) : Host.Outcome State Fault Refusal :=
  .next (loadOp 0x15 1 id n d a imm (fresh s))

def execTrwLdH (n d a imm : Nat) (s : State) : Host.Outcome State Fault Refusal :=
  .next (loadOp 0x16 2 (sext 16) n d a imm (fresh s))

def execTrwLdHu (n d a imm : Nat) (s : State) : Host.Outcome State Fault Refusal :=
  .next (loadOp 0x17 2 id n d a imm (fresh s))

def execTrwLdW (n d a imm : Nat) (s : State) : Host.Outcome State Fault Refusal :=
  .next (loadOp 0x18 4 id n d a imm (fresh s))

/-- LD.D: the word at the address, then the word 4 above it (R370). -/
def execTrwLdD (n d a imm : Nat) (s : State) : Host.Outcome State Fault Refusal :=
  .next (onAccess 0x19 8 n d a imm true (fresh s) fun t _ p b =>
    let x := loadWords n [p, w32 (p + 4)] t
    coreOn n (fun k => ((k.setReg d (x.1.getD 0 0)).setReg (d + 1) (x.1.getD 1 0)).setBase a b) x.2)

def execTrwStB (n d a imm : Nat) (s : State) : Host.Outcome State Fault Refusal :=
  .next (storeOp 0x1A 1 n d a imm (fresh s))

def execTrwStH (n d a imm : Nat) (s : State) : Host.Outcome State Fault Refusal :=
  .next (storeOp 0x1B 2 n d a imm (fresh s))

def execTrwStW (n d a imm : Nat) (s : State) : Host.Outcome State Fault Refusal :=
  .next (storeOp 0x1C 4 n d a imm (fresh s))

/-- ST.D: the register at the address, then the next register 4 above it (R370). -/
def execTrwStD (n d a imm : Nat) (s : State) : Host.Outcome State Fault Refusal :=
  .next (onAccess 0x1D 8 n d a imm false (fresh s) fun t k p b =>
    coreOn n (fun k' => k'.setBase a b) (storeWords n [(p, k.reg d), (w32 (p + 4), k.reg (d + 1))] t))

/-! ### Window spills (R353) -/

/-- TCWP and TDEPTH of TSTATUS. -/
def Core.tcwp (k : Core) : Nat := bits k.tstatus 26 3
def Core.tdepth (k : Core) : Nat := bits k.tstatus 23 3

/-- TDEPTH replaced. -/
def Core.setTdepth (k : Core) (v : Nat) : Core := { k with tstatus := putBits k.tstatus 23 3 v }

/-- The twelve word addresses of a spill frame. -/
def frameAddrs (a : Nat) : List Nat := (List.range 12).map fun i => w32 (a + 4 * i)

/-- SPILLW: PRIV in task mode; a double trap with TDEPTH 0; else W0 to W11 of the oldest resident window go below K7. -/
def execTrwSpillw (n : Nat) (s : State) : Host.Outcome State Fault Refusal :=
  .next (onCore (fresh s) n fun t k =>
    if !k.trapMode || k.tdepth = 0 then applyOut t n k (privTrap (wordS 0x08 0))
    else
      let a := w32 (k.reg 23 + 2 ^ 32 - 48)
      match k.memCheck .store a 48 with
      | some o => applyOut t n k o
      | none =>
        let c := (k.tcwp + 14 - k.tdepth) % 7
        let ws := (List.range 12).map fun i => k.win.get (12 * c + i) 0
        coreOn n (fun k' => (k'.setReg 23 a).setTdepth (k.tdepth - 1)) (storeWords n ((frameAddrs a).zip ws) t))

/-- FILLW: PRIV in task mode; a double trap with TDEPTH 5 or above; else W0 to W11 of the window below the oldest resident
one come from K7 on. (In part DEDUCED, log entry 26.) -/
def execTrwFillw (n : Nat) (s : State) : Host.Outcome State Fault Refusal :=
  .next (onCore (fresh s) n fun t k =>
    if !k.trapMode || 5 ≤ k.tdepth then applyOut t n k (privTrap (wordS 0x09 0))
    else
      let a := k.reg 23
      match k.memCheck .load a 48 with
      | some o => applyOut t n k o
      | none =>
        let c := (k.tcwp + 13 - k.tdepth) % 7
        let x := loadWords n (frameAddrs a) t
        let put (k' : Core) (i : Nat) : Core := { k' with win := k'.win.set (12 * c + i) (x.1.getD i 0) 0 }
        coreOn n (fun k' => (((List.range 12).foldl put k').setReg 23 (a + 48)).setTdepth (k.tdepth + 1)) x.2)

end Sys2Proof.Machine
end

