-- ==== Sys2Proof/Machine/Dispatch.lean ====
section
/-!
DEFINITION. The meaning of every command: one arm per constructor, one direct call each.
-/

namespace Sys2Proof.Machine

/-- The effect of a command on everything but the queue. -/
def exec (i : Instr) (s : State) : Host.Outcome State Fault Refusal :=
  match i with
  | .registerWrite src off v => Sys2Proof.Machine.execRegisterWrite src off v s
  | .modeRequest v => Sys2Proof.Machine.execModeRequest v s
  | .dyingGaspTimeout => Sys2Proof.Machine.execDyingGaspTimeout s
  | .powerDownComplete => Sys2Proof.Machine.execPowerDownComplete s
  | .deviceReset => Sys2Proof.Machine.execDeviceReset s
  | .resetNAssert => Sys2Proof.Machine.execResetNAssert s
  | .resetNRelease => Sys2Proof.Machine.execResetNRelease s
  | .i2cWake addr => Sys2Proof.Machine.execI2cWake addr s
  | .i2cSideChannelWrite addr bytes => Sys2Proof.Machine.execI2cSideChannelWrite addr bytes s
  | .i2cSideChannelRead addr n => Sys2Proof.Machine.execI2cSideChannelRead addr n s
  | .sentryCycle pa pb temp => Sys2Proof.Machine.execSentryCycle pa pb temp s
  | .pwrGoodRise => Sys2Proof.Machine.execPwrGoodRise s
  | .pwrGoodTimeout => Sys2Proof.Machine.execPwrGoodTimeout s
  | .pwrGoodDrop => Sys2Proof.Machine.execPwrGoodDrop s
  | .aonPowerOnReset => Sys2Proof.Machine.execAonPowerOnReset s
  | .clockJudgeWindow clk count => Sys2Proof.Machine.execClockJudgeWindow clk count s
  | .clockJudgeTimeout clk => Sys2Proof.Machine.execClockJudgeTimeout clk s
  | .startupSequence fails rdA rdB off => Sys2Proof.Machine.execStartupSequence fails rdA rdB off s
  | .stockHoldTimeout => Sys2Proof.Machine.execStockHoldTimeout s
  | .avsCompute t => Sys2Proof.Machine.execAvsCompute t s
  | .avsPoll reply => Sys2Proof.Machine.execAvsPoll reply s
  | .avsTimeout => Sys2Proof.Machine.execAvsTimeout s
  | .supplyWarning mv => Sys2Proof.Machine.execSupplyWarning mv s
  | .supplyWarningSustained => Sys2Proof.Machine.execSupplyWarningSustained s
  | .supplyReset mv => Sys2Proof.Machine.execSupplyReset mv s
  | .thermalSecond p1 i1 => Sys2Proof.Machine.execThermalSecond p1 i1 s
  | .thermalFastCheck mean i1 => Sys2Proof.Machine.execThermalFastCheck mean i1 s
  | .thermalStateRepeat => Sys2Proof.Machine.execThermalStateRepeat s
  | .thermalReset tj => Sys2Proof.Machine.execThermalReset tj s
  | .wearLedgerWrite use => Sys2Proof.Machine.execWearLedgerWrite use s
  | .debugTraceEnable => Sys2Proof.Machine.execDebugTraceEnable s
  | .sensorConversionComplete g vals => Sys2Proof.Machine.execSensorConversionComplete g vals s
  | .lrxEnableWrite k v => Sys2Proof.Machine.execLrxEnableWrite k v s
  | .ltxEnableWrite k v => Sys2Proof.Machine.execLtxEnableWrite k v s
  | .laserSettled tx e => Sys2Proof.Machine.execLaserSettled tx e s
  | .laserLockTimeout tx e => Sys2Proof.Machine.execLaserLockTimeout tx e s
  | .laserLostRetry tx e => Sys2Proof.Machine.execLaserLostRetry tx e s
  | .segmentAcquire k seg => Sys2Proof.Machine.execSegmentAcquire k seg s
  | .rxDozeRestore k => Sys2Proof.Machine.execRxDozeRestore k s
  | .rampCommit => Sys2Proof.Machine.execRampCommit s
  | .soaLimitWrite v => Sys2Proof.Machine.execSoaLimitWrite v s
  | .losDeclare conn => Sys2Proof.Machine.execLosDeclare conn s
  | .losClear conn => Sys2Proof.Machine.execLosClear conn s
  | .losHoldoffExpiry => Sys2Proof.Machine.execLosHoldoffExpiry s
  | .protectionSwitch => Sys2Proof.Machine.execProtectionSwitch s
  | .switchSettled => Sys2Proof.Machine.execSwitchSettled s
  | .timingRxChange => Sys2Proof.Machine.execTimingRxChange s
  | .rxGraftSwitchover k => Sys2Proof.Machine.execRxGraftSwitchover k s
  | .txGraftSwitchover k => Sys2Proof.Machine.execTxGraftSwitchover k s
  | .huntSegment k => Sys2Proof.Machine.execHuntSegment k s
  | .extRefLoad v => Sys2Proof.Machine.execExtRefLoad v s
  | .frmExtLoRead k => Sys2Proof.Machine.execFrmExtLoRead k s
  | .podDelineate k => Sys2Proof.Machine.execPodDelineate k s
  | .trellisEmit => Sys2Proof.Machine.execTrellisEmit s
  | .trellisPageWrite p trib j v => Sys2Proof.Machine.execTrellisPageWrite p trib j v s
  | .eqdWrite v => Sys2Proof.Machine.execEqdWrite v s
  | .eqdApply => Sys2Proof.Machine.execEqdApply s
  | .burstAssemble => Sys2Proof.Machine.execBurstAssemble s
  | .burstTransmit k => Sys2Proof.Machine.execBurstTransmit k s
  | .burstEnd k => Sys2Proof.Machine.execBurstEnd k s
  | .burstAllocAdd v => Sys2Proof.Machine.execBurstAllocAdd v s
  | .allocRemove n => Sys2Proof.Machine.execAllocRemove n s
  | .allocRemoveApply n => Sys2Proof.Machine.execAllocRemoveApply n s
  | .allocKeyWrite n v => Sys2Proof.Machine.execAllocKeyWrite n v s
  | .discAnnounce => Sys2Proof.Machine.execDiscAnnounce s
  | .discResult => Sys2Proof.Machine.execDiscResult s
  | .assignTid => Sys2Proof.Machine.execAssignTid s
  | .rangeResult => Sys2Proof.Machine.execRangeResult s
  | .dcRangePlan => Sys2Proof.Machine.execDcRangePlan s
  | .dcRangeResult => Sys2Proof.Machine.execDcRangeResult s
  | .frameRef => Sys2Proof.Machine.execFrameRef s
  | .keyOffer => Sys2Proof.Machine.execKeyOffer s
  | .keyConfirm => Sys2Proof.Machine.execKeyConfirm s
  | .keyLoad => Sys2Proof.Machine.execKeyLoad s
  | .assignAlloc => Sys2Proof.Machine.execAssignAlloc s
  | .removeAlloc => Sys2Proof.Machine.execRemoveAlloc s
  | .activate => Sys2Proof.Machine.execActivate s
  | .timeInfo => Sys2Proof.Machine.execTimeInfo s
  | .switchTree => Sys2Proof.Machine.execSwitchTree s
  | .switchTreeTimeout => Sys2Proof.Machine.execSwitchTreeTimeout s
  | .tribQuery => Sys2Proof.Machine.execTribQuery s
  | .deactivate => Sys2Proof.Machine.execDeactivate s
  | .deactivateHoldExpiry => Sys2Proof.Machine.execDeactivateHoldExpiry s
  | .joinRelease => Sys2Proof.Machine.execJoinRelease s
  | .joinEnableClear => Sys2Proof.Machine.execJoinEnableClear s
  | .identifiedTimeout => Sys2Proof.Machine.execIdentifiedTimeout s
  | .rangingTimeout => Sys2Proof.Machine.execRangingTimeout s
  | .dcRangingTimeout => Sys2Proof.Machine.execDcRangingTimeout s
  | .keyingTimeout => Sys2Proof.Machine.execKeyingTimeout s
  | .readyTimeout => Sys2Proof.Machine.execReadyTimeout s
  | .rekeyRequestRepeat slot => Sys2Proof.Machine.execRekeyRequestRepeat slot s
  | .tendUpSealedReset => Sys2Proof.Machine.execTendUpSealedReset s
  | .timeNowRead src => Sys2Proof.Machine.execTimeNowRead src s
  | .timeFsRead => Sys2Proof.Machine.execTimeFsRead s
  | .timeRateCommit v => Sys2Proof.Machine.execTimeRateCommit v s
  | .timeStep v => Sys2Proof.Machine.execTimeStep v s
  | .timeSet v => Sys2Proof.Machine.execTimeSet v s
  | .timeTriggerFire n meas => Sys2Proof.Machine.execTimeTriggerFire n meas s
  | .ppsPulseEnd x => Sys2Proof.Machine.execPpsPulseEnd x s
  | .ppsInCapture x p => Sys2Proof.Machine.execPpsInCapture x p s
  | .servoCycle => Sys2Proof.Machine.execServoCycle s
  | .timeMessagesLost => Sys2Proof.Machine.execTimeMessagesLost s
  | .holdoverSecond => Sys2Proof.Machine.execHoldoverSecond s
  | .hostFrameReceive P frame code words others => Sys2Proof.Machine.execHostFrameReceive P frame code words others s
  | .delayReq => Sys2Proof.Machine.execDelayReq s
  | .requestUnicastTransmission => Sys2Proof.Machine.execRequestUnicastTransmission s
  | .cancelUnicastTransmission => Sys2Proof.Machine.execCancelUnicastTransmission s
  | .acknowledgeCancelUnicastTransmission => Sys2Proof.Machine.execAcknowledgeCancelUnicastTransmission s
  | .announceSend mc j => Sys2Proof.Machine.execAnnounceSend mc j s
  | .syncSend mc j => Sys2Proof.Machine.execSyncSend mc j s
  | .followUpSend => Sys2Proof.Machine.execFollowUpSend s
  | .drespCreditRefill j => Sys2Proof.Machine.execDrespCreditRefill j s
  | .streamExpiry j => Sys2Proof.Machine.execStreamExpiry j s
  | .sprUpsert v => Sys2Proof.Machine.execSprUpsert v s
  | .sprRemove v => Sys2Proof.Machine.execSprRemove v s
  | .sprLookup v => Sys2Proof.Machine.execSprLookup v s
  | .sprRead v => Sys2Proof.Machine.execSprRead v s
  | .sprPortWrite p v => Sys2Proof.Machine.execSprPortWrite p v s
  | .sieveClassify => Sys2Proof.Machine.execSieveClassify s
  | .sieveAcquire src => Sys2Proof.Machine.execSieveAcquire src s
  | .sieveRelease src => Sys2Proof.Machine.execSieveRelease src s
  | .sieveForceRelease => Sys2Proof.Machine.execSieveForceRelease s
  | .sieveOpSubmit src v => Sys2Proof.Machine.execSieveOpSubmit src v s
  | .sieveInsert => Sys2Proof.Machine.execSieveInsert s
  | .sieveUpdate => Sys2Proof.Machine.execSieveUpdate s
  | .sieveRemove => Sys2Proof.Machine.execSieveRemove s
  | .sieveLookup => Sys2Proof.Machine.execSieveLookup s
  | .sieveCommit src => Sys2Proof.Machine.execSieveCommit src s
  | .sieveAbort src => Sys2Proof.Machine.execSieveAbort src s
  | .sieveVersionRetire v => Sys2Proof.Machine.execSieveVersionRetire v s
  | .sieveBedCfgWrite src b up v => Sys2Proof.Machine.execSieveBedCfgWrite src b up v s
  | .upstreamAdmission => Sys2Proof.Machine.execUpstreamAdmission s
  | .pauseResend P => Sys2Proof.Machine.execPauseResend P s
  | .fcModeWrite P v => Sys2Proof.Machine.execFcModeWrite P v s
  | .shaperEligible => Sys2Proof.Machine.execShaperEligible s
  | .meterSweep m => Sys2Proof.Machine.execMeterSweep m s
  | .meterConfigWrite m which v => Sys2Proof.Machine.execMeterConfigWrite m which v s
  | .ledgerRecompute => Sys2Proof.Machine.execLedgerRecompute s
  | .downstreamAdmission => Sys2Proof.Machine.execDownstreamAdmission s
  | .portFrameBoundary P => Sys2Proof.Machine.execPortFrameBoundary P s
  | .pauseTimerExpiry P q => Sys2Proof.Machine.execPauseTimerExpiry P q s
  | .gateEntryChange g => Sys2Proof.Machine.execGateEntryChange g s
  | .gateChangeover g => Sys2Proof.Machine.execGateChangeover g s
  | .gateListWrite g l reg v => Sys2Proof.Machine.execGateListWrite g l reg v s
  | .podDecrypt g => Sys2Proof.Machine.execPodDecrypt g s
  | .podEncrypt k => Sys2Proof.Machine.execPodEncrypt k s
  | .cipherLoad src v => Sys2Proof.Machine.execCipherLoad src v s
  | .cipherLoadComplete ok g up => Sys2Proof.Machine.execCipherLoadComplete ok g up s
  | .cipherSeal src v => Sys2Proof.Machine.execCipherSeal src v s
  | .cipherErase src v => Sys2Proof.Machine.execCipherErase src v s
  | .cipherSlotStateRead => Sys2Proof.Machine.execCipherSlotStateRead s
  | .cipherSealPop src => Sys2Proof.Machine.execCipherSealPop src s
  | .cipherGraftSwitchover g up => Sys2Proof.Machine.execCipherGraftSwitchover g up s
  | .trwAdd n d a b => Sys2Proof.Machine.execTrwAdd n d a b s
  | .trwAddc n d a b => Sys2Proof.Machine.execTrwAddc n d a b s
  | .trwSub n d a b => Sys2Proof.Machine.execTrwSub n d a b s
  | .trwSubb n d a b => Sys2Proof.Machine.execTrwSubb n d a b s
  | .trwAnd n d a b => Sys2Proof.Machine.execTrwAnd n d a b s
  | .trwOr n d a b => Sys2Proof.Machine.execTrwOr n d a b s
  | .trwXor n d a b => Sys2Proof.Machine.execTrwXor n d a b s
  | .trwSll n d a b => Sys2Proof.Machine.execTrwSll n d a b s
  | .trwSrl n d a b => Sys2Proof.Machine.execTrwSrl n d a b s
  | .trwSra n d a b => Sys2Proof.Machine.execTrwSra n d a b s
  | .trwMin n d a b => Sys2Proof.Machine.execTrwMin n d a b s
  | .trwMax n d a b => Sys2Proof.Machine.execTrwMax n d a b s
  | .trwMul n d a b => Sys2Proof.Machine.execTrwMul n d a b s
  | .trwCls n d a => Sys2Proof.Machine.execTrwCls n d a s
  | .trwDivq n d a b sgn => Sys2Proof.Machine.execTrwDivq n d a b sgn s
  | .trwAddi n d a imm => Sys2Proof.Machine.execTrwAddi n d a imm s
  | .trwAndi n d a imm => Sys2Proof.Machine.execTrwAndi n d a imm s
  | .trwOri n d a imm => Sys2Proof.Machine.execTrwOri n d a imm s
  | .trwXori n d a imm => Sys2Proof.Machine.execTrwXori n d a imm s
  | .trwLui n d imm => Sys2Proof.Machine.execTrwLui n d imm s
  | .trwShi n d a imm => Sys2Proof.Machine.execTrwShi n d a imm s
  | .trwBeq n a b off => Sys2Proof.Machine.execTrwBeq n a b off s
  | .trwBne n a b off => Sys2Proof.Machine.execTrwBne n a b off s
  | .trwBlt n a b off => Sys2Proof.Machine.execTrwBlt n a b off s
  | .trwBge n a b off => Sys2Proof.Machine.execTrwBge n a b off s
  | .trwBltu n a b off => Sys2Proof.Machine.execTrwBltu n a b off s
  | .trwBgeu n a b off => Sys2Proof.Machine.execTrwBgeu n a b off s
  | .trwJmp n off => Sys2Proof.Machine.execTrwJmp n off s
  | .trwCall n off => Sys2Proof.Machine.execTrwCall n off s
  | .trwJr n a => Sys2Proof.Machine.execTrwJr n a s
  | .trwCallr n a => Sys2Proof.Machine.execTrwCallr n a s
  | .trwRet n => Sys2Proof.Machine.execTrwRet n s
  | .trwLdB n d a imm => Sys2Proof.Machine.execTrwLdB n d a imm s
  | .trwLdBu n d a imm => Sys2Proof.Machine.execTrwLdBu n d a imm s
  | .trwLdH n d a imm => Sys2Proof.Machine.execTrwLdH n d a imm s
  | .trwLdHu n d a imm => Sys2Proof.Machine.execTrwLdHu n d a imm s
  | .trwLdW n d a imm => Sys2Proof.Machine.execTrwLdW n d a imm s
  | .trwLdD n d a imm => Sys2Proof.Machine.execTrwLdD n d a imm s
  | .trwStB n d a imm => Sys2Proof.Machine.execTrwStB n d a imm s
  | .trwStH n d a imm => Sys2Proof.Machine.execTrwStH n d a imm s
  | .trwStW n d a imm => Sys2Proof.Machine.execTrwStW n d a imm s
  | .trwStD n d a imm => Sys2Proof.Machine.execTrwStD n d a imm s
  | .trwCas n d a b => Sys2Proof.Machine.execTrwCas n d a b s
  | .trwMpy n x a b f => Sys2Proof.Machine.execTrwMpy n x a b f s
  | .trwMac n x a b f => Sys2Proof.Machine.execTrwMac n x a b f s
  | .trwMsu n x a b f => Sys2Proof.Machine.execTrwMsu n x a b f s
  | .trwMac2 n a b f => Sys2Proof.Machine.execTrwMac2 n a b f s
  | .trwAclr n x => Sys2Proof.Machine.execTrwAclr n x s
  | .trwAmov n x y => Sys2Proof.Machine.execTrwAmov n x y s
  | .trwAadd n x y => Sys2Proof.Machine.execTrwAadd n x y s
  | .trwAsub n x y => Sys2Proof.Machine.execTrwAsub n x y s
  | .trwAshl n x imm => Sys2Proof.Machine.execTrwAshl n x imm s
  | .trwAshr n x imm => Sys2Proof.Machine.execTrwAshr n x imm s
  | .trwAshrr n x imm => Sys2Proof.Machine.execTrwAshrr n x imm s
  | .trwAaddw n x a imm => Sys2Proof.Machine.execTrwAaddw n x a imm s
  | .trwAldw n x a imm => Sys2Proof.Machine.execTrwAldw n x a imm s
  | .trwMva n d x => Sys2Proof.Machine.execTrwMva n d x s
  | .trwAneg n x => Sys2Proof.Machine.execTrwAneg n x s
  | .trwNop n => Sys2Proof.Machine.execTrwNop n s
  | .trwTrap n imm => Sys2Proof.Machine.execTrwTrap n imm s
  | .trwRett n => Sys2Proof.Machine.execTrwRett n s
  | .trwWait n => Sys2Proof.Machine.execTrwWait n s
  | .trwEvclr n imm => Sys2Proof.Machine.execTrwEvclr n imm s
  | .trwSev n imm => Sys2Proof.Machine.execTrwSev n imm s
  | .trwHalt n => Sys2Proof.Machine.execTrwHalt n s
  | .trwBreak n => Sys2Proof.Machine.execTrwBreak n s
  | .trwSpillw n => Sys2Proof.Machine.execTrwSpillw n s
  | .trwFillw n => Sys2Proof.Machine.execTrwFillw n s
  | .trwMvs n d sys => Sys2Proof.Machine.execTrwMvs n d sys s
  | .trwMsv n sys a => Sys2Proof.Machine.execTrwMsv n sys a s
  | .eventTrap n => Sys2Proof.Machine.execEventTrap n s
  | .coreStart n => Sys2Proof.Machine.execCoreStart n s
  | .coreHalt n => Sys2Proof.Machine.execCoreHalt n s
  | .coreResume n => Sys2Proof.Machine.execCoreResume n s
  | .coreRestart n => Sys2Proof.Machine.execCoreRestart n s
  | .trowelMemAccess write v => Sys2Proof.Machine.execTrowelMemAccess write v s
  | .trowelEvtGo v => Sys2Proof.Machine.execTrowelEvtGo v s
  | .p384Generate n => Sys2Proof.Machine.execP384Generate n s
  | .p384Ecdh n => Sys2Proof.Machine.execP384Ecdh n s
  | .p384Verify n => Sys2Proof.Machine.execP384Verify n s
  | .p384Sign n => Sys2Proof.Machine.execP384Sign n s
  | .p384Complete => Sys2Proof.Machine.execP384Complete s
  | .moverStart src n => Sys2Proof.Machine.execMoverStart src n s
  | .moverStop src n => Sys2Proof.Machine.execMoverStop src n s
  | .moverDoorbell src n => Sys2Proof.Machine.execMoverDoorbell src n s
  | .moverCopy host stop => Sys2Proof.Machine.execMoverCopy host stop s
  | .moverFill host stop => Sys2Proof.Machine.execMoverFill host stop s
  | .moverInterleave host stop => Sys2Proof.Machine.execMoverInterleave host stop s
  | .moverBitplane host stop => Sys2Proof.Machine.execMoverBitplane host stop s
  | .moverSieveRecordWrite => Sys2Proof.Machine.execMoverSieveRecordWrite s
  | .descriptorComplete host => Sys2Proof.Machine.execDescriptorComplete host s
  | .moverTransportError => Sys2Proof.Machine.execMoverTransportError s
  | .moverSettleExpiry n host => Sys2Proof.Machine.execMoverSettleExpiry n host s
  | .rakeFaultEvent ext => Sys2Proof.Machine.execRakeFaultEvent ext s
  | .rakeRecordWrite => Sys2Proof.Machine.execRakeRecordWrite s
  | .ringPop ring src => Sys2Proof.Machine.execRingPop ring src s
  | .levelConditionEnd => Sys2Proof.Machine.execLevelConditionEnd s
  | .scrubComplete u ok => Sys2Proof.Machine.execScrubComplete u ok s
  | .bankGraftSwitchover u => Sys2Proof.Machine.execBankGraftSwitchover u s
  | .tileGraftSwitchover u => Sys2Proof.Machine.execTileGraftSwitchover u s
  | .rakeReturn v => Sys2Proof.Machine.execRakeReturn v s
  | .rakeReturnComplete ok => Sys2Proof.Machine.execRakeReturnComplete ok s
  | .rakeInject v => Sys2Proof.Machine.execRakeInject v s
  | .fuseAdvance v ok => Sys2Proof.Machine.execFuseAdvance v ok s
  | .fuseRevoke v ok => Sys2Proof.Machine.execFuseRevoke v ok s
  | .flashRead src v => Sys2Proof.Machine.execFlashRead src v s
  | .flashProgram src v => Sys2Proof.Machine.execFlashProgram src v s
  | .flashErase4k src v => Sys2Proof.Machine.execFlashErase4k src v s
  | .flashErase64k src v => Sys2Proof.Machine.execFlashErase64k src v s
  | .flashCommandComplete => Sys2Proof.Machine.execFlashCommandComplete s
  | .flashTimeout => Sys2Proof.Machine.execFlashTimeout s
  | .liveApply v rdFail => Sys2Proof.Machine.execLiveApply v rdFail s
  | .liveApplyCoreRestart => Sys2Proof.Machine.execLiveApplyCoreRestart s
  | .pcieLinkUp speed width => Sys2Proof.Machine.execPcieLinkUp speed width s
  | .perstAssert => Sys2Proof.Machine.execPerstAssert s
  | .functionLevelReset f => Sys2Proof.Machine.execFunctionLevelReset f s
  | .holeAccess f off write => Sys2Proof.Machine.execHoleAccess f off write s
  | .featureCommit f => Sys2Proof.Machine.execFeatureCommit f s
  | .nqEnable f v h => Sys2Proof.Machine.execNqEnable f v h s
  | .nqEntryWrite f h => Sys2Proof.Machine.execNqEntryWrite f h s
  | .nqHeadWrite f v h => Sys2Proof.Machine.execNqHeadWrite f v h s
  | .nqCoalTimeout f h => Sys2Proof.Machine.execNqCoalTimeout f h s
  | .nqWriteError f => Sys2Proof.Machine.execNqWriteError f s
  | .mbxRequest f v => Sys2Proof.Machine.execMbxRequest f v s
  | .mbxDone f v => Sys2Proof.Machine.execMbxDone f v s
  | .mbxTimeout f => Sys2Proof.Machine.execMbxTimeout f s
  | .bedReset src b => Sys2Proof.Machine.execBedReset src b s
  | .bedResetComplete b => Sys2Proof.Machine.execBedResetComplete b s
  | .uartRxFrame line stop => Sys2Proof.Machine.execUartRxFrame line stop s
  | .uartDataWrite src v => Sys2Proof.Machine.execUartDataWrite src v s
  | .uartDataPop src => Sys2Proof.Machine.execUartDataPop src s
  | .hlRowModeWrite g v => Sys2Proof.Machine.execHlRowModeWrite g v s
  | .hlLaneCtrlWrite b l v => Sys2Proof.Machine.execHlLaneCtrlWrite b l v s
  | .txeqWrite b l v => Sys2Proof.Machine.execTxeqWrite b l v s
  | .laneLock b l => Sys2Proof.Machine.execLaneLock b l s
  | .portUp P => Sys2Proof.Machine.execPortUp P s
  | .portLinkLoss P why => Sys2Proof.Machine.execPortLinkLoss P why s
  | .laneSerWindow b l n prbs => Sys2Proof.Machine.execLaneSerWindow b l n prbs s
  | .helloSend b => Sys2Proof.Machine.execHelloSend b s
  | .hello P => Sys2Proof.Machine.execHello P s
  | .partnerHsExpiry b => Sys2Proof.Machine.execPartnerHsExpiry b s
  | .accept P => Sys2Proof.Machine.execAccept P s
  | .laneGraftSwitch q => Sys2Proof.Machine.execLaneGraftSwitch q s
  | .ready P => Sys2Proof.Machine.execReady P s
  | .abort P => Sys2Proof.Machine.execAbort P s
  | .graftAcceptTimeout q => Sys2Proof.Machine.execGraftAcceptTimeout q s
  | .graftReadyTimeout q => Sys2Proof.Machine.execGraftReadyTimeout q s
  | .faultReport P => Sys2Proof.Machine.execFaultReport P s
  | .txDozeEnter P => Sys2Proof.Machine.execTxDozeEnter P s
  | .txDozeWake P => Sys2Proof.Machine.execTxDozeWake P s
  | .txDoze P => Sys2Proof.Machine.execTxDoze P s
  | .rxDozeWake P => Sys2Proof.Machine.execRxDozeWake P s
  | .vddAonPowerOn => Sys2Proof.Machine.execVddAonPowerOn s
  | .illegalInstruction n w => Sys2Proof.Machine.execIllegalInstruction n w s
  | .readClearAccess src off => Sys2Proof.Machine.execReadClearAccess src off s
  | .sensorAutoConversion => Sys2Proof.Machine.execSensorAutoConversion s
  | .uartTxByteSent => Sys2Proof.Machine.execUartTxByteSent s
  | .tenantResetEnWrite b v => Sys2Proof.Machine.execTenantResetEnWrite b v s
  | .rxDozeAlignTimeout P => Sys2Proof.Machine.execRxDozeAlignTimeout P s

end Sys2Proof.Machine
end

