-- ==== Sys2Proof/Machine/Step.lean ====
section
/-!
DEFINITION. One step of the block: the command at the front of the queue, or one TIME tick when none waits.
-/

namespace Sys2Proof.Machine

/-- One step: take the front command and run it with the queue's rest; on an empty queue the block only counts one TIME
tick (idleTick). (In part DESIGN CHOICE, log entry 1; DESIGN CHOICE, log entry 3.) -/
def step (s : State) : Host.Outcome State Fault Refusal :=
  match s.pending with
  | [] => .next (idleTick s)
  | c :: rest => exec c { s with pending := rest }

/-- `s` with the command that the word spells put at the front of its queue. (In part DESIGN CHOICE, log entry 1; DESIGN CHOICE, log entry 2.) -/
def State.withFetchWord (s : State) (nbits w : Nat) : State :=
  match decodeTableWord nbits w with
  | none => s
  | some c => { s with pending := c :: s.pending }

end Sys2Proof.Machine
end

