-- ==== Sys2Proof/Safety.lean ====
section
/-!
DEFINITION. What counts as a safe run, and the terms in which claims are made: fuses that never go back, memories in their
canonical form, frames.
-/

namespace Sys2Proof.Machine

open Sys2Proof

/-- `i` completes at `s` with next state `t`. -/
def Runs (i : Instr) (s t : State) : Prop := exec i s = .next t

/-- A run of k steps from `s` is safe: no step faults or refuses. -/
def SafeFor (k : Nat) (s : State) : Prop :=
  match k with
  | 0 => True
  | m + 1 => ∃ t, step s = .next t ∧ SafeFor m t

/-- Fuses `b` come from fuses `a` by permanent changes only (R477): what is fused for good is the same, the rollback floor is
not lower, and a revoked key slot stays revoked. -/
def fusesFrom (a b : Fuses) : Prop :=
  b.variant = a.variant ∧ b.vendor = a.vendor ∧ b.serial = a.serial ∧ b.oui = a.oui ∧ b.idPriv = a.idPriv ∧
    b.cert = a.cert ∧ b.keyHash = a.keyHash ∧ b.loaded = a.loaded ∧ a.floor ≤ b.floor ∧
    ∀ k, bitAt a.revoked k = true → bitAt b.revoked k = true

/-- The memories of the block are in canonical form: common memory, the flash, and every core's IMEM and DMEM. -/
def memWf (s : State) : Bool :=
  Table.wf s.common 0 && Table.wf s.boot.flash 0xFF &&
    s.cores.all fun e => Table.wf e.2.imem 0 && Table.wf e.2.dmem 0

/-- Every register field outside the list reads as before. -/
def sameRegs (ks : List Fld) (s t : State) : Prop := ∀ f : Fld, (∀ g ∈ ks, f.key ≠ g.key) → rd t f = rd s f

/-- Common memory, the flash and the cores are as before. -/
def sameMem (s t : State) : Prop := t.common = s.common ∧ t.boot.flash = s.boot.flash ∧ t.cores = s.cores

/-- Logical core n exists and runs, no event is taken first, and its PC may be fetched: an instruction executes (R369, R378,
R379). -/
def coreReady (s : State) (n : Nat) : Prop :=
  coreRuns s n = true ∧ (coreAt s n).takesEvent = false ∧ (coreAt s n).fetchCheck = none

/-- Instruction `i` of core n goes on with core record k', and changes nothing else of the block. -/
def coreGoes (i : Instr) (s : State) (n : Nat) (k' : Core) : Prop := exec i s = .next (putCore (fresh s) n k')

/-- From s to t only the listed register fields, and the outputs, differ. -/
def onlyRegs (ks : List Fld) (s t : State) : Prop := sameRegs ks s t ∧ t = { s with regs := t.regs, out := t.out }

/-- A counter and its bed-window copy, where it has one (R489). -/
def mirrored (f : Fld) : List Fld :=
  match mirrorOf f.addr with
  | some a => [f, { f with addr := a }]
  | none => [f]

/-- k' differs from k only in PC, in the register d and in the flags Z, N, C and V: every other register of every window and
of the K bank, the rest of STATUS, the accumulators, the system registers and the core's memories are as before. With d = 31
no register changes. -/
def onlyReg (k k' : Core) (d : Nat) : Prop :=
  (∀ j, ¬(d < 16 ∧ j = winIdx k.cwp d) → k'.win.get j 0 = k.win.get j 0) ∧
    (∀ j, ¬(16 ≤ d ∧ d < 24 ∧ j = d - 16) → k'.k.get j 0 = k.k.get j 0) ∧ k'.status / 16 = k.status / 16 ∧
    k' = { k with pc := k'.pc, win := k'.win, k := k'.k, status := k'.status }

/-- The flags Z, N, C and V of a core (R350). -/
def Core.flagZ (k : Core) : Bool := bitAt k.status 0
def Core.flagN (k : Core) : Bool := bitAt k.status 1
def Core.flagC (k : Core) : Bool := bitAt k.status 2
def Core.flagV (k : Core) : Bool := bitAt k.status 3

/-- All four flags are as before. -/
def sameFlags (k k' : Core) : Prop :=
  k'.flagZ = k.flagZ ∧ k'.flagN = k.flagN ∧ k'.flagC = k.flagC ∧ k'.flagV = k.flagV

/-- The signed reading of a 32-bit value fits no 32 bits. -/
def overflows (v : Int) : Bool := decide (v < -2 ^ 31 ∨ 2 ^ 31 ≤ v)

/-- Core k goes on to k' past its instruction with result v in register d (Z discards it), and Z and N follow v; v counts
modulo 2^32. -/
def Core.result (k k' : Core) (d : Nat) (v : Int) : Prop :=
  k'.pc = (k.pc + 4) % 2 ^ 32 ∧ (d ≠ 31 → (k'.reg d : Int) = v % 2 ^ 32) ∧ k'.flagZ = decide (v % 2 ^ 32 = 0) ∧
    k'.flagN = decide (2 ^ 31 ≤ v % 2 ^ 32) ∧ onlyReg k k' d

/-- The same with Z N C V of x + y + c. -/
def Core.sumResult (k k' : Core) (d x y c : Nat) : Prop :=
  k.result k' d (x + y + c) ∧ k'.flagC = decide (2 ^ 32 ≤ x + y + c) ∧
    k'.flagV = overflows (toSigned 32 x + toSigned 32 y + c)

/-- The same with Z N C V of x − y − c; C is 1 for no borrow. -/
def Core.difResult (k k' : Core) (d x y c : Nat) : Prop :=
  k.result k' d (x - y - c) ∧ k'.flagC = decide (y + c ≤ x) ∧ k'.flagV = overflows (toSigned 32 x - toSigned 32 y - c)

/-- A bitwise result: Z N, V := 0, C as before. -/
def Core.bitResult (k k' : Core) (d v : Nat) : Prop := k.result k' d v ∧ k'.flagC = k.flagC ∧ k'.flagV = false

/-- A result that leaves C and V. -/
def Core.znResult (k k' : Core) (d : Nat) (v : Int) : Prop :=
  k.result k' d v ∧ k'.flagC = k.flagC ∧ k'.flagV = k.flagV

/-- A shift result: Z N, C the last bit out, V := 0. -/
def Core.shiftResult (k k' : Core) (d : Nat) (v : Int) (c : Bool) : Prop :=
  k.result k' d v ∧ k'.flagC = c ∧ k'.flagV = false

/-- The last bit that a left shift of x by n moves out. -/
def outLeft (x n : Nat) : Bool := decide (1 ≤ n ∧ n ≤ 32) && bitAt x (32 - n)

/-- The last bit that a right shift of x by n moves out. -/
def outRight (x n : Nat) : Bool := decide (1 ≤ n ∧ n ≤ 32) && bitAt x (n - 1)

/-- ACC_X of k' holds v as R361 writes it: v itself if it fits 40 signed bits, else clamped in SAT mode, else wrapped; SV and AVA
or AVB follow. PC moves past the instruction; what else changes is the flags Z, N, C and V at most. -/
def Core.accWritten (k k' : Core) (x : Nat) (v : Int) : Prop :=
  let tooMuch : Bool := decide (v < -2 ^ 39 ∨ 2 ^ 39 ≤ v)
  let w : Int := if tooMuch = true then
      (if k.sat = true then (if v < 0 then -2 ^ 39 else 2 ^ 39 - 1) else (v + 2 ^ 39) % 2 ^ 40 - 2 ^ 39)
    else v
  k'.accA = (if x = 0 then w else k.accA) ∧ k'.accB = (if x = 0 then k.accB else w) ∧ k'.pc = (k.pc + 4) % 2 ^ 32 ∧
    bitAt k'.status 7 = (bitAt k.status 7 || (tooMuch && k.sat)) ∧
    bitAt k'.status 4 = (bitAt k.status 4 || (tooMuch && decide (x = 0))) ∧
    bitAt k'.status 5 = (bitAt k.status 5 || (tooMuch && decide (x ≠ 0))) ∧
    bitAt k'.status 6 = bitAt k.status 6 ∧ k'.status / 256 = k.status / 256 ∧
    k' = { k with pc := k'.pc, accA := k'.accA, accB := k'.accB, status := k'.status }

/-- r is v / 2^c rounded to the nearest integer, a tie to the even one (R362). -/
def isNearest (v : Int) (c : Nat) (r : Int) : Prop :=
  let e := 2 * v - 2 * r * 2 ^ c
  (-2 ^ c < e ∧ e < 2 ^ c) ∨ ((e = 2 ^ c ∨ e = -2 ^ c) ∧ r % 2 = 0)

/-- The block restarted: everything but what is fused, in flash or in the AON domain is at its reset state (R439). -/
def restarted (s t : State) : Prop :=
  t.fuses = s.fuses ∧ t.boot.flash = s.boot.flash ∧ t.hunts = [] ∧ t.burst = {} ∧ t.join = {} ∧ t.cipher = {} ∧ t.mover = {} ∧
    t.cores = [] ∧ t.common = [] ∧ ∀ f ∈ keptFlds, f.key ≠ MODE_STATUS.WAKE_CAUSE.key → rd t f = rd s f % 2 ^ f.width

/-- The block restarted into LOAD with a cause, at a step of R438. -/
def loading (s t : State) (cause step : Nat) : Prop :=
  restarted s t ∧ mode t = 2 ∧ rd t MODE_STATUS.WAKE_CAUSE = cause ∧ rd t MODE_PAD.HOLD = 0xFF ∧ t.power.step = step

/-- The step of R438 at which a device reset begins, and a wake. -/
def wakeStep (s : State) : Nat := if s.power.xtal = true then 3 else 2
def resetStep (s : State) : Nat := if s.power.pwrEn = true then 4 else if mode s = 2 then 2 else wakeStep s

/-- Nothing that a way down has to stop: no burst is chosen or in progress, no laser is listed, no port trains or is up, and no
channel is framed. -/
def idleLine (s : State) : Prop :=
  s.burst.bursts = [] ∧ s.burst.air = [] ∧ s.line.lasers = [] ∧
    (∀ p, p < ports s → rd s (HL_PORT.STATE p) ≠ 1 ∧ rd s (HL_PORT.STATE p) ≠ 2) ∧ ∀ k, k < chans s → rd s (FRM_STATUS.STATE k) = 0

/-- The registers of every host lane's state. -/
def laneFlds (s : State) : List Fld :=
  (List.range (34 * beds s)).flatMap fun i =>
    [HL_LANE_STAT.STATE (i / 34) (i % 34), HL_LANE_STAT.TX_DOZE (i / 34) (i % 34), HL_LANE_STAT.RX_DOZE (i / 34) (i % 34)]

/-- The way down to target m has begun (R436): no grant is left, and every host lane but a fenced one is in electrical idle. -/
def goesDown (s t : State) (m : Nat) : Prop :=
  t.power = { s.power with down := some m, gasp := none } ∧ t.burst = { s.burst with grants := [] } ∧
    ∀ b l, b < beds s → l < 34 → rd s (HL_LANE_STAT.STATE b l) ≠ 5 → rd t (HL_LANE_STAT.STATE b l) = 0

/-- From s to t the terminal reports the thermal state of t (R205, R460): under profile 3, with the line up, THERMAL_STATE goes out
sealed on the device's allocation, with STATE, GRANT_PCT and TJ; otherwise nothing is sent. -/
def thermSent (s t : State) : Prop :=
  (lineUp s = true → rd s JOIN_STATUS.PROFILE = 3 →
    t.join = { s.join with seq := (s.join.seq + 1) % 65536 } ∧ (devSlot s = none → t.burst = s.burst) ∧
      (devSlot s ≠ none → ∃ p : TendPod, t.burst = { s.burst with tend := s.burst.tend ++ [p] } ∧ p.sealed = true ∧
        p.body.take 1 = [0x45] ∧ beAt (p.body.drop 8) 0 1 = rd t PWR_THERM.STATE % 256 ∧
        (rd t PWR_THERM.STATE = 2 → 1 ≤ t.power.p1 → beAt (p.body.drop 8) 1 1 = min 99 (max 50 (100000000 / t.power.p1))) ∧
        (rd t PWR_THERM.STATE ≠ 2 → beAt (p.body.drop 8) 1 1 = 100) ∧ beAt (p.body.drop 8) 2 2 = rd t PWR_THERM.TJ % 65536)) ∧
    (lineUp s = false ∨ rd s JOIN_STATUS.PROFILE ≠ 3 → t.burst = s.burst ∧ t.join = s.join)

/-- The thermal state goes from a to another state b (R459, R460): the Rake hears of the end of a and of b, trim saves GAIN_CAP and
lowers it by one step, its end restores it, and the change is reported. -/
def thermGoes (s t : State) (a b : Nat) : Prop :=
  let g := rd s LINE_SOA_LIMIT.GAIN_CAP
  let low := max 0x200 (rd s LINE_SOA_LIMIT.FLOOR)
  rd t PWR_THERM.STATE = b ∧ thermSent s t ∧
    t.rakeEnds = s.rakeEnds ++ (if a = 0 then [] else [{ kind := 20, scope := .dev, arg := a }]) ∧
    t.rakeIn = s.rakeIn ++ (if b = 0 then [] else [{ kind := 20, scope := .dev, arg := b, cycle := s.time.c / 5 }]) ∧
    (b = 2 → g < 1024 → rd t PWR_TRIM.SOA_SAVED = g ∧
      (low < 1024 → rd t LINE_SOA_LIMIT.GAIN_CAP = max low (g - 16 * max 1 (rd s PWR_TRIM.SOA_STEP)))) ∧
    (a = 2 → rd s PWR_TRIM.SOA_SAVED < 1024 → rd t LINE_SOA_LIMIT.GAIN_CAP = rd s PWR_TRIM.SOA_SAVED)

/-- What a change of the thermal state may write. -/
def thermFlds : List Fld := [PWR_THERM.STATE, PWR_TRIM.SOA_SAVED, LINE_SOA_LIMIT.GAIN_CAP]

/-- No optical engine is fenced or grafted: channel k uses engine k. -/
def ownEngines (s : State) : Prop :=
  s.line.rxEng = [] ∧ s.line.txEng = [] ∧ s.line.rxGraft = [] ∧ s.line.txGraft = [] ∧ s.line.rxFenced = [] ∧ s.line.txFenced = []

/-- The LASER field of channel k. -/
def laserFld (tx : Bool) (k : Nat) : Fld := if tx = true then LTX_STATUS.LASER k else LRX_STATUS.LASER k

/-- From s to t the laser of channel k's own engine becomes l, its LASER field shows it, and no other laser changes. -/
def laserGoes (s t : State) (tx : Bool) (k : Nat) (l : Laser) : Prop :=
  laserOf t tx k = l ∧ rd t (laserFld tx k) = l.st % 8 ∧ t.line = { s.line with lasers := t.line.lasers } ∧
    ∀ tx' e, e < 128 → ¬(tx' = tx ∧ e = k) → laserOf t tx' e = laserOf s tx' e

/-- No channel is in SYNC, and tree LOF shows it. -/
def noTree (s : State) : Prop := rd s FRM_TREE.TREE_LOF = 1 ∧ ∀ k, k < chans s → rd s (FRM_STATUS.STATE k) ≠ 2

/-- The protection switch of R80 made: connector c, counted and settling, at this instant; no channel is framed. -/
def switched (s t : State) (c : Nat) : Prop :=
  rd t LINE_STATUS.CONN = c ∧ rd t LINE_STATUS.SWITCH_COUNT = min (rd s LINE_STATUS.SWITCH_COUNT + 1) 0xFFFF ∧
    rd t LINE_STATUS.SWITCHING = 1 ∧ t.line.lastSwitch = some s.time.c ∧ (∀ b ∈ t.burst.air, 64 ≤ b.grant.ch) ∧
    (∀ k, k < chans s → rd t (FRM_STATUS.STATE k) = 0) ∧ mode t = mode s

/-- The first waiting tending message of type ty is m. -/
def nextMsg (s : State) (m : Msg) (ty : Nat) : Prop := s.join.inbox.find? (fun x => x.ty = ty) = some m

/-- The JOIN state is st, in mode JOIN. -/
def joining (s : State) (st : Nat) : Prop := mode s = 3 ∧ rd s JOIN_STATUS.STATE = st

/-- The message m has been answered with a body of type ty, kept for its repeats; the terminal's SEQ has advanced; and with a device
allocation the answer waits as a tending pod (R150, R166, R168). -/
def answered (s t : State) (m : Msg) (ty : Nat) (body : List Byte) : Prop :=
  let msg := tendMsg ty s.join.seq body
  (∃ r, t.join.answers = { ty := m.ty, seq := m.seq, reply := some (ty, msg) } :: r) ∧ t.join.seq = (s.join.seq + 1) % 65536 ∧
    (devSlot t ≠ none → ∃ p ∈ t.burst.tend, p.body = msg)

/-- A REPLY with RESULT and DETAIL (R167). -/
def replied (s t : State) (m : Msg) (result detail : Nat) : Prop :=
  answered s t m 0x41 (beBytes 2 m.seq ++ beBytes 1 m.ty ++ beBytes 1 result ++ beBytes 1 detail ++ [0, 0, 0])

/-- What a cold reset leaves (R172). -/
def coldState (t : State) : Prop :=
  rd t JOIN_TID.VALID = 0 ∧ rd t JOIN_TREE.VALID = 0 ∧ rd t JOIN_TEND_SLOTS.VALID = 0 ∧ rd t JOIN_STATUS.WARM = 0 ∧
    rd t JOIN_STATUS.PROFILE = 0 ∧ rd t BURST_EQD.EQD = 0 ∧ rd t JOIN_STATUS.RTD_VALID = 0 ∧ t.cipher.slots = [] ∧
    t.cipher.kek = none ∧ t.join.answers = [] ∧ t.join.rekeys = [] ∧ ∀ n, n < 256 → rd t (ALLOC_LO.VALID n) ≠ 1

end Sys2Proof.Machine
end

