-- ==== Sys2Proof/Certificates/Slice0/Obligations.lean ====
section
/-!
DEFINITION. The statements for the provers. Each `Obligations.<Name>` states what its docstring says, from the rules it names.
-/

open Sys2Proof Sys2Proof.Machine

/-! ### The machine -/

/-- One step takes the command at the front of the queue and runs it with the queue's rest. -/
def Obligations.StepRunsFrontCommand : Prop :=
  ∀ (s : State) (c : Instr) (rest : List Instr), s.pending = c :: rest → step s = exec c { s with pending := rest }

/-- The model's choice, log entry 3: with no command waiting a step is one TIME tick: in LOAD, JOIN, SERVICE and HOLDOVER the
counter C rises by 1 modulo 2^64 (R208), its wraps counted modulo 5 for the cores' cycle counters (R351), and nothing else changes; in DORMANT and SENTRY nothing changes. -/
def Obligations.IdleStepCountsTimeOnly : Prop :=
  ∀ s : State, s.pending = [] →
    (2 ≤ rd s MODE_STATUS.MODE → s.time.c < 2 ^ 64 → step s = .next { s with time := { s.time with
      c := (s.time.c + 1) % 2 ^ 64, turns := (s.time.turns + if s.time.c = 2 ^ 64 - 1 then 1 else 0) % 5 } }) ∧
    (rd s MODE_STATUS.MODE < 2 → step s = .next s)

/-- Whatever the state, every command and every step ends in a next state, and a command leaves the queue of waiting commands
as it was. -/
def Obligations.EveryCommandEndsAndKeepsQueue : Prop :=
  ∀ (c : Instr) (s : State), ∃ t, exec c s = .next t ∧ t.pending = s.pending ∧ ∃ u, step s = .next u

/-- Right after the power-on reset the mode is LOAD (R554), the fused variant's resources are those of an NL-7720-64 (R3), every
Trowel core is in STATE 0, MODE_PAD holds every pad group, no key slot, allocation or fault source is listed, the memories are in
canonical form and list nothing, and no command waits. The variant is the model's choice, log entry 5, that no command waits is log
entry 6, and that the flash and the stock list nothing is log entry 8. -/
def Obligations.ResetState : Prop :=
  mode State.reset = 2 ∧ chans State.reset = 64 ∧ rows State.reset = 32 ∧ beds State.reset = 8 ∧ ports State.reset = 256 ∧
    cores State.reset = 12 ∧ fns State.reset = 9 ∧ spares State.reset = 4 ∧ rd State.reset MODE_PAD.HOLD = 0xFF ∧
    (∀ n, n < 12 → rd State.reset (TROWEL_CORE_STATUS.STATE n) = 0 ∧ (coreAt State.reset n).status = 0x9C000000) ∧
    rd State.reset BOOT_STATUS.STATE = 0 ∧ rd State.reset CLK_STATUS.STOCK_SRC = 3 ∧
    memWf State.reset = true ∧ State.reset.common = [] ∧ State.reset.boot.flash = [] ∧ State.reset.cipher.slots = [] ∧
    State.reset.rake.sources = [] ∧ State.reset.pending = []

/-- The fuses never go back (R477): through any step from any state, what is fused for good stays the same, the rollback floor is
not lowered and no revoked key slot is restored. -/
def Obligations.FusesNeverGoBack : Prop :=
  ∀ (f : Fuses) (s t : State), fusesFrom f s.fuses → step s = .next t → fusesFrom f t.fuses

/-- The fuses of the state after reset meet that invariant. -/
def Obligations.ResetFusesMeetInvariant : Prop := fusesFrom Fuses.reset State.reset.fuses

/-! ### Register accesses -/

/-- The access codes of R10 on any register whose fields lie apart: a write stores each RW field, clears in each W1C field the
bits written 1, and leaves every RO, RC, WO and RW1S field, every other register and everything else of the block as it was (the action
that a WO or RW1S field requests is its own command's); the word read holds each field in its place, 0 for a WO field and 0 where no
field is (R12), and the read clears the RC fields alone. -/
def Obligations.AccessCodesOfRegisterFields : Prop :=
  ∀ (s : State) (fs : List Fld) (v : Word), (fs.map Fld.key).Nodup →
    (let t := writeFlds s fs v
     (∀ f ∈ fs, (f.acc = .rw → rd t f = v.toNat / 2 ^ f.lsb % 2 ^ f.width) ∧
       (f.acc = .w1c → rd s f < 2 ^ f.width → ∀ i, i < f.width →
         bitAt (rd t f) i = (bitAt (rd s f) i && !bitAt v.toNat (f.lsb + i))) ∧
       (f.acc ≠ .rw → f.acc ≠ .w1c → rd t f = rd s f)) ∧ onlyRegs fs s t) ∧
    ((∀ f ∈ fs, rd s f < 2 ^ f.width) → fs.Pairwise (fun f g => f.lsb + f.width ≤ g.lsb ∨ g.lsb + g.width ≤ f.lsb) →
      (∀ f ∈ fs, wordOf s fs / 2 ^ f.lsb % 2 ^ f.width = if f.acc = .wo then 0 else rd s f) ∧
      ∀ i, (∀ f ∈ fs, i < f.lsb ∨ f.lsb + f.width ≤ i) → bitAt (wordOf s fs) i = false) ∧
    (let t := clearRc s fs
     (∀ f ∈ fs, (f.acc = .rc → rd t f = 0) ∧ (f.acc ≠ .rc → rd t f = rd s f)) ∧ onlyRegs fs s t)

/-- REGISTER_WRITE and READ_CLEAR_ACCESS complete and reach the register at their offset. For PF0, a Trowel core or the start-up logic, and
a register that only stores (RAKE_CTRL and RAKE_STICKY, LINE_STATUS, LINE_DIBBER, the LINE_RAMP levels, TIME_JUMP, TIME_HOLD, SPR_GM_*,
SPR_UTC, SPR_QUAL_c and SPR_DROP, CIPHER_CTRL, HL_TPL_t_*, SENS_CTRL, SENS_STATUS, and the JOIN block without JOIN_CTRL), a write acts on
each field by its access code, and a read leaves the word in readData and clears the RC fields; a narrower read, inside the word, acts as
the read of the word (R11). A write of 1 sets the RW1S field READY and one of 0 leaves it. A function's write of its own DRV_FEATURES
stores the word, but in reset, or while its bed is, its writes change nothing (R482, R506); and MBXF_f_CTRL, REQ and RESP, which are
Trowel firmware's, read 0 for PF0 and take no write from it (log entry 13). -/
def Obligations.RegisterAccessReachesRegister : Prop :=
  (∀ (s : State) (src : Src) (off n : Nat) (v : Word) (r : RegRow) (fs : List Fld),
    src = .pf 0 ∨ src = .startup ∨ src = .trowel n → regAt s off = some (r, fs, true) → off % 4 = 0 → (fs.map Fld.key).Nodup →
    off ∈ [0xA00000, 0xA00008, 0x300004, 0x30000C, 0x20003C, 0x200040, 0x240010, 0x240014, 0x240018, 0x24001C, 0x240080, 0x700000, 0xE00000,
        0xE00004] ∨
      (0x300100 ≤ off ∧ off < 0x300140) ∨ (0x240020 ≤ off ∧ off < 0x240030) ∨ (0xB00100 ≤ off ∧ off < 0xB00200) ∨
      (0x400004 ≤ off ∧ off < 0x500000) →
    (∃ t, exec (.registerWrite src off v) s = .next t ∧ t.out = [] ∧ onlyRegs fs s t ∧
      ∀ f ∈ fs, (f.acc = .rw → rd t f = v.toNat / 2 ^ f.lsb % 2 ^ f.width) ∧
        (f.acc = .w1c → rd s f < 2 ^ f.width → ∀ i, i < f.width →
          bitAt (rd t f) i = (bitAt (rd s f) i && !bitAt v.toNat (f.lsb + i))) ∧
        (f.acc ≠ .rw → f.acc ≠ .w1c → rd t f = rd s f)) ∧
    (∀ i, i < 4 → ∃ t, exec (.readClearAccess src (off + i)) s = .next t ∧ t.readData = BitVec.ofNat 32 (wordOf s fs) ∧ t.out = [] ∧
      (∀ f ∈ fs, (f.acc = .rc → rd t f = 0) ∧ (f.acc ≠ .rc → rd t f = rd s f)) ∧
      onlyRegs fs { s with readData := t.readData } t)) ∧
  (∀ (s : State) (v : Word), ∃ t, exec (.registerWrite (.pf 0) 0xC00000 v) s = .next t ∧
    rd t TRELLIS_CTRL.READY = (if bitAt v.toNat 1 = true then 1 else rd s TRELLIS_CTRL.READY) ∧
    rd t TRELLIS_CTRL.ENABLE = v.toNat % 2 ∧ onlyRegs [TRELLIS_CTRL.READY, TRELLIS_CTRL.ENABLE] s t) ∧
  (∀ (s : State) (f i : Nat) (v : Word), f < fns s → i < 4 →
    (fnQuiet s f = false → ∃ t, exec (.registerWrite (.pf f) (DRV_FEATURES.V f i).addr v) s = .next t ∧
      rd t (DRV_FEATURES.V f i) = v.toNat ∧ onlyRegs [DRV_FEATURES.V f i] s t) ∧
    (fnQuiet s f = true → exec (.registerWrite (.pf f) (DRV_FEATURES.V f i).addr v) s = .next { s with out := [] })) ∧
  (∀ (s : State) (off : Nat) (v : Word) (x : RegRow × List Fld × Bool), 0xD0C000 ≤ off → off < 0xD0E400 → off % 4 = 0 → regAt s off = some x →
    exec (.registerWrite (.pf 0) off v) s = .next { s with out := [] } ∧
    exec (.readClearAccess (.pf 0) off) s = .next { s with readData := 0, out := [] })

/-- An access of a function to an offset that holds no register of its own counts in HOLES of FN_STATUS, saturating, and has no other
effect, but that AER of a function that may report errors shows an Unsupported Request; a read of it returns 0 (R485, R486). A register that the variant lacks reads 0, ignores the write and is no hole (R7).
Where these rules leave a corner open, the statement speaks of the
model's choice, log entry 14. -/
def Obligations.HolesAreCountedAndHarmless : Prop :=
  (∀ (s : State) (f off : Nat) (write : Bool), f < fns s → isHole s f (off / 4 * 4) write = true →
    ∃ t, exec (.holeAccess f off write) s = .next t ∧ rd t (FN_STATUS.HOLES f) = min (rd s (FN_STATUS.HOLES f) + 1) 0xFFFF ∧
      (write = false → t.readData = 0) ∧ (write = true → t.readData = s.readData) ∧
      t.out = (if featOn s f 5 = true then [.unsupported f] else []) ∧
      (featOn s f 5 = true → AerErr.unsupported ∈ (fnAt t f).aer ∧ ∀ g, g ≠ f → fnAt t g = fnAt s g) ∧
      (featOn s f 5 = false → t.mgmt = s.mgmt) ∧
      onlyRegs [FN_STATUS.HOLES f] { s with readData := t.readData, mgmt := t.mgmt } t) ∧
  (∀ (s : State) (off : Nat) (v : Word) (r : RegRow) (fs : List Fld), regAt s off = some (r, fs, false) → off % 4 = 0 → off < 0x1000000 →
    exec (.registerWrite (.pf 0) off v) s = .next { s with out := [] } ∧
    exec (.readClearAccess (.pf 0) off) s = .next { s with readData := 0, out := [] })

/-! ### Trowel cores -/

/-- ADD, ADDC, SUB, SUBB and ADDI complete with the sum or difference modulo 2^32 and all four flags (the rows of R368 that set
Z N C V; R348 for register 31), and change nothing else. -/
def Obligations.TrowelSumsSetFlags : Prop :=
  ∀ (s : State) (n d a : Nat), coreReady s n → okReg d = true → okReg a = true →
    let k := coreAt s n
    (∀ b, okReg b = true →
      (∃ k', coreGoes (.trwAdd n d a b) s n k' ∧ k.sumResult k' d (k.reg a) (k.reg b) 0) ∧
      (∃ k', coreGoes (.trwAddc n d a b) s n k' ∧ k.sumResult k' d (k.reg a) (k.reg b) (b2n k.flagC)) ∧
      (∃ k', coreGoes (.trwSub n d a b) s n k' ∧ k.difResult k' d (k.reg a) (k.reg b) 0) ∧
      (∃ k', coreGoes (.trwSubb n d a b) s n k' ∧ k.difResult k' d (k.reg a) (k.reg b) (1 - b2n k.flagC))) ∧
    (∀ imm, imm < 2 ^ 16 → ∃ k', coreGoes (.trwAddi n d a imm) s n k' ∧
      k.sumResult k' d (k.reg a) (if imm < 2 ^ 15 then imm else imm + (2 ^ 32 - 2 ^ 16)) 0)

/-- AND, OR, XOR, ANDI, ORI, XORI and LUI complete with their bitwise result (R368): V := 0 and C stays; LUI sets no flag. -/
def Obligations.TrowelBitwiseResults : Prop :=
  ∀ (s : State) (n d a : Nat), coreReady s n → okReg d = true → okReg a = true →
    let k := coreAt s n
    (∀ b, okReg b = true →
      (∃ k', coreGoes (.trwAnd n d a b) s n k' ∧ k.bitResult k' d (k.reg a &&& k.reg b)) ∧
      (∃ k', coreGoes (.trwOr n d a b) s n k' ∧ k.bitResult k' d (k.reg a ||| k.reg b)) ∧
      (∃ k', coreGoes (.trwXor n d a b) s n k' ∧ k.bitResult k' d (k.reg a ^^^ k.reg b))) ∧
    (∀ imm, imm < 2 ^ 16 →
      (∃ k', coreGoes (.trwAndi n d a imm) s n k' ∧ k.bitResult k' d (k.reg a &&& imm)) ∧
      (∃ k', coreGoes (.trwOri n d a imm) s n k' ∧ k.bitResult k' d (k.reg a ||| imm)) ∧
      (∃ k', coreGoes (.trwXori n d a imm) s n k' ∧ k.bitResult k' d (k.reg a ^^^ imm)) ∧
      (∃ k', coreGoes (.trwLui n d imm) s n k' ∧ k'.pc = (k.pc + 4) % 2 ^ 32 ∧ (d ≠ 31 → k'.reg d = imm * 2 ^ 16) ∧
        k'.status = k.status ∧ onlyReg k k' d))

/-- SLL, SRL and SRA by b[5:0] and SHI by its amount complete with the shifted value, 0 or a full sign fill from 32 on, C the
last bit out and V := 0; SHI with kind 3, or with a bit of IMM16[13:5] set, raises ILLEGAL in task mode (R354, R368). -/
def Obligations.TrowelShiftsAndShiImmediate : Prop :=
  ∀ (s : State) (n d a : Nat), coreReady s n → okReg d = true → okReg a = true →
    let k := coreAt s n
    let left (c : Nat) := (if c < 32 then k.reg a * 2 ^ c else 0 : Nat)
    let right (c : Nat) := (if c < 32 then k.reg a % 2 ^ 32 / 2 ^ c else 0 : Nat)
    let arith (c : Nat) := (toSigned 32 (k.reg a)).fdiv (2 ^ min c 31 : Nat)
    let outA (c : Nat) := decide (0 < c) && bitAt (k.reg a) (min c 32 - 1)
    (∀ b, okReg b = true →
      let c := k.reg b % 64
      (∃ k', coreGoes (.trwSll n d a b) s n k' ∧ k.shiftResult k' d (left c) (outLeft (k.reg a) c)) ∧
      (∃ k', coreGoes (.trwSrl n d a b) s n k' ∧ k.shiftResult k' d (right c) (outRight (k.reg a) c)) ∧
      (∃ k', coreGoes (.trwSra n d a b) s n k' ∧ k.shiftResult k' d (arith c) (outA c))) ∧
    (∀ c, c < 32 →
      (∃ k', coreGoes (.trwShi n d a c) s n k' ∧ k.shiftResult k' d (left c) (outLeft (k.reg a) c)) ∧
      (∃ k', coreGoes (.trwShi n d a (2 ^ 14 + c)) s n k' ∧ k.shiftResult k' d (right c) (outRight (k.reg a) c)) ∧
      (∃ k', coreGoes (.trwShi n d a (2 ^ 15 + c)) s n k' ∧ k.shiftResult k' d (arith c) (outA c))) ∧
    (∀ imm, imm < 2 ^ 16 → (3 * 2 ^ 14 ≤ imm ∨ imm / 32 % 512 ≠ 0) → k.trapMode = false →
      coreGoes (.trwShi n d a imm) s n (k.enterTrap 3 0 (wordI 7 d a imm) k.pc))

/-- MIN, MAX, MUL, CLS and DIVQ complete with their results (R368); DIVQ with divisor 0 or a quotient out of range raises DIV
and writes no register (R354, R355). -/
def Obligations.TrowelExtremaProductsQuotients : Prop :=
  ∀ (s : State) (n d a b : Nat), coreReady s n → okReg d = true → okReg a = true → okReg b = true →
    let k := coreAt s n
    (∃ k', coreGoes (.trwMin n d a b) s n k' ∧ k.znResult k' d (min (k.sreg a) (k.sreg b))) ∧
    (∃ k', coreGoes (.trwMax n d a b) s n k' ∧ k.znResult k' d (max (k.sreg a) (k.sreg b))) ∧
    (∃ k', coreGoes (.trwMul n d a b) s n k' ∧ k.znResult k' d (k.reg a * k.reg b : Nat)) ∧
    (∃ k' c, coreGoes (.trwCls n d a) s n k' ∧ k.znResult k' d (c : Nat) ∧ c ≤ 31 ∧
      (∀ i, i ≤ c → bitAt (k.reg a) (31 - i) = bitAt (k.reg a) 31) ∧
      (c < 31 → bitAt (k.reg a) (30 - c) ≠ bitAt (k.reg a) 31)) ∧
    (d % 2 = 0 → a % 2 = 0 → ∀ sgn : Bool,
      let num : Int := if sgn then toSigned 64 (k.reg (a + 1) * 2 ^ 32 + k.reg a) else (k.reg (a + 1) * 2 ^ 32 + k.reg a : Nat)
      let den : Int := if sgn then k.sreg b else k.reg b
      let bad : Prop := den = 0 ∨ (if sgn then overflows (num.tdiv den) = true else 2 ^ 32 ≤ num.tdiv den)
      (¬bad → ∃ k', coreGoes (.trwDivq n d a b sgn) s n k' ∧ k'.pc = (k.pc + 4) % 2 ^ 32 ∧
        ((k'.reg d : Int) = num.tdiv den % 2 ^ 32) ∧ ((k'.reg (d + 1) : Int) = num.tmod den % 2 ^ 32) ∧
        k'.flagZ = decide (num.tdiv den = 0) ∧ k'.flagN = decide (2 ^ 31 ≤ num.tdiv den % 2 ^ 32) ∧
        k'.flagC = k.flagC ∧ k'.flagV = k.flagV ∧
        (∀ r, r ≠ d → r ≠ d + 1 → k'.reg r = k.reg r) ∧
        k' = { k with pc := k'.pc, win := k'.win, k := k'.k, status := k'.status }) ∧
      (bad → k.trapMode = false → coreGoes (.trwDivq n d a b sgn) s n (k.enterTrap 8 0 0 k.pc)))

/-- The branches of R369, JMP and JR complete without touching a flag or a register: PC goes to PC + 4 · OFS where the
comparison holds, else to PC + 4; JMP goes to PC + 4 · OFS26 and JR to Wa. -/
def Obligations.TrowelBranchesMovePcOnly : Prop :=
  ∀ (s : State) (n a b : Nat), coreReady s n → okReg a = true → okReg b = true →
    let k := coreAt s n
    (∀ off : Nat, off < 2 ^ 16 →
      let goesTo (p : Prop) [Decidable p] : Nat :=
        if p then (((k.pc : Int) + 4 * (if off < 2 ^ 15 then (off : Int) else off - 2 ^ 16)) % 2 ^ 32).toNat
        else (k.pc + 4) % 2 ^ 32
      coreGoes (.trwBeq n a b off) s n { k with pc := goesTo (k.reg a = k.reg b) } ∧
      coreGoes (.trwBne n a b off) s n { k with pc := goesTo (k.reg a ≠ k.reg b) } ∧
      coreGoes (.trwBlt n a b off) s n { k with pc := goesTo (k.sreg a < k.sreg b) } ∧
      coreGoes (.trwBge n a b off) s n { k with pc := goesTo (k.sreg b ≤ k.sreg a) } ∧
      coreGoes (.trwBltu n a b off) s n { k with pc := goesTo (k.reg a < k.reg b) } ∧
      coreGoes (.trwBgeu n a b off) s n { k with pc := goesTo (k.reg b ≤ k.reg a) }) ∧
    (∀ off : Nat, off < 2 ^ 26 → coreGoes (.trwJmp n off) s n
      { k with pc := (((k.pc : Int) + 4 * (if off < 2 ^ 25 then (off : Int) else off - 2 ^ 26)) % 2 ^ 32).toNat }) ∧
    coreGoes (.trwJr n a) s n { k with pc := k.reg a }

/-- CALL, CALLR and RET follow the window table of R353: a call in task mode with DEPTH at most 4 opens the next window with
PC + 4 in its W11, with DEPTH 5 it raises WOVF; a RET with DEPTH at least 1 goes back through W11, with DEPTH 0 it raises
WUNF; in trap mode each of the three collapses the window (R357). -/
def Obligations.TrowelCallsAndReturnsMoveWindows : Prop :=
  ∀ (s : State) (n : Nat), coreReady s n →
    let k := coreAt s n
    let opens (i : Instr) (target : Nat) : Prop :=
      (k.trapMode = false → k.depth ≤ 4 → ∃ k', coreGoes i s n k' ∧ k'.pc = target ∧ k'.cwp = (k.cwp + 1) % 7 ∧
        k'.depth = k.depth + 1 ∧ k'.reg 11 = (k.pc + 4) % 2 ^ 32 ∧ k'.trapMode = false ∧ sameFlags k k' ∧
        (∀ j, j ≠ winIdx ((k.cwp + 1) % 7) 11 → k'.win.get j 0 = k.win.get j 0) ∧
        k' = { k with pc := k'.pc, win := k'.win, status := k'.status }) ∧
      (k.trapMode = false → k.depth = 5 → coreGoes i s n (k.enterTrap 1 0 target k.pc)) ∧
      (k.trapMode = true → exec i s = .next (collapseCore (fresh s) n 4))
    (∀ off : Nat, off < 2 ^ 26 →
      opens (.trwCall n off) (((k.pc : Int) + 4 * (if off < 2 ^ 25 then (off : Int) else off - 2 ^ 26)) % 2 ^ 32).toNat) ∧
    (∀ a, okReg a = true → opens (.trwCallr n a) (k.reg a)) ∧
    (k.trapMode = false → 1 ≤ k.depth → ∃ k', coreGoes (.trwRet n) s n k' ∧ k'.pc = k.reg 11 ∧
      k'.cwp = (k.cwp + 6) % 7 ∧ k'.depth = k.depth - 1 ∧ k'.trapMode = false ∧ sameFlags k k' ∧
      k' = { k with pc := k'.pc, status := k'.status }) ∧
    (k.trapMode = false → k.depth = 0 → coreGoes (.trwRet n) s n (k.enterTrap 2 0 0 k.pc)) ∧
    (k.trapMode = true → exec (.trwRet n) s = .next (collapseCore (fresh s) n 4))

/-- MPY, MAC, MSU and MAC2 complete: the exact product of the halves that HA, HB, UA and UB select (R360) is written, added or
subtracted, MAC2 on both accumulators with the low and the high halves, each under R361: a value outside 40 bits wraps, or
clamps in SAT mode, and raises the accumulator's sticky bit; no other field changes but SV, AVA and AVB. -/
def Obligations.TrowelMultipliesUnderR361 : Prop :=
  ∀ (s : State) (n a b : Nat), coreReady s n → okReg a = true → okReg b = true →
    let k := coreAt s n
    let half (v : Nat) (high uns : Bool) : Int :=
      let h : Nat := if high then v / 2 ^ 16 else v % 2 ^ 16
      if uns = false ∧ 2 ^ 15 ≤ h then (h : Int) - 2 ^ 16 else h
    (∀ (x f : Nat), x ≤ 1 → f < 16 →
      let p := half (k.reg a) (bitAt f 3) (bitAt f 1) * half (k.reg b) (bitAt f 2) (bitAt f 0)
      let old := if x = 0 then k.accA else k.accB
      (∃ k', coreGoes (.trwMpy n x a b f) s n k' ∧ k.accWritten k' x p ∧ sameFlags k k') ∧
      (∃ k', coreGoes (.trwMac n x a b f) s n k' ∧ k.accWritten k' x (old + p) ∧ sameFlags k k') ∧
      (∃ k', coreGoes (.trwMsu n x a b f) s n k' ∧ k.accWritten k' x (old - p) ∧ sameFlags k k')) ∧
    (∀ f : Nat, f < 4 → ∃ k1 k', coreGoes (.trwMac2 n a b f) s n k' ∧ sameFlags k k' ∧
      k.accWritten k1 0 (k.accA + half (k.reg a) false (bitAt f 1) * half (k.reg b) false (bitAt f 0)) ∧
      ({ k1 with pc := k.pc } : Core).accWritten k' 1
        (k.accB + half (k.reg a) true (bitAt f 1) * half (k.reg b) true (bitAt f 0)))

/-- The accumulator instructions other than MVA complete with the operation of R371 on ACC_X under R361, Z and N from the 40-bit
result, C and V as before; ASHL by more than 39, and AADDW and ALDW by more than 8, raise ILLEGAL in task mode. -/
def Obligations.TrowelAccumulatorOperations : Prop :=
  ∀ (s : State) (n x y a imm : Nat), coreReady s n → x ≤ 1 → y ≤ 1 → okReg a = true → imm < 64 →
    let k := coreAt s n
    let accX := if x = 0 then k.accA else k.accB
    let accY := if y = 0 then k.accA else k.accB
    let gives (i : Instr) (v : Int) : Prop := ∃ k', coreGoes i s n k' ∧ k.accWritten k' x v ∧
      (let r := if x = 0 then k'.accA else k'.accB
       k'.flagZ = decide (r = 0) ∧ k'.flagN = decide (r < 0) ∧ k'.flagC = k.flagC ∧ k'.flagV = k.flagV)
    gives (.trwAclr n x) 0 ∧ gives (.trwAmov n x y) accY ∧ gives (.trwAadd n x y) (accX + accY) ∧
    gives (.trwAsub n x y) (accX - accY) ∧ gives (.trwAneg n x) (-accX) ∧
    gives (.trwAshr n x imm) (accX.fdiv (2 ^ imm)) ∧
    (∃ r, isNearest accX imm r ∧ gives (.trwAshrr n x imm) r) ∧
    (imm ≤ 39 → gives (.trwAshl n x imm) (accX * 2 ^ imm)) ∧
    (imm ≤ 8 → gives (.trwAaddw n x a imm) (accX + k.sreg a * 2 ^ imm) ∧ gives (.trwAldw n x a imm) (k.sreg a * 2 ^ imm)) ∧
    (k.trapMode = false →
      (39 < imm → coreGoes (.trwAshl n x imm) s n (k.enterTrap 3 0 (wordA 4 x 0 0 imm) k.pc)) ∧
      (8 < imm → coreGoes (.trwAaddw n x a imm) s n (k.enterTrap 3 0 (wordA 7 x 0 a imm) k.pc) ∧
        coreGoes (.trwAldw n x a imm) s n (k.enterTrap 3 0 (wordA 8 x 0 a imm) k.pc)))

/-- MVA completes as R363 says: in SAT mode it shifts by FIX and clamps; in native mode with AUTO it shifts by the smallest of 0
to 8 that fits and adds the shift to EXP; else it shifts by FIX and keeps the low 32 bits. LAST takes the shift, Z and N follow
the 32-bit result. -/
def Obligations.TrowelMvaAutoscales : Prop :=
  ∀ (s : State) (n d x : Nat), coreReady s n → okReg d = true → x ≤ 1 →
    let k := coreAt s n
    let acc := if x = 0 then k.accA else k.accB
    let fix := min 8 (k.scale / 2 ^ 24 % 16)
    ∃ k' sh r, coreGoes (.trwMva n d x) s n k' ∧ isNearest acc sh r ∧ k'.scale / 2 ^ 16 % 16 = sh ∧
      k'.pc = (k.pc + 4) % 2 ^ 32 ∧ k'.flagC = k.flagC ∧ k'.flagV = k.flagV ∧
      (∀ i, i = 4 ∨ i = 5 ∨ 8 ≤ i → bitAt k'.status i = bitAt k.status i) ∧ k'.scale / 2 ^ 20 = k.scale / 2 ^ 20 ∧
      onlyReg { k with status := k'.status, scale := k'.scale } k' d ∧
      (let gives (v : Int) : Prop := (d ≠ 31 → (k'.reg d : Int) = v % 2 ^ 32) ∧ k'.flagZ = decide (v % 2 ^ 32 = 0) ∧
         k'.flagN = decide (2 ^ 31 ≤ v % 2 ^ 32)
       let exp (c : Nat) := toSigned 16 (c % 2 ^ 16)
       if k.sat = true then
         sh = fix ∧ gives (clampInt (-2 ^ 31) (2 ^ 31 - 1) r) ∧ exp k'.scale = exp k.scale ∧
           bitAt k'.status 7 = (bitAt k.status 7 || overflows r) ∧ bitAt k'.status 6 = bitAt k.status 6
       else if bitAt k.scale 31 = true then
         exp k'.scale = clampInt (-32767) 32767 (exp k.scale + sh) ∧ bitAt k'.status 7 = bitAt k.status 7 ∧ sh ≤ 8 ∧
           (∀ c q, c < sh → isNearest acc c q → overflows q = true) ∧
           (overflows r = false → gives r ∧ bitAt k'.status 6 = bitAt k.status 6) ∧
           (overflows r = true → sh = 8 ∧ gives (2 ^ 31 - 1) ∧ bitAt k'.status 6 = true)
       else
         sh = fix ∧ gives r ∧ exp k'.scale = exp k.scale ∧
           bitAt k'.status 6 = (bitAt k.status 6 || overflows r) ∧ bitAt k'.status 7 = bitAt k.status 7)

/-- A load whose encoding, address and rights are good completes (R370, R379): in instruction, data and common memory LD.B, LD.BU,
LD.H, LD.HU and LD.W read 1, 2 or 4 little-endian bytes and LD.D two words, sign- or zero-extended as they say; the base
register takes the value of its mode; no byte, flag or other register changes. -/
def Obligations.TrowelLoadsReadMemory : Prop :=
  ∀ (s : State) (n d a m p : Nat) (b : Option Nat), coreReady s n →
    let k := coreAt s n
    let word (x w : Nat) : Nat := ((List.range w).map fun i => (memByte s n (x + i)).toNat * 256 ^ i).sum
    let loads (i : Instr) (w : Nat) (v : Int) : Prop :=
      lOk true d a m w = true → k.address a m = .ok (p, b) → k.memCheck .load p w = none → plainMem p = true →
      ∃ k', coreGoes i s n k' ∧ k'.pc = (k.pc + 4) % 2 ^ 32 ∧ (d ≠ 31 → (k'.reg d : Int) = v % 2 ^ 32) ∧
        (∀ x, b = some x → k'.reg a = x % 2 ^ 32) ∧ (∀ r, r ≠ d → (b ≠ none → r ≠ a) → k'.reg r = k.reg r) ∧
        k' = { k with pc := k'.pc, win := k'.win, k := k'.k }
    let sign (w : Nat) (v : Nat) : Int := if 2 ^ (w - 1) ≤ v then (v : Int) - 2 ^ w else v
    loads (.trwLdB n d a m) 1 (sign 8 (word p 1)) ∧ loads (.trwLdBu n d a m) 1 (word p 1) ∧
    loads (.trwLdH n d a m) 2 (sign 16 (word p 2)) ∧ loads (.trwLdHu n d a m) 2 (word p 2) ∧
    loads (.trwLdW n d a m) 4 (word p 4) ∧
    (lOk true d a m 8 = true → k.address a m = .ok (p, b) → k.memCheck .load p 8 = none → plainMem p = true →
      plainMem (p + 4) = true →
      ∃ k', coreGoes (.trwLdD n d a m) s n k' ∧ k'.pc = (k.pc + 4) % 2 ^ 32 ∧ k'.reg d = word p 4 ∧
        k'.reg (d + 1) = word (p + 4) 4 ∧ (∀ x, b = some x → k'.reg a = x % 2 ^ 32) ∧
        (∀ r, r ≠ d → r ≠ d + 1 → (b ≠ none → r ≠ a) → k'.reg r = k.reg r) ∧
        k' = { k with pc := k'.pc, win := k'.win, k := k'.k })

/-- A store whose encoding, address and rights are good completes (R370, R379): in instruction, data and common memory ST.B, ST.H
and ST.W write the low 1, 2 or 4 bytes of Ws at the address that the mode gives, ST.D two words; every other byte of the
core's memories and every other core is as before, and of the core only PC and the base register change. -/
def Obligations.TrowelStoresWriteMemory : Prop :=
  ∀ (s : State) (n d a m p : Nat) (b : Option Nat), coreReady s n →
    let k := coreAt s n
    let stores (i : Instr) (w : Nat) (v : Nat) : Prop :=
      lOk false d a m w = true → k.address a m = .ok (p, b) → k.memCheck .store p w = none → plainMem p = true →
      (w = 8 → plainMem (p + 4) = true) →
      ∃ t, exec i s = .next t ∧ (∀ j, j < w → (memByte t n (p + j)).toNat = v / 256 ^ j % 256) ∧
        (∀ x, plainMem x = true → ¬(p ≤ x ∧ x < p + w) → memByte t n x = memByte s n x) ∧
        (∀ j, j ≠ n → coreAt t j = coreAt s j) ∧ t = { s with cores := t.cores, common := t.common, out := [] } ∧
        (let k' := coreAt t n
         k'.pc = (k.pc + 4) % 2 ^ 32 ∧ (∀ x, b = some x → k'.reg a = x % 2 ^ 32) ∧
           (∀ r, (b ≠ none → r ≠ a) → k'.reg r = k.reg r) ∧
           k' = { k with pc := k'.pc, win := k'.win, k := k'.k, imem := k'.imem, dmem := k'.dmem })
    stores (.trwStB n d a m) 1 (k.reg d) ∧ stores (.trwStH n d a m) 2 (k.reg d) ∧ stores (.trwStW n d a m) 4 (k.reg d) ∧
    stores (.trwStD n d a m) 8 (k.reg d + 2 ^ 32 * k.reg (d + 1))

/-- CAS on a 4-aligned word of common memory that the core may load and store completes (R370): it stores Wb there exactly when
the word equals Wd, leaves the old word in Wd and sets Z by the comparison; every other byte, flag and register stays. An
address that is not 4-aligned raises ALIGN in task mode, wherever it points. -/
def Obligations.TrowelCasExchangesOnEquality : Prop :=
  ∀ (s : State) (n d a b : Nat), coreReady s n → okReg d = true → okReg a = true → okReg b = true →
    let k := coreAt s n
    let p := k.reg a
    let old := ((List.range 4).map fun i => (s.common.get (p + i) 0).toNat * 256 ^ i).sum
    (p % 4 = 0 → 0x400000 ≤ p → p < 0x800000 → (k.trapMode = true ∨ ∀ i, i < 4 → k.granted .load (p + i) = true ∧ k.granted .store (p + i) = true) →
      ∃ t, exec (.trwCas n d a b) s = .next t ∧
        (∀ i, i < 4 → (t.common.get (p + i) 0).toNat = (if old = k.reg d then k.reg b else old) / 256 ^ i % 256) ∧
        (∀ x, ¬(p ≤ x ∧ x < p + 4) → t.common.get x 0 = s.common.get x 0) ∧
        (∀ j, j ≠ n → coreAt t j = coreAt s j) ∧ t = { s with cores := t.cores, common := t.common, out := [] } ∧
        (let k' := coreAt t n
         k'.pc = (k.pc + 4) % 2 ^ 32 ∧ (d ≠ 31 → k'.reg d = old) ∧ k'.flagZ = decide (old = k.reg d) ∧
           k'.flagN = k.flagN ∧ k'.flagC = k.flagC ∧ k'.flagV = k.flagV ∧ onlyReg k k' d)) ∧
    (p % 4 ≠ 0 → k.trapMode = false → coreGoes (.trwCas n d a b) s n (k.enterTrap 6 0 p k.pc))

/-- The traps of R354 to R357. In task mode TRAP saves the address of the next instruction, and BREAK (with DEBUG 0) and an illegal
word that of the instruction, in TPC, and STATUS in TSTATUS; each sets TCAUSE and TADDR as R355 says, TRAP := 1, IE := 0,
CWP := 7 and PC := VBASE + 0x40 · CAUSE. EVENT_TRAP does the same for the lowest admitted event. In trap mode each of the
three is a double trap: the core halts with cause 5. RETT in trap mode restores STATUS and PC, and raises PRIV in task mode.
A word that R367 does not call illegal is a command of its core, which the layouts of R366 give: the clauses name one word of
each layout.
Where these rules leave a corner open, the statement speaks of the
model's choice, log entry 26. -/
def Obligations.TrowelTrapsSaveAndReturnRestores : Prop :=
  ∀ (s : State) (n : Nat),
    let k := coreAt s n
    let traps (i : Instr) (cause addr tpc : Nat) : Prop := ∃ k', coreGoes i s n k' ∧ k'.tpc = tpc ∧ k'.tstatus = k.status ∧
      k'.tcause = cause ∧ k'.taddr = addr ∧ k'.trapMode = true ∧ k'.ie = false ∧ k'.cwp = 7 ∧ k'.depth = k.depth ∧
      k'.sat = k.sat ∧ k'.status % 256 = k.status % 256 ∧ k'.pc = (k.vbase + 0x40 * cause) % 2 ^ 32 ∧
      k' = { k with tpc := k'.tpc, tstatus := k'.tstatus, tcause := k'.tcause, taddr := k'.taddr, status := k'.status, pc := k'.pc }
    let doubleTrap (i : Instr) : Prop := ∃ t, exec i s = .next t ∧ rd t (TROWEL_CORE_STATUS.STATE n) = 3 ∧
      rd t (TROWEL_CORE_STATUS.HALT_CAUSE n) = 5 ∧ coreAt t n = k ∧
      t.rakeIn = s.rakeIn ++ [{ kind := 10, scope := .dev, arg := n, loc := s.phys.get n n, cycle := s.time.c / 5 }] ∧
      onlyRegs [TROWEL_CORE_STATUS.STATE n, TROWEL_CORE_STATUS.HALT_CAUSE n, TROWEL_CORE_CNT.COLLAPSES n]
        { s with rakeIn := t.rakeIn } t
    (coreReady s n →
      (∀ imm : Nat, imm < 64 → (k.trapMode = false → traps (.trwTrap n imm) 9 imm ((k.pc + 4) % 2 ^ 32)) ∧
        (k.trapMode = true → doubleTrap (.trwTrap n imm))) ∧
      (rd s (TROWEL_CORE_CTRL.DEBUG n) = 0 → (k.trapMode = false → traps (.trwBreak n) 11 0 k.pc) ∧
        (k.trapMode = true → doubleTrap (.trwBreak n))) ∧
      (∀ w : Word, illegalWord w.toNat = true → (k.trapMode = false → traps (.illegalInstruction n w) 3 w.toNat k.pc) ∧
        (k.trapMode = true → doubleTrap (.illegalInstruction n w))) ∧
      (k.trapMode = true → ∃ k', coreGoes (.trwRett n) s n k' ∧ k'.pc = k.tpc ∧
        (∀ i, (i < 8 ∨ 23 ≤ i) → bitAt k'.status i = bitAt k.tstatus i) ∧ k' = { k with pc := k'.pc, status := k'.status }) ∧
      (k.trapMode = false → traps (.trwRett n) 4 (wordS 2 0) k.pc)) ∧
    (∀ e, coreRuns s n = true → k.ie = true → k.trapMode = false → e < 64 →
      (bitAt k.evtPend e = true ∧ bitAt k.evtMask e = true) →
      (∀ j, j < e → ¬(bitAt k.evtPend j = true ∧ bitAt k.evtMask j = true)) → traps (.eventTrap n) 10 e k.pc) ∧
    (∀ w : Word, trowelCommand n w.toNat = none ↔ illegalWord w.toNat = true) ∧
    (∀ d a b : Nat, okReg d = true → okReg a = true → okReg b = true →
      trowelCommand n (0x01 * 2 ^ 26 + d * 2 ^ 21 + a * 2 ^ 16 + b * 2 ^ 11 + 0x02) = some (.trwSub n d a b) ∧
      (∀ imm : Nat, imm < 2 ^ 16 → trowelCommand n (0x02 * 2 ^ 26 + d * 2 ^ 21 + a * 2 ^ 16 + imm) = some (.trwAddi n d a imm)) ∧
      (∀ x f : Nat, x < 2 → f < 16 →
        trowelCommand n (0x21 * 2 ^ 26 + x * 2 ^ 25 + f * 2 ^ 21 + a * 2 ^ 16 + b * 2 ^ 11) = some (.trwMac n x a b f)) ∧
      (∀ x imm : Nat, x < 2 → imm ≤ 8 →
        trowelCommand n (0x24 * 2 ^ 26 + x * 2 ^ 25 + a * 2 ^ 19 + imm * 2 ^ 13 + 7) = some (.trwAaddw n x a imm)) ∧
      (∀ sys : Nat, sys ≤ 27 → trowelCommand n (0x30 * 2 ^ 26 + d * 2 ^ 21 + sys * 2 ^ 8) = some (.trwMvs n d sys))) ∧
    (∀ o : Nat, o < 2 ^ 26 → trowelCommand n (0x0E * 2 ^ 26 + o) = some (.trwJmp n o)) ∧
    (∀ imm : Nat, imm < 64 → trowelCommand n (0x32 * 2 ^ 26 + imm * 2 ^ 20 + 1) = some (.trwTrap n imm))

/-- NOP, WAIT, EVCLR, SEV, HALT and the BREAK of a debugged core complete (R372, R376 to R378): WAIT with an admitted event goes on
and without one puts the core in STATE 2 with PC at the WAIT; EVCLR clears its event; SEV of an event up to 55 makes it pending
in every running core where it was not; HALT in trap mode halts with cause 3 and reports a kind-13 event; BREAK with DEBUG 1
halts with cause 2.
Where these rules leave a corner open, the statement speaks of the
model's choice, log entry 26. -/
def Obligations.TrowelWaitEventsAndHalts : Prop :=
  ∀ (s : State) (n : Nat), coreReady s n →
    let k := coreAt s n
    let next := { k with pc := (k.pc + 4) % 2 ^ 32 }
    let st := TROWEL_CORE_STATUS.STATE n
    let cause := TROWEL_CORE_STATUS.HALT_CAUSE n
    coreGoes (.trwNop n) s n next ∧
    (k.admitted = true → coreGoes (.trwWait n) s n next) ∧
    (k.admitted = false → ∃ t, exec (.trwWait n) s = .next t ∧ rd t st = 2 ∧ onlyRegs [st] s t) ∧
    (∀ e : Nat, e < 64 → ∃ k', coreGoes (.trwEvclr n e) s n k' ∧ (∀ i, bitAt k'.evtPend i = (bitAt k.evtPend i && decide (i ≠ e))) ∧
      k' = { next with evtPend := k'.evtPend }) ∧
    (∀ e : Nat, e ≤ 55 → ∃ t, exec (.trwSev n e) s = .next t ∧ (coreAt t n).pc = next.pc ∧
      (∀ j, j < cores s → rd s (TROWEL_CORE_STATUS.STATE j) = 1 →
        (∀ i, bitAt (coreAt t j).evtPend i = (bitAt (coreAt s j).evtPend i || decide (i = e))) ∧
        (∀ i, bitAt (coreAt t j).evtOvr i = (bitAt (coreAt s j).evtOvr i || (decide (i = e) && bitAt (coreAt s j).evtPend e)))) ∧
      (∀ j, rd s (TROWEL_CORE_STATUS.STATE j) ≠ 1 → rd s (TROWEL_CORE_STATUS.STATE j) ≠ 2 → coreAt t j = coreAt s j) ∧
      t = { s with regs := t.regs, cores := t.cores, out := [] }) ∧
    (∀ e : Nat, 56 ≤ e → e < 64 → coreGoes (.trwSev n e) s n next) ∧
    (k.trapMode = true → ∃ t, exec (.trwHalt n) s = .next t ∧ rd t st = 3 ∧ rd t cause = 3 ∧ coreAt t n = next ∧
      (∀ j, j ≠ n → coreAt t j = coreAt s j) ∧
      t.rakeIn = s.rakeIn ++ [{ kind := 13, scope := .dev, arg := n, loc := s.phys.get n n, cycle := s.time.c / 5 }] ∧
      onlyRegs [st, cause] { s with cores := t.cores, rakeIn := t.rakeIn } t) ∧
    (rd s (TROWEL_CORE_CTRL.DEBUG n) = 1 → ∃ t, exec (.trwBreak n) s = .next t ∧ rd t st = 3 ∧ rd t cause = 2 ∧
      coreAt t n = next ∧ (∀ j, j ≠ n → coreAt t j = coreAt s j) ∧ onlyRegs [st, cause] { s with cores := t.cores } t)

/-- SPILLW and FILLW move one window between the ring and the stack below K7 (R353). In trap mode with TDEPTH at least 1, and with
48 writable bytes of data or common memory below K7, SPILLW lowers K7 by 48, stores W0 to W11 of window
(TCWP − TDEPTH) mod 7 there, W0 lowest, and lowers TDEPTH; FILLW, with TDEPTH at most 4, does the reverse for window
(TCWP − TDEPTH − 1) mod 7. With TDEPTH 0 or 5 each is a double trap; in task mode each raises PRIV. -/
def Obligations.TrowelSpillsAndFillsWindows : Prop :=
  ∀ (s : State) (n : Nat), coreReady s n →
    let k := coreAt s n
    let base := (k.reg 23 + 2 ^ 32 - 48) % 2 ^ 32
    let word (t : State) (x : Nat) : Nat := ((List.range 4).map fun i => (memByte t n (x + i)).toNat * 256 ^ i).sum
    let low (x : Nat) : Prop := (0x100000 ≤ x ∧ x + 48 ≤ 0x180000) ∨ (0x400000 ≤ x ∧ x + 48 ≤ 0x800000)
    let double (i : Instr) : Prop := ∃ t, exec i s = .next t ∧ rd t (TROWEL_CORE_STATUS.STATE n) = 3 ∧
      rd t (TROWEL_CORE_STATUS.HALT_CAUSE n) = 5 ∧ coreAt t n = k
    (k.trapMode = true → 1 ≤ k.tdepth → k.tdepth ≤ 5 → low base → ∃ t, exec (.trwSpillw n) s = .next t ∧
      (∀ i, i < 12 → word t (base + 4 * i) = k.win.get (12 * ((k.tcwp + 14 - k.tdepth) % 7) + i) 0 % 2 ^ 32) ∧
      (∀ x, plainMem x = true → ¬(base ≤ x ∧ x < base + 48) → memByte t n x = memByte s n x) ∧
      (∀ j, j ≠ n → coreAt t j = coreAt s j) ∧ t = { s with cores := t.cores, common := t.common, out := [] } ∧
      (let k' := coreAt t n
       k'.reg 23 = base ∧ k'.tdepth = k.tdepth - 1 ∧ k'.tcwp = k.tcwp ∧ k'.pc = (k.pc + 4) % 2 ^ 32 ∧ k'.status = k.status ∧
         k'.win = k.win ∧ (∀ j, j < 7 → k'.k.get j 0 = k.k.get j 0) ∧
         k' = { k with pc := k'.pc, k := k'.k, tstatus := k'.tstatus, dmem := k'.dmem })) ∧
    (k.trapMode = true → k.tdepth ≤ 4 → low (k.reg 23) → ∃ k', coreGoes (.trwFillw n) s n k' ∧
      (∀ i, i < 12 → k'.win.get (12 * ((k.tcwp + 13 - k.tdepth) % 7) + i) 0 = word s (k.reg 23 + 4 * i)) ∧
      (∀ j, j / 12 ≠ (k.tcwp + 13 - k.tdepth) % 7 → k'.win.get j 0 = k.win.get j 0) ∧ k'.reg 23 = k.reg 23 + 48 ∧
      k'.tdepth = k.tdepth + 1 ∧ k'.tcwp = k.tcwp ∧ k'.pc = (k.pc + 4) % 2 ^ 32 ∧ (∀ j, j < 7 → k'.k.get j 0 = k.k.get j 0) ∧
      k' = { k with pc := k'.pc, win := k'.win, k := k'.k, tstatus := k'.tstatus }) ∧
    (k.trapMode = true → (k.tdepth = 0 → double (.trwSpillw n)) ∧ (k.tdepth = 5 → double (.trwFillw n))) ∧
    (k.trapMode = false → coreGoes (.trwSpillw n) s n (k.enterTrap 4 0 (wordS 8 0) k.pc) ∧
      coreGoes (.trwFillw n) s n (k.enterTrap 4 0 (wordS 9 0) k.pc))

/-- MVS and MSV reach every system register of R351 with its rights: MVS puts its value in Wd (a read of CYCLE_LO
the low word of the cycle counter, whose high word it latches; how the counter runs is the model's reading, log entry 10), MSV writes the bits that R350, R351, R364 and R381 make writable; an access
that the table marks "trap" raises PRIV in task mode, and a number that it does not list raises ILLEGAL. -/
def Obligations.TrowelSystemRegisterRights : Prop :=
  ∀ (s : State) (n r i : Nat), coreReady s n → okReg r = true → i < 256 →
    let k := coreAt s n
    let listed := i ≤ 27 ∨ (32 ≤ i ∧ i ≤ 47)
    let guarded := (2 ≤ i ∧ i ≤ 6) ∨ 32 ≤ i
    (listed → i ≠ 20 → (guarded → k.trapMode = true) → ∃ k' v, coreGoes (.trwMvs n r i) s n k' ∧
      (r ≠ 31 → k'.reg r = v % 2 ^ 32) ∧ k'.status = k.status ∧ k'.pc = (k.pc + 4) % 2 ^ 32 ∧ onlyReg k k' r ∧
      (i = 0 → v = k.status) ∧ (i = 1 → v = k.scale) ∧ (i = 2 → v = k.tpc) ∧ (i = 3 → v = k.tstatus) ∧ (i = 4 → v = k.tcause) ∧
      (i = 5 → v = k.taddr) ∧ (i = 6 → v = k.vbase) ∧ (i = 7 → v = n) ∧ (8 ≤ i ∧ i ≤ 11 → v = k.cbBase.get (i - 8) 0) ∧
      (12 ≤ i ∧ i ≤ 15 → v = k.cbLen.get (i - 12) 0) ∧ (i = 16 → (v : Int) = k.accA % 2 ^ 32) ∧
      (i = 17 → (v : Int) = k.accA.fdiv (2 ^ 32) % 2 ^ 32) ∧ (i = 18 → (v : Int) = k.accB % 2 ^ 32) ∧
      (i = 19 → (v : Int) = k.accB.fdiv (2 ^ 32) % 2 ^ 32) ∧ (i = 21 → v = k.cycHi) ∧ (i = 22 → v = k.evtPend % 2 ^ 32) ∧
      (i = 23 → v = k.evtPend / 2 ^ 32 % 2 ^ 32) ∧ (i = 24 → v = k.evtMask % 2 ^ 32) ∧ (i = 25 → v = k.evtMask / 2 ^ 32 % 2 ^ 32) ∧
      (i = 26 → v = k.evtOvr % 2 ^ 32) ∧ (i = 27 → v = k.evtOvr / 2 ^ 32 % 2 ^ 32) ∧
      (32 ≤ i ∧ i ≤ 39 → v = k.prb.get (i - 32) 0) ∧ (40 ≤ i ∧ i ≤ 47 → v = k.prl.get (i - 40) 0)) ∧
    (i = 20 → ∃ t, exec (.trwMvs n r i) s = .next t ∧ (coreAt t n).pc = (k.pc + 4) % 2 ^ 32 ∧
      (coreAt t n).status = k.status ∧ (∀ j, j ≠ n → coreAt t j = coreAt s j) ∧
      (r ≠ 31 → (coreAt t n).reg r = cycleCount s k % 2 ^ 32) ∧ (coreAt t n).cycHi = cycleCount s k / 2 ^ 32 ∧
      onlyReg { k with cycHi := (coreAt t n).cycHi } (coreAt t n) r ∧ t = { s with cores := t.cores, out := [] }) ∧
    (listed → (guarded ∨ i = 24 ∨ i = 25 → k.trapMode = true) → ∃ k', coreGoes (.trwMsv n i r) s n k' ∧
      k'.pc = (k.pc + 4) % 2 ^ 32 ∧ (∀ q, k'.reg q = k.reg q) ∧
      (let v := k.reg r
       (i = 0 → (∀ j, j < 8 ∨ j = 29 → bitAt k'.status j = bitAt v j) ∧ k'.ie = (if k.trapMode = true then bitAt v 30 else k.ie) ∧
         k'.trapMode = k.trapMode ∧ k'.cwp = k.cwp ∧ k'.depth = k.depth) ∧
       (i ≠ 0 → k'.status = k.status) ∧
       (i = 1 → k'.scale % 2 ^ 16 = v % 2 ^ 16 ∧ k'.scale / 2 ^ 16 % 16 = k.scale / 2 ^ 16 % 16 ∧
         k'.scale / 2 ^ 24 % 16 = v / 2 ^ 24 % 16 ∧ bitAt k'.scale 31 = bitAt v 31) ∧
       (i = 2 → k'.tpc = v) ∧ (i = 3 → k'.tstatus = v) ∧ (i = 4 → k'.tcause = v % 2 ^ 16) ∧ (i = 5 → k'.taddr = v) ∧
       (i = 6 → k'.vbase = v / 4096 * 4096) ∧ (8 ≤ i ∧ i ≤ 11 → k'.cbBase.get (i - 8) 0 = v) ∧
       (12 ≤ i ∧ i ≤ 15 → k'.cbLen.get (i - 12) 0 = v % 2 ^ 20) ∧
       (i = 16 → k'.accA % 2 ^ 32 = v) ∧ (i = 17 → k'.accA.fdiv (2 ^ 32) % 256 = v % 256) ∧ (i = 18 → k'.accB % 2 ^ 32 = v) ∧
       (i = 19 → k'.accB.fdiv (2 ^ 32) % 256 = v % 256) ∧
       (i = 7 ∨ (20 ≤ i ∧ i ≤ 23) → k' = { k with pc := k'.pc }) ∧
       (i = 24 → ∀ j, j < 32 → bitAt k'.evtMask j = bitAt v j) ∧ (i = 25 → ∀ j, j < 32 → bitAt k'.evtMask (32 + j) = bitAt v j) ∧
       (i = 26 → ∀ j, j < 32 → bitAt k'.evtOvr j = (bitAt k.evtOvr j && !bitAt v j)) ∧
       (i = 27 → ∀ j, j < 32 → bitAt k'.evtOvr (32 + j) = (bitAt k.evtOvr (32 + j) && !bitAt v j)) ∧
       (32 ≤ i ∧ i ≤ 39 → k'.prb.get (i - 32) 0 = v / 64 * 64) ∧
       (40 ≤ i ∧ i ≤ 47 → k'.prl.get (i - 40) 0 = v / 64 * 64 + v % 8) ∧
       k' = { k with
         pc := k'.pc, status := k'.status, scale := if i = 1 then k'.scale else k.scale, tpc := if i = 2 then v else k.tpc
         tstatus := if i = 3 then v else k.tstatus, tcause := if i = 4 then k'.tcause else k.tcause
         taddr := if i = 5 then v else k.taddr, vbase := if i = 6 then k'.vbase else k.vbase
         cbBase := if 8 ≤ i ∧ i ≤ 11 then k'.cbBase else k.cbBase, cbLen := if 12 ≤ i ∧ i ≤ 15 then k'.cbLen else k.cbLen
         accA := if i = 16 ∨ i = 17 then k'.accA else k.accA, accB := if i = 18 ∨ i = 19 then k'.accB else k.accB
         evtMask := if i = 24 ∨ i = 25 then k'.evtMask else k.evtMask
         evtOvr := if i = 26 ∨ i = 27 then k'.evtOvr else k.evtOvr
         prb := if 32 ≤ i ∧ i ≤ 39 then k'.prb else k.prb, prl := if 40 ≤ i then k'.prl else k.prl }) ) ∧
    (k.trapMode = false → guarded → listed →
      coreGoes (.trwMvs n r i) s n (k.enterTrap 4 0 (wordV 0x30 r i) k.pc) ∧
        coreGoes (.trwMsv n i r) s n (k.enterTrap 4 0 (wordV 0x31 r i) k.pc)) ∧
    (k.trapMode = false → ¬listed →
      coreGoes (.trwMvs n r i) s n (k.enterTrap 3 0 (wordV 0x30 r i) k.pc) ∧
        coreGoes (.trwMsv n i r) s n (k.enterTrap 3 0 (wordV 0x31 r i) k.pc))

/-- The driver's control of a core (R349, R385, R386): HALT stops a running or waiting core with cause 1 and leaves its record;
clearing HALT sends a core that HALT, BREAK or a HALT instruction stopped on at its PC; RESTART puts a core that is not fenced
in STATE 4; and a core that restarts begins with the registers of R349, its cycle counter at 0 (R351), and the memories of the active page. -/
def Obligations.TrowelCoreControl : Prop :=
  ∀ (s : State) (n : Nat), n < cores s →
    let st := TROWEL_CORE_STATUS.STATE n
    let cause := TROWEL_CORE_STATUS.HALT_CAUSE n
    let halt := TROWEL_CORE_CTRL.HALT n
    (rd s st = 1 ∨ rd s st = 2 → ∃ t, exec (.coreHalt n) s = .next t ∧ rd t st = 3 ∧ rd t cause = 1 ∧ rd t halt = 1 ∧
      onlyRegs [st, cause, halt] s t) ∧
    (rd s st = 3 → 1 ≤ rd s cause → rd s cause ≤ 3 → ∃ t, exec (.coreResume n) s = .next t ∧ rd t st = 1 ∧ rd t cause = 0 ∧
      rd t halt = 0 ∧ onlyRegs [st, cause, halt] s t) ∧
    (rd s st = 3 → 4 ≤ rd s cause → ∃ t, exec (.coreResume n) s = .next t ∧ rd t st = 3 ∧ onlyRegs [halt] s t) ∧
    (rd s st ≠ 5 → ∃ t, exec (.coreRestart n) s = .next t ∧ rd t st = 4 ∧ rd t cause = 0 ∧
      rd t (TROWEL_CORE_CTRL.RESTART n) = 1 ∧ onlyRegs [st, cause, TROWEL_CORE_CTRL.RESTART n] s t) ∧
    (rd s st = 5 → exec (.coreRestart n) s = .next { s with out := [] }) ∧
    (rd s st = 4 → (activePage s).imem.has n = true → rd s halt = 0 → ∃ t, exec (.coreStart n) s = .next t ∧ rd t st = 1 ∧
      rd t cause = 0 ∧ rd t (TROWEL_CORE_CTRL.RESTART n) = 0 ∧
      coreAt t n = { imem := (activePage s).imem.get n [], dmem := (activePage s).dmem.get n [], cyc0 := trowelCycles s } ∧
      cycleCount s (coreAt t n) = 0 ∧
      (coreAt t n).pc = 0 ∧ (coreAt t n).trapMode = true ∧ (coreAt t n).ie = false ∧ (coreAt t n).cwp = 7 ∧
      (coreAt t n).depth = 0 ∧ (coreAt t n).reg 23 = 0x180000 ∧ (coreAt t n).scale = 0x80000000 ∧
      (∀ j, j ≠ n → coreAt t j = coreAt s j) ∧
      onlyRegs [st, cause, TROWEL_CORE_CTRL.RESTART n] { s with cores := t.cores } t)

/-- TROWEL_MEM_DATA advances OFFSET and reaches the memory of a halted core, and otherwise reads 0, ignores the write and sets
MEM_REFUSED (R385); TROWEL_EVT.GO pulses its event, up to 55, in every running core and wakes a waiting one that admits it
(R376 to R378). -/
def Obligations.TrowelHostWindowAndEvents : Prop :=
  ∀ (s : State) (v : Word),
    let n := rd s TROWEL_MEM_ADDR.CORE
    let sp := rd s TROWEL_MEM_ADDR.SPACE
    let o := rd s TROWEL_MEM_ADDR.OFFSET
    let k := coreAt s n
    let a := (if sp = 0 then o % 65536 else o) * 4
    let mem (k : Core) := if sp = 0 then k.imem else k.dmem
    let on := if sp = 0 then (o + 1) % 65536 else (o + 1) % 131072
    (n < cores s → rd s (TROWEL_CORE_STATUS.STATE n) = 3 →
      (∃ t, exec (.trowelMemAccess false v) s = .next t ∧
        t.readData.toNat = ((List.range 4).map fun i => ((mem k).get (a + i) 0).toNat * 256 ^ i).sum ∧
        rd t TROWEL_MEM_ADDR.OFFSET = on ∧
        onlyRegs [TROWEL_MEM_ADDR.OFFSET] { s with readData := t.readData } t) ∧
      (∃ t, exec (.trowelMemAccess true v) s = .next t ∧
        (∀ i, i < 4 → ((mem (coreAt t n)).get (a + i) 0).toNat = v.toNat / 256 ^ i % 256) ∧
        (∀ x, ¬(a ≤ x ∧ x < a + 4) → (mem (coreAt t n)).get x 0 = (mem k).get x 0) ∧
        rd t TROWEL_MEM_ADDR.OFFSET = on ∧
        (∀ j, j ≠ n → coreAt t j = coreAt s j) ∧
        (coreAt t n = if sp = 0 then { k with imem := (coreAt t n).imem } else { k with dmem := (coreAt t n).dmem }) ∧
        onlyRegs [TROWEL_MEM_ADDR.OFFSET] { s with cores := t.cores } t)) ∧
    (n < cores s → rd s (TROWEL_CORE_STATUS.STATE n) ≠ 3 →
      (∃ t, exec (.trowelMemAccess false v) s = .next t ∧ t.readData = 0 ∧ rd t (TROWEL_CORE_STATUS.MEM_REFUSED n) = 1 ∧
        rd t TROWEL_MEM_ADDR.OFFSET = on ∧
        onlyRegs [TROWEL_MEM_ADDR.OFFSET, TROWEL_CORE_STATUS.MEM_REFUSED n] { s with readData := 0 } t) ∧
      (∃ t, exec (.trowelMemAccess true v) s = .next t ∧ rd t (TROWEL_CORE_STATUS.MEM_REFUSED n) = 1 ∧
        rd t TROWEL_MEM_ADDR.OFFSET = on ∧ onlyRegs [TROWEL_MEM_ADDR.OFFSET, TROWEL_CORE_STATUS.MEM_REFUSED n] s t)) ∧
    (let e := v.toNat % 64
     2 ^ 31 ≤ v.toNat → ∃ t, exec (.trowelEvtGo v) s = .next t ∧ rd t TROWEL_EVT.EVENT = e ∧ rd t TROWEL_EVT.GO = rd s TROWEL_EVT.GO ∧
      (e ≤ 55 → ∀ j, j < cores s →
        (rd s (TROWEL_CORE_STATUS.STATE j) = 1 ∨ rd s (TROWEL_CORE_STATUS.STATE j) = 2 →
          (∀ i, bitAt (coreAt t j).evtPend i = (bitAt (coreAt s j).evtPend i || decide (i = e)))) ∧
        (rd s (TROWEL_CORE_STATUS.STATE j) = 2 → bitAt (coreAt s j).evtMask e = true →
          rd t (TROWEL_CORE_STATUS.STATE j) = 1 ∧ (coreAt t j).pc = ((coreAt s j).pc + 4) % 2 ^ 32)) ∧
      (56 ≤ e → onlyRegs [TROWEL_EVT.EVENT] s t))

/-- The P-384 assist (R384) and device registers (R383). A running core's write of P384_CMD starts commands 1 to 4 while the assist
is idle and only makes RESULT 3 while it is busy; command 1 ends with a new key pair, command 3 with RESULT 1 exactly for a
valid signature, command 4 with a signature of the hash under the unit's identity key; command 2 with a held key, a peer key on the curve and
two different slots hands kek and the two tending keys of R195 to the vault, one load after the other, and with anything else
ends with RESULT 2. A load or store of a device register is the register access by that core.
Where these rules leave a corner open, the statement speaks of the
model's choice, log entries 9 and 26. -/
def Obligations.TrowelAssistAndDeviceRegisters : Prop :=
  ∀ (s : State) (n : Nat),
    let pub (o l : Nat) := p384Bytes s o l
    (coreRuns s n = true → s.p384.busy = false →
      exec (.p384Generate n) s = .next { s with p384 := { s.p384 with cmd := 1, busy := true, result := 0 }, out := [] } ∧
      exec (.p384Ecdh n) s = .next { s with p384 := { s.p384 with cmd := 2, busy := true, result := 0 }, out := [] } ∧
      exec (.p384Verify n) s = .next { s with p384 := { s.p384 with cmd := 3, busy := true, result := 0 }, out := [] } ∧
      exec (.p384Sign n) s = .next { s with p384 := { s.p384 with cmd := 4, busy := true, result := 0 }, out := [] }) ∧
    (coreRuns s n = true → s.p384.busy = true → ∀ i ∈ [Instr.p384Generate n, .p384Ecdh n, .p384Verify n, .p384Sign n],
      exec i s = .next { s with p384 := { s.p384 with result := 3 }, out := [] }) ∧
    (s.p384.busy = true →
      (s.p384.cmd = 1 → ∃ t d, exec .p384Complete s = .next t ∧ 1 ≤ d ∧ d < p384N ∧ t.p384.eph = some d ∧
        p384Bytes t 0 97 = pubOf d ∧ t.p384.busy = false ∧ t.p384.result = 1 ∧
        t = { s with p384 := t.p384, freeCtr := t.freeCtr, out := [] }) ∧
      (s.p384.cmd = 2 → s.p384.eph = none → ∃ t, exec .p384Complete s = .next t ∧ t.p384.busy = false ∧ t.p384.result = 2 ∧
        t = { s with p384 := t.p384, out := [] }) ∧
      (∀ d, s.p384.cmd = 2 → s.p384.eph = some d →
        let down := beNat (p384Bytes s 288 2)
        let up := beNat (p384Bytes s 290 2)
        (ecdhX d (pub 0 97) = none ∨ down = up ∨ 2 ^ 14 ≤ down ∨ 2 ^ 14 ≤ up → ∃ t, exec .p384Complete s = .next t ∧ t.p384.busy = false ∧
          t.p384.result = 2 ∧ t.p384.data = s.p384.data ∧ t = { s with p384 := t.p384, out := [] }) ∧
        (∀ z, ecdhX d (pub 0 97) = some z → down ≠ up → down < 2 ^ 14 → up < 2 ^ 14 → s.cipher.loads = [] → s.cipher.wait = [] →
          let key (label : String) := hkdfExpand (hmac384 (pub 128 48) z) (ascii label) 32
          ∃ t, exec .p384Complete s = .next t ∧ t.p384.busy = false ∧ t.p384.result = 1 ∧ rd t CIPHER_STATUS.KEK_VALID = 1 ∧
            p384Bytes t 0 292 = p384Bytes s 0 292 ∧
            t.cipher = { s.cipher with
              kek := some (key "yaldy kek")
              loads := [{ slot := down, use := 0, key := key "yaldy tend down", tending := true, msg := none }]
              wait := [{ slot := up, use := 1, wrapped := [], msg := none, tend := some (key "yaldy tend up") }] } ∧
            onlyRegs [CIPHER_STATUS.KEK_VALID] { s with cipher := t.cipher, p384 := t.p384, freeCtr := t.freeCtr } t)) ∧
      (s.p384.cmd = 3 → ∃ t, exec .p384Complete s = .next t ∧ t.p384.busy = false ∧
        (t.p384.result = 1 ↔ ecdsaVerify (pub 0 97) (pub 128 48) (pub 192 96) = true) ∧
        (t.p384.result = 1 ∨ t.p384.result = 2) ∧ t.p384.data = s.p384.data ∧ t = { s with p384 := t.p384, out := [] }) ∧
      (s.p384.cmd = 4 → ∃ t q, exec .p384Complete s = .next t ∧ t.p384.busy = false ∧ t.p384.result = 1 ∧ 1 ≤ q ∧ q < p384N ∧
        p384Bytes t 192 96 = (ecdsaSign s.fuses.idPriv q (pub 128 48)) ∧
        t = { s with p384 := t.p384, freeCtr := t.freeCtr, out := [] })) ∧
    (∀ (d a m p : Nat) (b : Option Nat), coreReady s n → lOk true d a m 4 = true → (coreAt s n).address a m = .ok (p, b) →
      (coreAt s n).memCheck .load p 4 = none → isDev p = true →
      exec (.trwLdW n d a m) s =
        (let x := readAt (.trowel n) (p - 0x10000000) { s with out := [] }
         .next (coreOn n (fun k => (k.setReg d x.1).setBase a b) x.2))) ∧
    (∀ (d a m p : Nat) (b : Option Nat), coreReady s n → lOk false d a m 4 = true → (coreAt s n).address a m = .ok (p, b) →
      (coreAt s n).memCheck .store p 4 = none → isDev p = true →
      exec (.trwStW n d a m) s =
        (let t := applyWrite (.trowel n) (p - 0x10000000) (BitVec.ofNat 32 ((coreAt s n).reg d)) { s with out := [] }
         .next (coreOn n (fun k => k.setBase a b) t)))

/-! ### The block mover -/

/-- START, STOP and the doorbell follow the state table of R403 for the source that may write the channel (R388): each next state,
and what it sets; STOP does nothing in IDLE and STOPPING. A source that may not is ignored and sets WR_REFUSED, but PF0 may
STOP any channel, except channel 0 during LOAD.
Where these rules leave a corner open, the statement speaks of the
model's choice, log entry 27. -/
def Obligations.MoverChannelStateTable : Prop :=
  ∀ (s : State) (src : Src) (n : Nat), n < 16 → src = .pf 0 ∨ src = .startup ∨ (∃ c, src = .trowel c) →
    let st := MV_CH_STATUS.STATE n
    let pend := MV_CH_STATUS.DB_PEND n
    let frame (t : State) : Prop := onlyRegs [st, pend, MV_CH_STATUS.ERR n, MV_CH_STATUS.STARTER n, MV_CH_STATUS.START_REFUSED n,
      MV_CH_STATUS.DB_IDLE n, MV_CH_CUR.OFFSET n, MV_CH_CTRL.STOP n, MOVER_STATUS.ACTIVE] s t
    let stops : Prop :=
      (rd s st = 1 → ∃ t, exec (.moverStop src n) s = .next t ∧ rd t st = 4 ∧ frame t) ∧
      (rd s st = 2 ∨ rd s st = 3 → ∃ t, exec (.moverStop src n) s = .next t ∧ rd t st = 0 ∧ frame t) ∧
      (rd s st = 5 → ∃ t, exec (.moverStop src n) s = .next t ∧ rd t st = 0 ∧ rd t (MV_CH_STATUS.ERR n) = 0 ∧ frame t) ∧
      (rd s st = 0 ∨ rd s st = 4 → exec (.moverStop src n) s = .next { s with out := [] })
    let refused (i : Instr) : Prop := ∃ t, exec i s = .next t ∧ rd t (MV_CH_STATUS.WR_REFUSED n) = 1 ∧
      onlyRegs [MV_CH_STATUS.WR_REFUSED n] s t
    (mvMay s n (mvCode src) = true →
      stops ∧
      (rd s st = 0 ∨ rd s st = 5 → ∃ t, exec (.moverStart src n) s = .next t ∧ rd t st = 1 ∧ rd t pend = 0 ∧
        rd t (MV_CH_STATUS.ERR n) = 0 ∧ rd t (MV_CH_STATUS.STARTER n) = mvCode src ∧
        rd t (MV_CH_CUR.OFFSET n) = rd s (MV_CH_HEAD.OFFSET n) % 2 ^ 26 ∧ frame t) ∧
      (1 ≤ rd s st → rd s st ≤ 4 → ∃ t, exec (.moverStart src n) s = .next t ∧ rd t (MV_CH_STATUS.START_REFUSED n) = 1 ∧
        onlyRegs [MV_CH_STATUS.START_REFUSED n] s t) ∧
      (rd s st = 0 → ∃ t, exec (.moverDoorbell src n) s = .next t ∧ rd t (MV_CH_STATUS.DB_IDLE n) = 1 ∧
        onlyRegs [MV_CH_STATUS.DB_IDLE n] s t) ∧
      (rd s st = 1 ∨ rd s st = 2 ∨ rd s st = 4 → ∃ t, exec (.moverDoorbell src n) s = .next t ∧
        rd t pend = min (rd s pend + 1) 255 ∧ onlyRegs [pend] s t) ∧
      (rd s st = 3 → ∃ t, exec (.moverDoorbell src n) s = .next t ∧ rd t st = 2 ∧ rd t pend = 0 ∧ frame t)) ∧
    (mvMay s n (mvCode src) = false →
      refused (.moverStart src n) ∧ refused (.moverDoorbell src n) ∧
      (src ≠ .pf 0 ∨ (mode s = 2 ∧ n = 0) → refused (.moverStop src n)) ∧
      (src = .pf 0 → ¬(mode s = 2 ∧ n = 0) → stops))

/-- The engine takes the next ready channel round-robin (R387) and runs a valid and allowed descriptor between ranges of common
memory as R396 to R399 say: COPY, FILL, INTERLEAVE and BITPLANE write their bytes, CRC_STORE the CRC-32C behind them, most
significant byte first, and no other byte of any memory changes. An invalid descriptor ends in ERROR with cause 2, a forbidden
one with cause 1, both reported, and writes nothing (R391, R395).
Where these rules leave a corner open, the statement speaks of the
model's choice, log entry 27. -/
def Obligations.MoverOperationsOnCommonMemory : Prop :=
  ∀ (s : State) (h : List HostSeg) (n : Nat), mvIdle s = true → mvNextCh s = some n → fetchOk s (mvAt s n) = true →
    let d := mvWords (mvBytes h s (mvAt s n) 64)
    let byte (t : State) (a : Nat) : Nat := (t.common.get (0x400000 + a % 2 ^ 60) 0).toNat
    let src (i : Nat) : Nat := byte s (dSrc d + i)
    let moves (i : Instr) (op : Nat) (put : Nat → Nat) : Prop :=
      descOk s d = true → descAllowed s d = true → dOp d = op → spOf (dDst d) = 1 → (op ≠ 1 → spOf (dSrc d) = 1) →
      ∃ t, exec i s = .next t ∧ (∀ x, x < dLen d → byte t (dDst d + x) = put x) ∧
        (dStore d = true → ∀ x, x < 4 → byte t (dDst d + dLen d + x) =
          (crc32c ((List.range (dLen d)).map fun y => BitVec.ofNat 8 (put y))) / 256 ^ (3 - x) % 256) ∧
        (∀ a, ¬(0x400000 + ofOf (dDst d) ≤ a ∧ a < 0x400000 + ofOf (dDst d) + dLen d + 4 * b2n (dStore d)) →
          t.common.get a 0 = s.common.get a 0) ∧
        rd t MOVER_STATUS.LAST_CH = n ∧ (∃ r, t.mover.run = some r ∧ r.ch = n ∧ r.words = d ∧ r.cut = false) ∧
        onlyRegs [MOVER_STATUS.LAST_CH] { s with common := t.common, mover := t.mover } t
    let e := dElem d
    let w := dStreams d
    let m := dLen d / (w * e)
    moves (.moverCopy h none) 0 src ∧
    moves (.moverFill h none) 1 (fun x => dPar d / 256 ^ (x % 4) % 256) ∧
    moves (.moverInterleave h none) 2 (fun x =>
      src ((if bitAt (dPar d) 16 = false then x / e % w * m + x / e / w else x / e % m * w + x / e / m) * e + x % e)) ∧
    moves (.moverBitplane h none) 3 (fun x =>
      let word (j : Nat) : Nat := ((List.range 4).map fun q => src (x / 128 * 128 + 4 * j + q) * 256 ^ q).sum
      ((List.range 8).map fun q => word (8 * (x % 4) + q) / 2 ^ (x % 128 / 4) % 2 * 2 ^ q).sum) ∧
    (∀ i ∈ [Instr.moverCopy h none, .moverFill h none, .moverInterleave h none, .moverBitplane h none],
      ∀ c, (descOk s d = false ∧ c = 2) ∨ (descOk s d = true ∧ descAllowed s d = false ∧ c = 1) →
      ∃ t, exec i s = .next t ∧ rd t (MV_CH_STATUS.STATE n) = 5 ∧ rd t (MV_CH_STATUS.ERR n) = c ∧
        t.rakeIn = s.rakeIn ++ [{ kind := 14, scope := .dev, arg := n, loc := 0, cycle := s.time.c / 5 }] ∧
        onlyRegs [MV_CH_STATUS.STATE n, MV_CH_STATUS.ERR n, MOVER_STATUS.LAST_CH, MOVER_STATUS.ACTIVE]
          { s with rakeIn := t.rakeIn, mover := t.mover } t)

/-- How a descriptor ends (R392, R399 to R403). A descriptor that has written everything fires its event (R400: the Sieve's commit
as from the channel's starter, a gate list's ARM, a pulse on the Trowel cores' input) and counts in DONE; without an event its
channel follows a VALID LINK, enters SETTLE at the end mark, or goes to IDLE from STOPPING; a failed CRC check and a transport
error put the channel in ERROR with causes 3 and 4 and are reported, and an error of a read of host memory, which is PF0's request, disables
PF0's queue too (R491, R492); a record of a SIEVE destination is offered to the record port
only while it has room; and the read after SETTLE follows a link, reads again after a doorbell, or parks.
Where these rules leave a corner open, the statement speaks of the
model's choice, log entry 27. -/
def Obligations.MoverCompletionAndChain : Prop :=
  ∀ (s : State) (h : List HostSeg) (n : Nat), n < 16 →
    let st := MV_CH_STATUS.STATE n
    let link := linkOf h s n
    let regs := [st, MV_CH_STATUS.ERR n, MV_CH_STATUS.DB_PEND n, MV_CH_CUR.OFFSET n, MV_CH_CNT.DONE n, MV_CH_CNT.EMPTY_DB n,
      MV_CH_CTRL.STOP n, MOVER_STATUS.ACTIVE, MOVER_STATUS.LAST_CH]
    (∀ r : MvRun, s.mover.run = some r → r.ch = n → r.cut = false → r.recs = [] →
      ((dCheck r.words = false ∨ r.crc = dCrc r.words) → dKind r.words = 0 → ∃ t, exec (.descriptorComplete h) s = .next t ∧
        rd t (MV_CH_CNT.DONE n) = min (rd s (MV_CH_CNT.DONE n) + 1) 0xFFFF ∧ t.mover.run = none ∧
        (rd s st = 4 → rd t st = 0) ∧
        (rd s st ≠ 4 → bitAt link 0 = true → rd t st = 1 ∧ rd t (MV_CH_CUR.OFFSET n) = link / 64 % 2 ^ 26) ∧
        (rd s st ≠ 4 → bitAt link 0 = false → rd t st = 2 ∧ rd t (MV_CH_STATUS.DB_PEND n) = 0) ∧
        onlyRegs regs { s with mover := t.mover } t) ∧
      ((dCheck r.words = false ∨ r.crc = dCrc r.words) → dKind r.words ≠ 0 → ∃ t, exec (.descriptorComplete h) s = .next t ∧
        t.mover.run = none ∧
        (let s1 : State := { s with mover := t.mover, out := [] }
         let done (u : State) : Prop := rd t (MV_CH_CNT.DONE n) = min (rd u (MV_CH_CNT.DONE n) + 1) 0xFFFF ∧ onlyRegs regs u t
         (dKind r.words = 1 → done (svCommit (svOwner (starterSrc s n)) s1)) ∧
         (dKind r.words = 2 → dArg r.words < rows s → rd t (SCHED_GATE_CTRL.ARM (dArg r.words)) = 1 ∧
            done (setFlag s1 (SCHED_GATE_CTRL.ARM (dArg r.words)) true)) ∧
         (dKind r.words = 3 → done (pulseNamed s1 (dArg r.words))))) ∧
      (dCheck r.words = true → r.crc ≠ dCrc r.words → ∃ t, exec (.descriptorComplete h) s = .next t ∧ rd t st = 5 ∧
        rd t (MV_CH_STATUS.ERR n) = 3 ∧ t.rakeIn = s.rakeIn ++ [{ kind := 14, scope := .dev, arg := n, loc := 0, cycle := s.time.c / 5 }] ∧
        onlyRegs regs { s with mover := t.mover, rakeIn := t.rakeIn } t)) ∧
    (∀ r : MvRun, s.mover.run = some r → r.ch = n → ∃ t, exec .moverTransportError s = .next t ∧ rd t st = 5 ∧
      rd t (MV_CH_STATUS.ERR n) = 4 ∧ t.mover.run = none ∧
      t.rakeIn = s.rakeIn ++ [{ kind := 15, scope := .dev, arg := n, loc := 0, cycle := s.time.c / 5 }] ∧
      (dOp r.words = 1 ∨ spOf (dSrc r.words) ≠ 0 → t.out = [] ∧ onlyRegs regs { s with mover := t.mover, rakeIn := t.rakeIn } t) ∧
      (dOp r.words ≠ 1 → spOf (dSrc r.words) = 0 → rd t (NQ_CFG.EN 0) = 0 ∧ rd t (NQ_STATUS.ERR 0) = 1 ∧ t.out = [.aer 0] ∧
        AerErr.request ∈ (fnAt t 0).aer ∧
        onlyRegs (NQ_CFG.EN 0 :: NQ_STATUS.ERR 0 :: regs) { s with mover := t.mover, rakeIn := t.rakeIn, mgmt := t.mgmt } t)) ∧
    (∀ (r : MvRun) (l : List Byte) (q : List (List Byte)), s.mover.run = some r → r.recs = l :: q →
      (rd s SIEVE_OP_STATUS.FREE = 0 → exec .moverSieveRecordWrite s = .next { s with out := [] }) ∧
      (rd s SIEVE_OP_STATUS.FREE ≠ 0 → exec .moverSieveRecordWrite s = .next (devWrites (starterSrc s r.ch) 8 0x500020 l
        { s with mover := { s.mover with run := some { r with recs := q } }, out := [] }))) ∧
    (2 ≤ mode s → rd s st = 2 →
      (bitAt link 0 = true → ∃ t, exec (.moverSettleExpiry n h) s = .next t ∧ rd t st = 1 ∧
        rd t (MV_CH_CUR.OFFSET n) = link / 64 % 2 ^ 26 ∧ onlyRegs regs s t) ∧
      (bitAt link 0 = false → 0 < rd s (MV_CH_STATUS.DB_PEND n) → ∃ t, exec (.moverSettleExpiry n h) s = .next t ∧ rd t st = 2 ∧
        rd t (MV_CH_STATUS.DB_PEND n) = 0 ∧ rd t (MV_CH_CNT.EMPTY_DB n) = min (rd s (MV_CH_CNT.EMPTY_DB n) + 1) 0xFFFF ∧
        onlyRegs regs s t) ∧
      (bitAt link 0 = false → rd s (MV_CH_STATUS.DB_PEND n) = 0 → ∃ t, exec (.moverSettleExpiry n h) s = .next t ∧ rd t st = 3 ∧
        onlyRegs regs s t))

/-! ### Start-up, fuses and flash -/

/-- FUSE_ADVANCE and FUSE_REVOKE (R477). While an image runs, ADVANCE raises the rollback floor to the running image's rollback
number when that is higher and is refused when it is not; REVOKE revokes its key slot unless the running image uses that slot or
no other loaded slot would stay unrevoked; RESULT tells. A write that fails leaves RESULT 3, the floor between old and new, and of the
revocations at most slot KEY's changed.
Where these rules leave a corner open, the statement speaks of the
model's choice, log entry 29. -/
def Obligations.FuseCommandsChangeOnlyTheirFuse : Prop :=
  ∀ (s : State) (k : Nat), k < 4 → rd s BOOT_STATUS.STATE = 4 → rd s BOOT_IMAGE.ROLLBACK < 32 →
    let new := rd s BOOT_IMAGE.ROLLBACK
    let adv : Word := BitVec.ofNat 32 (2 ^ 31 + k * 2 ^ 26)
    let rev : Word := BitVec.ofNat 32 (2 ^ 30 + k * 2 ^ 26)
    let fuse := [BOOT_FUSE.KEY, BOOT_FUSE.RESULT, BOOT_FUSE.FLOOR, BOOT_FUSE.REVOKED]
    let spare := ∃ i, i < 4 ∧ i ≠ k ∧ bitAt s.fuses.loaded i = true ∧ bitAt s.fuses.revoked i = false
    (s.fuses.floor < new →
      (∃ t, exec (.fuseAdvance adv true) s = .next t ∧ t.fuses = { s.fuses with floor := new } ∧ rd t BOOT_FUSE.FLOOR = new ∧
        rd t BOOT_FUSE.RESULT = 1 ∧ onlyRegs fuse { s with fuses := t.fuses } t) ∧
      (∃ t, exec (.fuseAdvance adv false) s = .next t ∧ rd t BOOT_FUSE.RESULT = 3 ∧
        t.fuses = { s.fuses with floor := t.fuses.floor } ∧ s.fuses.floor ≤ t.fuses.floor ∧ t.fuses.floor ≤ new)) ∧
    (new ≤ s.fuses.floor → ∀ ok, ∃ t, exec (.fuseAdvance adv ok) s = .next t ∧ rd t BOOT_FUSE.RESULT = 2 ∧ onlyRegs fuse s t) ∧
    (k ≠ rd s BOOT_IMAGE.KEY_INDEX → spare →
      ∃ t, exec (.fuseRevoke rev true) s = .next t ∧ bitAt t.fuses.revoked k = true ∧
        (∀ i, i ≠ k → bitAt t.fuses.revoked i = bitAt s.fuses.revoked i) ∧ rd t BOOT_FUSE.RESULT = 1 ∧
        t.fuses = { s.fuses with revoked := t.fuses.revoked } ∧ onlyRegs fuse { s with fuses := t.fuses } t) ∧
    (k ≠ rd s BOOT_IMAGE.KEY_INDEX → spare →
      ∃ t, exec (.fuseRevoke rev false) s = .next t ∧ rd t BOOT_FUSE.RESULT = 3 ∧
        (∀ i, i ≠ k ∨ bitAt s.fuses.revoked i = true → bitAt t.fuses.revoked i = bitAt s.fuses.revoked i) ∧
        t.fuses = { s.fuses with revoked := t.fuses.revoked } ∧ onlyRegs fuse { s with fuses := t.fuses, freeCtr := t.freeCtr } t) ∧
    (k = rd s BOOT_IMAGE.KEY_INDEX ∨ (bitAt s.fuses.loaded k = true ∧ bitAt s.fuses.revoked k = false ∧ ¬spare) → ∀ ok, ∃ t,
      exec (.fuseRevoke rev ok) s = .next t ∧ rd t BOOT_FUSE.RESULT = 2 ∧ onlyRegs fuse s t)

/-- The flash commands of R478 sent by PF0 or by Trowel firmware while no command is in progress: before an image runs each ends with
RESULT 3, and with a reserved OP with RESULT 5; else it goes to the flash, with the first LEN bytes of BOOT_FLASH_DATA, unless it is a
program or an erase that touches the bank that runs, the bank of a live apply or, from PF0, the wear area, or leaves that area, from
firmware (RESULT 2); a read, or write enable before a program or an erase, leaves on the bus (R465). Completed, a read fills the buffer,
an erase leaves 0xFF in its whole aligned range, and a program leaves its bytes where the flash was erased; no other byte changes.
A command that times out ends with RESULT 4.
Where these rules leave a corner open, the statement speaks of the
model's choice, log entry 28. -/
def Obligations.FlashCommandsActOnTheirRange : Prop :=
  (∀ (s : State) (op len n : Nat) (src : Src), op < 8 → 1 ≤ len → len ≤ 256 → src = .pf 0 ∨ src = .trowel n → s.boot.cmd = none → s.boot.wait = [] →
    let v : Word := BitVec.ofNat 32 (2 ^ 31 + op * 2 ^ 16 + len)
    let a := rd s BOOT_FLASH_ADDR.ADDR
    let fw : Bool := src ≠ .pf 0
    let c : FlashCmd := { trw := fw, op := op, addr := a, len := len, data := [] }
    let area := if fw = true then 0x10000 ≤ c.start ∧ c.start + c.size ≤ 0x400000 else c.touches 0x10000 0x3F0000 = false
    let safe := op = 0 ∨ (c.touches (bankBase (rd s BOOT_STATUS.RUN_BANK)) bankSize = false ∧ area ∧
      (s.boot.live ≠ none → c.touches (bankBase (rd s BOOT_LIVE.BANK)) bankSize = false))
    ∀ i ∈ [Instr.flashRead src v, .flashProgram src v, .flashErase4k src v, .flashErase64k src v],
      let ends (r : Nat) := ∃ t, exec i s = .next t ∧ rd t BOOT_FLASH_CMD.RESULT = r ∧ rd t BOOT_FLASH_CMD.GO = 0 ∧ t.boot = s.boot ∧
        onlyRegs [BOOT_FLASH_CMD.GO, BOOT_FLASH_CMD.OP, BOOT_FLASH_CMD.LEN, BOOT_FLASH_CMD.RESULT] s t
      (rd s BOOT_STATUS.STATE ≠ 4 → ends 3) ∧
      (rd s BOOT_STATUS.STATE = 4 → 4 ≤ op → ends 5) ∧
      (rd s BOOT_STATUS.STATE = 4 → op < 4 → safe → ∃ t, exec i s = .next t ∧
        (∃ x, t.boot.cmd = some x ∧ x.op = op ∧ x.addr = a ∧ x.len = len ∧ x.trw = fw ∧ x.data.length = len ∧
          ∀ j, j < len → (x.data.getD j 0).toNat = rd s (BOOT_FLASH_DATA.V (j / 4)) / 256 ^ (j % 4) % 256) ∧
        rd t BOOT_FLASH_CMD.GO = 1 ∧ t.boot.flash = s.boot.flash ∧
        t.out = [.xspi (if op = 0 then s.boot.bus.readAt false a len else { mhz := 50, op := 0x06 })] ∧
        onlyRegs [BOOT_FLASH_CMD.GO, BOOT_FLASH_CMD.OP, BOOT_FLASH_CMD.LEN] { s with boot := t.boot } t) ∧
      (rd s BOOT_STATUS.STATE = 4 → op < 4 → ¬safe → ends 2)) ∧
  (∀ (s : State) (c : FlashCmd), s.boot.cmd = some c → s.boot.wait = [] → c.op ≤ 3 → 1 ≤ c.len → c.len ≤ 256 → c.addr + c.len ≤ 2 ^ 26 →
    ∃ t, exec .flashCommandComplete s = .next t ∧ t.boot.cmd = none ∧ rd t BOOT_FLASH_CMD.RESULT = 1 ∧ rd t BOOT_FLASH_CMD.GO = 0 ∧
      (c.op = 0 → t.boot.flash = s.boot.flash ∧ ∀ i, i < c.len → (rd t (BOOT_FLASH_DATA.V (i / 4))) / 256 ^ (i % 4) % 256 =
        (flashByte s (c.addr + i)).toNat) ∧
      (c.op = 1 → (∀ i, i < c.len → flashByte s (c.addr + i) = 0xFF → flashByte t (c.addr + i) = c.data.getD i 0)) ∧
      (2 ≤ c.op → ∀ x, c.start ≤ x → x < c.start + c.size → flashByte t x = 0xFF) ∧
      (1 ≤ c.op → ∀ x, ¬(c.start ≤ x ∧ x < c.start + c.size) → flashByte t x = flashByte s x) ∧
      t.common = s.common ∧ t.cores = s.cores ∧ t.fuses = s.fuses) ∧
  (∀ (s : State) (c : FlashCmd), s.boot.cmd = some c → s.boot.wait = [] → ∃ t, exec .flashTimeout s = .next t ∧ t.boot.cmd = none ∧
    rd t BOOT_FLASH_CMD.RESULT = 4 ∧ rd t BOOT_FLASH_CMD.GO = 0 ∧
    (∀ x, ¬(c.start ≤ x ∧ x < c.start + c.size) → flashByte t x = flashByte s x) ∧ t.common = s.common ∧ t.cores = s.cores)

/-- The start-up logic runs only at step 6 of R438 with the die cool. With neither bank acceptable it ends in BOOT_STATUS.STATE 5
and in LOAD, having released pad groups 1 to 5 (R464); with an acceptable bank it ends in STATE 4 with the image's registers and the
cores that have code. LIVE_APPLY of the bank that runs, or outside JOIN, SERVICE and HOLDOVER, is refused with RESULT 2; of a bank that fails its check with RESULT 3; of a good
bank with the same rails and register list it makes the other page active and LIVE_APPLY_CORE_RESTART restarts the cores in
ascending order, each after the one before has reached STATE 1 or 2, or STATE 0 without code, then shows the new image and RESULT 1;
after a restart that failed it ends (the model's choice, log entry 31). -/
def Obligations.StartupAndLiveApply : Prop :=
  (∀ (s : State) (rdA rdB : Bool) (off : Nat), mode s = 2 → s.power.step = 6 → s.power.resetLow = false → bootCool s = true → s.power.ask = none →
    checkBank s 0 rdA ≠ 1 → checkBank s 1 rdB ≠ 1 → ∃ t, exec (.startupSequence [] rdA rdB off) s = .next t ∧
      rd t BOOT_STATUS.STATE = 5 ∧ t.power.step = 0 ∧ rd t BOOT_STATUS.RESULT_A = checkBank s 0 rdA % 16 ∧
      rd t BOOT_STATUS.RESULT_B = checkBank s 1 rdB % 16 ∧ mode t = 2 ∧ t.fuses = s.fuses ∧ t.boot.flash = s.boot.flash ∧
      ∀ i, bitAt (rd t MODE_PAD.HOLD) i = (bitAt (rd s MODE_PAD.HOLD) i && decide (i = 0 ∨ 5 < i))) ∧
  (∀ (s : State) (rdA rdB : Bool) (off b : Nat), mode s = 2 → s.power.step = 6 → s.power.resetLow = false → bootCool s = true → s.power.ask = none →
    (let rdOf (x : Nat) : Bool := if x = 0 then rdA else rdB
     let first : Nat := match dirChoice s with
       | some c => c.2
       | none => 0
     (b = first ∨ (b = 1 - first ∧ checkBank s first (rdOf first) ≠ 1)) ∧ checkBank s b (rdOf b) = 1) →
    ∃ t, exec (.startupSequence [] rdA rdB off) s = .next t ∧ rd t BOOT_STATUS.STATE = 4 ∧ rd t BOOT_STATUS.RUN_BANK = b ∧
      rd t (if b = 0 then BOOT_STATUS.RESULT_A else BOOT_STATUS.RESULT_B) = 1 ∧ t.boot.active = 0 ∧ t.fuses = s.fuses ∧
      (bootBytes s b 2 = [] →
        let h := imgHdr s b
        rd t BOOT_IMAGE.ROLLBACK = leAt h 11 1 ∧ rd t BOOT_IMAGE.KEY_INDEX = leAt h 10 1 ∧ rd t BOOT_IMAGE.STEP_MIN = leAt h 9 1 ∧
          rd t BOOT_IMAGE.VARIANTS = leAt h 8 1 ∧ rd t BOOT_IMAGE.JOIN_PERMIT = leAt h 18 1 ∧ t.boot.page0 = pageOf s b ∧
          (∀ i, 1 ≤ i → i ≤ 5 → bitAt (rd t MODE_PAD.HOLD) i = false) ∧
          rd t (MV_CH_STATUS.STARTER 0) = 3 ∧ rd t MOVER_STATUS.LAST_CH = 0 ∧
          mode t = (if leAt h 18 1 = 1 then 3 else 2) ∧
          (∀ n, n < cores s → rd s (TROWEL_CORE_STATUS.STATE n) ≠ 5 → s.rake.grafts = [] → (pageOf s b).imem.has n = true →
            rd s (TROWEL_CORE_CTRL.HALT n) = 0 → rd t (TROWEL_CORE_STATUS.STATE n) = 1))) ∧
  (∀ (s : State) (rdA rdB : Bool) (off : Nat), mode s = 2 → s.power.step ≠ 6 → s.power.ask = none →
    exec (.startupSequence [] rdA rdB off) s = .next { s with out := [] }) ∧
  (∀ (s : State) (v : Word) (rdFail : Bool), 2 ^ 31 ≤ v.toNat → s.boot.live = none →
    let b := v.toNat % 2
    (b = rd s BOOT_STATUS.RUN_BANK ∨ lineUp s = false → ∃ t, exec (.liveApply v rdFail) s = .next t ∧ rd t BOOT_LIVE.RESULT = 2 ∧
      rd t BOOT_LIVE.GO = 0 ∧ onlyRegs [BOOT_LIVE.GO, BOOT_LIVE.RESULT, BOOT_LIVE.BANK] s t) ∧
    (b ≠ rd s BOOT_STATUS.RUN_BANK → lineUp s = true → s.boot.cmd = none → s.boot.wait = [] → checkBank s b rdFail ≠ 1 → ∃ t,
      exec (.liveApply v rdFail) s = .next t ∧ rd t BOOT_LIVE.RESULT = 3 ∧ rd t BOOT_LIVE.GO = 0 ∧ t.boot = s.boot ∧ t.fuses = s.fuses ∧
        t.cores = s.cores ∧ rd t (if b = 0 then BOOT_STATUS.RESULT_A else BOOT_STATUS.RESULT_B) = checkBank s b rdFail % 16) ∧
    (b ≠ rd s BOOT_STATUS.RUN_BANK → lineUp s = true → s.boot.cmd = none → s.boot.wait = [] → checkBank s b rdFail = 1 →
      fixedDigests s b = fixedDigests s (1 - b) → ∃ t, exec (.liveApply v rdFail) s = .next t ∧ rd t BOOT_LIVE.GO = 1 ∧
        t.boot.live = some 0 ∧ t.boot.active = (if s.boot.active = 0 then 1 else 0) ∧ activePage t = pageOf s b ∧
        t.cores = s.cores ∧ t.fuses = s.fuses)) ∧
  (∀ (s : State) (n : Nat), s.boot.live = some n → n < cores s → rd s (TROWEL_CORE_STATUS.STATE n) ≠ 5 →
    (n ≠ 0 → rd s (TROWEL_CORE_STATUS.STATE (n - 1)) = 1 ∨ rd s (TROWEL_CORE_STATUS.STATE (n - 1)) = 2 ∨
      (rd s (TROWEL_CORE_STATUS.STATE (n - 1)) = 0 ∧ (activePage s).imem.has (n - 1) = false)) →
    ∃ t, exec .liveApplyCoreRestart s = .next t ∧ rd t (TROWEL_CORE_STATUS.STATE n) = 4 ∧ t.boot.live = some (n + 1) ∧
      rd t (TROWEL_CORE_CTRL.RESTART n) = 1 ∧
      onlyRegs [TROWEL_CORE_STATUS.STATE n, TROWEL_CORE_STATUS.HALT_CAUSE n, TROWEL_CORE_CTRL.RESTART n] { s with boot := t.boot } t) ∧
  (∀ s : State, s.boot.live = some (cores s) → 
    rd s (TROWEL_CORE_STATUS.STATE (cores s - 1)) = 1 ∨ rd s (TROWEL_CORE_STATUS.STATE (cores s - 1)) = 2 → ∃ t, exec .liveApplyCoreRestart s = .next t ∧ t.boot.live = none ∧ rd t BOOT_LIVE.RESULT = 1 ∧ rd t BOOT_LIVE.GO = 0 ∧
      rd t BOOT_STATUS.RUN_BANK = rd s BOOT_LIVE.BANK % 2 ∧ t.cores = s.cores) ∧
  (∀ (s : State) (n : Nat), s.boot.live = some (n + 1) → rd s (TROWEL_CORE_STATUS.STATE n) = 5 →
    ∃ t, exec .liveApplyCoreRestart s = .next t ∧ t.boot.live = none ∧ rd t BOOT_LIVE.GO = 0 ∧
      onlyRegs [BOOT_LIVE.GO, BOOT_LIVE.RESULT] { s with boot := t.boot, freeCtr := t.freeCtr } t) ∧
  (∀ (s : State) (n : Nat), s.boot.live = some (n + 1) → rd s (TROWEL_CORE_STATUS.STATE n) = 4 ∨ rd s (TROWEL_CORE_STATUS.STATE n) = 3 →
    exec .liveApplyCoreRestart s = .next { s with out := [] })

/-! ### Management -/

/-- The notification queue of a function (R498 to R501): enabling it with its feature in force and the bus master on starts it at
TAIL 0 and phase 1; an entry goes to BASE + 16 · TAIL with the phase, its type, its number and T, TAIL advances modulo the size and the
phase turns at the wrap; an entry that finds no room is lost and counted; a write of NQ_HEAD sets it; the coalescing time raises the
vector, whose message waits in its pending bit while the vector is masked and leaves when the mask is lifted; and an error
completion disables the queue, sets ERR and shows in AER (R492).
Where these rules leave a corner open, the statement speaks of the
model's choice, log entry 17. -/
def Obligations.NotificationQueueProtocol : Prop :=
  ∀ (s : State) (f : Nat) (h : HostCfg) (v : Word), f < fns s → fnQuiet s f = false →
    let x := fnAt s f
    let tail := rd s (NQ_STATUS.TAIL f)
    let early := if x.msixPend = true ∧ h.masked = false then [Output.msix f h.msgAddr h.msgData] else []
    let open' := flag s (NQ_CFG.EN f) = true ∧ h.bme = true ∧ h.d3 = false
    (featOn s f 0 = true → rd s (NQ_CFG.EN f) = 0 → h.bme = true → 2 ^ 31 ≤ v.toNat → ∃ t, exec (.nqEnable f v h) s = .next t ∧
      rd t (NQ_CFG.EN f) = 1 ∧ rd t (NQ_STATUS.TAIL f) = 0 ∧ rd t (NQ_STATUS.PHASE f) = 1 ∧ rd t (NQ_STATUS.ERR f) = 0 ∧
      rd t (NQ_CFG.LOG_SIZE f) = v.toNat / 2 ^ 24 % 16 ∧ rd t (NQ_CFG.COAL_N f) = v.toNat / 2 ^ 16 % 256 ∧
      rd t (NQ_CFG.COAL_US f) = v.toNat % 2 ^ 16 ∧ (fnAt t f).seq = 0 ∧ t.out = early ∧
      onlyRegs [NQ_CFG.EN f, NQ_CFG.LOG_SIZE f, NQ_CFG.COAL_N f, NQ_CFG.COAL_US f, NQ_STATUS.TAIL f, NQ_STATUS.PHASE f, NQ_STATUS.ERR f]
        { s with mgmt := t.mgmt } t) ∧
    (∀ (e : NqEv) (r : List NqEv), s.nqIn.get f [] = e :: r → x.owed = 0 → open' →
      (nqFull s f = false → ∃ t, exec (.nqEntryWrite f h) s = .next t ∧ t.nqIn.get f [] = r ∧
        rd t (NQ_STATUS.TAIL f) = (tail + 1) % nqSize s f ∧
        ((tail + 1) % nqSize s f ≠ 0 → rd t (NQ_STATUS.PHASE f) = rd s (NQ_STATUS.PHASE f)) ∧
        ((tail + 1) % nqSize s f = 0 → rd t (NQ_STATUS.PHASE f) = 1 - rd s (NQ_STATUS.PHASE f)) ∧
        (∃ m, t.out = early ++ .hostWrite f (rd s (NQ_BASE_HI.BASE_HI f) * 2 ^ 32 + rd s (NQ_BASE_LO.BASE_LO f) * 4096 + 16 * tail)
          (leBytes 4 (rd s (NQ_STATUS.PHASE f) * 2 ^ 31 + e.ty % 256 * 65536 + x.seq) ++ leBytes 4 e.arg ++ leBytes 4 (nsOf e.u) ++
            leBytes 4 (secOf e.u % 65536 * 65536 + b2n e.valid * 32768)) :: m ∧ (m = [] ∨ m = [.msix f h.msgAddr h.msgData])) ∧
        onlyRegs [NQ_STATUS.TAIL f, NQ_STATUS.PHASE f] { s with mgmt := t.mgmt, nqIn := t.nqIn } t) ∧
      (nqFull s f = true → ∃ t, exec (.nqEntryWrite f h) s = .next t ∧ t.nqIn.get f [] = r ∧ (fnAt t f).owed = 1 ∧
        rd t (NQ_STATUS.LOST f) = min (rd s (NQ_STATUS.LOST f) + 1) 0xFFFF ∧ t.out = early ∧
        onlyRegs [NQ_STATUS.LOST f] { s with mgmt := t.mgmt, nqIn := t.nqIn } t)) ∧
    (featOn s f 0 = true → x.owed = 0 → ∃ t, exec (.nqHeadWrite f v h) s = .next t ∧ rd t (NQ_HEAD.HEAD f) = v.toNat % 2 ^ 12 ∧
      onlyRegs [NQ_HEAD.HEAD f] { s with mgmt := t.mgmt } t) ∧
    (featOn s f 1 = true → x.unsig ≠ 0 → ∃ t, exec (.nqCoalTimeout f h) s = .next t ∧ (fnAt t f).unsig = 0 ∧
      (h.masked = false → t.out = early ++ [.msix f h.msgAddr h.msgData] ∧ (fnAt t f).msixPend = false) ∧ (h.masked = true → t.out = [] ∧ (fnAt t f).msixPend = true) ∧
      t = { s with mgmt := t.mgmt, out := t.out }) ∧
    (∃ t, exec (.nqWriteError f) s = .next t ∧ rd t (NQ_CFG.EN f) = 0 ∧ rd t (NQ_STATUS.ERR f) = 1 ∧
      t.out = [.aer f] ∧ AerErr.request ∈ (fnAt t f).aer ∧ (∀ g, g ≠ f → fnAt t g = fnAt s g) ∧
      onlyRegs [NQ_CFG.EN f, NQ_STATUS.ERR f] { s with mgmt := t.mgmt } t)

/-- Features, mailboxes and the reset permission (R495, R496, R503, R504): a commit of features that the function offers, with bit 127
set and the dependencies met, makes them NEGOTIATED with RESULT 1, and one with the queue or the mailbox busy changes nothing with
RESULT 2; GO copies the request words to firmware, DONE the response words back with status 1, a timeout ends with status 2; and
clearing TENANT_RESET_EN takes feature 4 from the tenant.
Where these rules leave a corner open, the statement speaks of the
model's choice, log entry 17. -/
def Obligations.FeaturesAndMailboxes : Prop :=
  ∀ (s : State) (f : Nat) (v : Word), f < fns s → fnQuiet s f = false →
    let drv (i : Nat) := rd s (DRV_FEATURES.V f i)
    let neg (i : Nat) := NEGOTIATED.V f i
    let feat := [FEAT_CTRL.RESULT f, neg 0, neg 1, neg 2, neg 3]
    (rd s (NQ_CFG.EN f) = 0 → rd s (MBX_CTRL.BUSY f) = 0 → (∀ i, i < 4 → drv i &&& devFeat s f i = drv i) → bitAt (drv 3) 31 = true →
      ((bitAt (drv 0) 1 = true ∨ bitAt (drv 0) 6 = true) → bitAt (drv 0) 0 = true) → ∃ t, exec (.featureCommit f) s = .next t ∧
        rd t (FEAT_CTRL.RESULT f) = 1 ∧ (∀ i, i < 4 → rd t (neg i) = drv i % 2 ^ 32) ∧ onlyRegs feat s t) ∧
    (rd s (NQ_CFG.EN f) = 1 ∨ rd s (MBX_CTRL.BUSY f) = 1 → ∃ t, exec (.featureCommit f) s = .next t ∧
      rd t (FEAT_CTRL.RESULT f) = 2 ∧ onlyRegs [FEAT_CTRL.RESULT f] s t) ∧
    (featOn s f 2 = true → 2 ^ 31 ≤ v.toNat → rd s (MBX_CTRL.BUSY f) = 0 → rd s (MBXF_CTRL.ENABLE f) = 1 →
      ∃ t, exec (.mbxRequest f v) s = .next t ∧ rd t (MBX_CTRL.BUSY f) = 1 ∧ rd t (MBXF_CTRL.PEND f) = 1 ∧
      (let n := max 1 (min 64 (v.toNat % 128))
       rd t (MBXF_CTRL.REQ_WORDS f) = n ∧ (∀ w, w < n → rd t (MBXF_REQ.V f w) = rd s (MBX_REQ.V f w) % 2 ^ 32) ∧
         t = { s with regs := t.regs, cores := t.cores, out := [] })) ∧
    (featOn s f 2 = true → 2 ^ 31 ≤ v.toNat → rd s (MBX_CTRL.BUSY f) = 1 → ∃ t, exec (.mbxRequest f v) s = .next t ∧
      rd t (FN_STATUS.MBX_REFUSED f) = min (rd s (FN_STATUS.MBX_REFUSED f) + 1) 255 ∧
      onlyRegs [FN_STATUS.MBX_REFUSED f, MBX_CTRL.REQ_WORDS f] s t) ∧
    (bitAt v.toNat 30 = true → rd s (MBXF_CTRL.PEND f) = 1 → ∃ t, exec (.mbxDone f v) s = .next t ∧ rd t (MBX_CTRL.BUSY f) = 0 ∧
      rd t (MBXF_CTRL.PEND f) = 0 ∧ rd t (MBX_CTRL.STATUS f) = 1 ∧
      (let n := min 64 (v.toNat % 128)
       rd t (MBX_CTRL.RESP_WORDS f) = n ∧ (∀ w, w < n → rd t (MBX_RESP.V f w) = rd s (MBXF_RESP.V f w) % 2 ^ 32)) ∧
      (∃ e, t.nqIn.get f [] = s.nqIn.get f [] ++ [e] ∧ e.ty = 5 ∧ e.arg = 1) ∧ t = { s with regs := t.regs, nqIn := t.nqIn, out := [] }) ∧
    (rd s (MBXF_CTRL.PEND f) = 1 → ∃ t, exec (.mbxTimeout f) s = .next t ∧ rd t (MBX_CTRL.BUSY f) = 0 ∧ rd t (MBXF_CTRL.PEND f) = 0 ∧
      rd t (MBX_CTRL.STATUS f) = 2 ∧ onlyRegs [MBX_CTRL.BUSY f, MBXF_CTRL.PEND f, MBX_CTRL.STATUS f] { s with nqIn := t.nqIn } t) ∧
    (∀ b, b < beds s → v.toNat < 2 ^ 31 → ∃ t, exec (.tenantResetEnWrite b v) s = .next t ∧
      rd t (MGMT_BED.TENANT_RESET_EN b) = v.toNat / 2 ^ 29 % 2 ∧
      (v.toNat / 2 ^ 29 % 2 = 0 → bitAt (rd t (NEGOTIATED.V (b + 1) 0)) 4 = false) ∧
      onlyRegs [MGMT_BED.TENANT_RESET_EN b, NEGOTIATED.V (b + 1) 0] s t)

/-- The link, the resets of functions and beds, and the console UART (R482, R493, R505, R506, R510 to R513). The link comes up with
its speed and width once STOCK is locked and the pads are released; PERST takes it down, counts, and resets every function's queue,
mailbox and features; a function's own reset does that for it alone and keeps the fuses and memories; a bed reset starts, once no lane graft
of the bed is in progress, and ends with BUSY 0 on both sides; and the UART queues received and sent bytes up to 64, counts framing errors, overruns and drops, gives its
oldest byte to PF0 while PF0 owns the receiver, and sends its bytes in order unless its pad is held (R444). A low level at sample 17
of a good stop bit is already the next start edge (R512). That PCIE_PERST_N has risen when the link comes up is the model's reading,
log entry 17. -/
def Obligations.LinkResetsAndConsole : Prop :=
  ∀ (s : State),
    (∀ speed width : Nat, 2 ≤ mode s → flag s CLK_STATUS.STOCK_LOCK = true → bitAt (rd s MODE_PAD.HOLD) 1 = false → 1 ≤ speed → speed ≤ 5 →
      width = 1 ∨ width = 2 ∨ width = 4 ∨ width = 8 → ∃ t, exec (.pcieLinkUp speed width) s = .next t ∧ rd t MGMT_PCIE.LINK_UP = 1 ∧
        rd t MGMT_PCIE.SPEED = speed ∧ rd t MGMT_PCIE.WIDTH = width ∧ t.mgmt = { s.mgmt with perst := false } ∧
        onlyRegs [MGMT_PCIE.LINK_UP, MGMT_PCIE.SPEED, MGMT_PCIE.WIDTH] { s with mgmt := t.mgmt } t) ∧
    (2 ≤ mode s → ∃ t, exec .perstAssert s = .next t ∧ rd t MGMT_PCIE.LINK_UP = 0 ∧
      rd t MGMT_PCIE.PERST = min (rd s MGMT_PCIE.PERST + 1) 0xFFFF ∧ t.mgmt.perst = true ∧
      (∀ f, f < fns s → rd t (NQ_CFG.EN f) = 0 ∧ rd t (MBX_CTRL.BUSY f) = 0 ∧ ∀ i, i < 4 → rd t (NEGOTIATED.V f i) = 0)) ∧
    (mode s < 2 → exec .perstAssert s = .next { s with mgmt := { s.mgmt with perst := true }, out := [] }) ∧
    (∀ f, 0 < f → f < fns s → ∃ t, exec (.functionLevelReset f) s = .next t ∧
      rd t (NQ_CFG.EN f) = 0 ∧ rd t (NQ_CFG.LOG_SIZE f) = 4 ∧ rd t (MBX_CTRL.BUSY f) = 0 ∧ rd t (MBXF_CTRL.PEND f) = 0 ∧
      (∀ i, i < 4 → rd t (NEGOTIATED.V f i) = 0) ∧ rd t (MGMT_BED.TENANT_RESET_EN (f - 1)) = rd s (MGMT_BED.TENANT_RESET_EN (f - 1)) ∧
      (∀ g, g < fns s → g ≠ f → rd t (NQ_CFG.EN g) = rd s (NQ_CFG.EN g)) ∧ sameMem s t ∧ t.fuses = s.fuses) ∧
    (∀ b, b < beds s → b ∉ s.lane.resetting → b ∉ s.mgmt.bedWait →
      (bedGrafts s b = false → ∃ t, exec (.bedReset (.pf 0) b) s = .next t ∧ b ∈ t.lane.resetting ∧ rd t (MGMT_BED.BUSY b) = 1) ∧
      (bedGrafts s b = true → exec (.bedReset (.pf 0) b) s = .next { s with mgmt := { s.mgmt with bedWait := s.mgmt.bedWait ++ [b] }, out := [] })) ∧
    (∀ b, b < beds s → b ∈ s.lane.resetting → ∃ t, exec (.bedResetComplete b) s = .next t ∧ rd t (MGMT_BED.BUSY b) = 0 ∧
      rd t (BEDM_CTRL.BUSY (b + 1)) = 0 ∧ t.lane.resetting = s.lane.resetting.erase b) ∧
    (∀ x : Byte, 2 ≤ mode s → flag s UART_CTRL.EN = true → s.mgmt.uart = .armed ∨ s.mgmt.uart = .wait →
      (s.mgmt.rx.length < 64 → ∃ t, exec (.uartRxFrame (.byte x) true) s = .next t ∧
        t.mgmt = { s.mgmt with rx := s.mgmt.rx ++ [x], uart := .armed } ∧
        rd t UART_STATUS.RX_AVAIL = 1 ∧ rd t UART_STATUS.RX_LEVEL = s.mgmt.rx.length + 1) ∧
      (64 ≤ s.mgmt.rx.length → ∃ t, exec (.uartRxFrame (.byte x) true) s = .next t ∧
        rd t UART_ERR.OVERRUN = min (rd s UART_ERR.OVERRUN + 1) 255 ∧
        onlyRegs [UART_ERR.OVERRUN] { s with mgmt := { s.mgmt with uart := .armed } } t) ∧
      (∃ t, exec (.uartRxFrame (.byte x) false) s = .next t ∧ rd t UART_ERR.FRAMING = min (rd s UART_ERR.FRAMING + 1) 0xFFFF ∧
        onlyRegs [UART_ERR.FRAMING] { s with mgmt := { s.mgmt with uart := .wait } } t)) ∧
    (∀ v : Nat, v < 256 → 2 ≤ mode s → flag s UART_CTRL.EN = true → s.mgmt.uart = .frame (9 * 32 + 17) 2 v → s.mgmt.rx.length < 64 →
      ∃ t, exec (.uartRxFrame (.levels [false]) false) s = .next t ∧
        t.mgmt = { s.mgmt with rx := s.mgmt.rx ++ [BitVec.ofNat 8 v], uart := .frame 33 0 0 }) ∧
    (∀ v : Word, (s.mgmt.tx.length < 64 → ∃ t, exec (.uartDataWrite (.pf 0) v) s = .next t ∧
        t.mgmt = { s.mgmt with tx := s.mgmt.tx ++ [v.setWidth 8] }) ∧
      (64 ≤ s.mgmt.tx.length → ∃ t, exec (.uartDataWrite (.pf 0) v) s = .next t ∧
        rd t UART_ERR.TX_DROP = min (rd s UART_ERR.TX_DROP + 1) 255 ∧ onlyRegs [UART_ERR.TX_DROP] s t)) ∧
    (∀ (x : Byte) (r : List Byte),
      (s.mgmt.rx = x :: r → rd s UART_CTRL.RX_OWNER = 0 → ∃ t, exec (.uartDataPop (.pf 0)) s = .next t ∧
        t.readData.toNat = 256 + x.toNat ∧ t.mgmt = { s.mgmt with rx := r }) ∧
      (s.mgmt.rx = x :: r → rd s UART_CTRL.RX_OWNER = 1 → exec (.uartDataPop (.pf 0)) s = .next { s with readData := 0, out := [] }) ∧
      (s.mgmt.tx = x :: r → flag s UART_CTRL.EN = true → bitAt (rd s MODE_PAD.HOLD) 4 = false →
        ∃ t, exec .uartTxByteSent s = .next t ∧ t.out = [.uart (max 1333 (rd s UART_CTRL.DIV)) (false :: (List.range 8).map (fun i => x.getLsbD i) ++ [true])] ∧ t.mgmt = { s.mgmt with tx := r }) ∧
      (s.mgmt.tx = x :: r → bitAt (rd s MODE_PAD.HOLD) 4 = true → exec .uartTxByteSent s = .next { s with out := [] })) ∧
    (s.mgmt.rx = [] → exec (.uartDataPop (.pf 0)) s = .next { s with readData := 0, out := [] })

/-! ### Power, modes and resets -/

/-- Mode requests and the resets (R41, R206, R435 to R439, R450, R463, R554): GO toward DORMANT or SENTRY sets PENDING and saves the wear
ledger, in SERVICE sends DYING_GASP and elsewhere begins the way down, as DYING_GASP's time does unless a grant to it has arrived; a request that R435 does not allow sets REFUSED and nothing else;
of a request and an event of one cycle the event goes first and the request is checked against the mode it leads to, so that a request made in
SERVICE goes down from HOLDOVER with no DYING_GASP (R41; what stands for one cycle is log entry 42); when the way down ends the block stands restarted in
its target with PWR_EN low; DEV_RESET, a device reset and RESET_N restart it in LOAD with their causes; a power-on reset restarts it
at step 1 of R438, and VDD_AON leads to step 2.
Where these rules leave a corner open, the statement speaks of the
model's choice, log entry 16. -/
def Obligations.ModesAndResets : Prop :=
  ∀ (s : State) (v : Word),
    let m := v.toNat % 8
    let alone := s.pending.head?.any modeEvent = false
    (bitAt v.toNat 31 = true → bitAt v.toNat 30 = false → alone → m ≤ 1 → 2 ≤ mode s → rd s MODE_STATUS.PENDING = 0 →
      (mode s = 4 → ∃ t, exec (.modeRequest v) s = .next t ∧ rd t MODE_STATUS.PENDING = 1 ∧ rd t MODE_CTRL.TARGET = m ∧
        t.power = { s.power with gasp := some m, gaspGrant := false } ∧ t.boot = { s.boot with ledger := t.boot.ledger } ∧
        (∀ l ∈ s.line.lasers, l.2.wear ≠ 0 → (l.1, l.2.wear) ∈ t.boot.ledger) ∧ t.join = { s.join with seq := (s.join.seq + 1) % 65536 } ∧
        (devSlot s ≠ none → ∃ p : TendPod, t.burst = { s.burst with tend := s.burst.tend ++ [p] } ∧ p.sealed = true ∧ p.mark = 2) ∧
        onlyRegs [ MODE_STATUS.PENDING, MODE_CTRL.TARGET] { s with power := t.power, join := t.join, burst := t.burst, boot := t.boot } t) ∧
      (mode s ≠ 4 → idleLine s → ∃ t, exec (.modeRequest v) s = .next t ∧ rd t MODE_STATUS.PENDING = 1 ∧ rd t MODE_CTRL.TARGET = m ∧
        goesDown s t m ∧ t.boot = { s.boot with ledger := [] } ∧
        onlyRegs (MODE_STATUS.PENDING :: MODE_CTRL.TARGET :: laneFlds s) { s with power := t.power, burst := t.burst, boot := t.boot } t)) ∧
    (bitAt v.toNat 31 = true → bitAt v.toNat 30 = false → ¬alone → ∃ t, exec (.modeRequest v) s = .next t ∧
      t.power = { s.power with ask := some m } ∧ rd t MODE_CTRL.GO = 1 ∧ rd t MODE_CTRL.TARGET = m ∧
      onlyRegs [ MODE_CTRL.GO, MODE_CTRL.TARGET] { s with power := t.power } t) ∧
    (∀ g, s.power.ask = some g → g ≤ 1 → mode s = 4 → rd s MODE_STATUS.PENDING = 0 → 8 ≤ s.time.missed → idleLine s → s.rake.grafts = [] →
      ∃ t, exec .timeMessagesLost s = .next t ∧ mode t = 5 ∧ rd t MODE_STATUS.PENDING = 1 ∧ rd t MODE_CTRL.GO = 0 ∧ t.join = s.join ∧
        t.power = { s.power with ask := none, down := some g, gasp := none } ∧ t.burst = { s.burst with grants := [] }) ∧
    (bitAt v.toNat 31 = true → bitAt v.toNat 30 = false → alone → 1 < m ∨ mode s < 2 ∨ rd s MODE_STATUS.PENDING = 1 →
      ∃ t, exec (.modeRequest v) s = .next t ∧ rd t MODE_STATUS.REFUSED = 1 ∧ rd t MODE_CTRL.TARGET = m ∧
        onlyRegs [ MODE_STATUS.REFUSED, MODE_CTRL.TARGET] s t) ∧
    (bitAt v.toNat 30 = true → ∃ t, exec (.modeRequest v) s = .next t ∧ loading s t 6 (resetStep s)) ∧
    (∀ g, s.power.gasp = some g → s.power.gaspGrant = false → grantToDev s = false → idleLine s → ∃ t, exec .dyingGaspTimeout s = .next t ∧
      goesDown s t g ∧ onlyRegs (laneFlds s) { s with power := t.power, burst := t.burst } t) ∧
    (s.power.gaspGrant = true ∨ grantToDev s = true → exec .dyingGaspTimeout s = .next { s with out := [] }) ∧
    (∀ d, d ≤ 1 → s.power.down = some d → s.mover.run = none → s.power.wake = none → s.rake.grafts = [] → ∃ t, exec .powerDownComplete s = .next t ∧
      restarted s t ∧ mode t = d ∧ rd t MODE_STATUS.WAKE_CAUSE = 0 ∧ rd t MODE_PAD.HOLD = 0xFF ∧ t.power.pwrEn = false ∧
      t.power.xtal = !(decide (d = 0) && !s.power.pwrGood)) ∧
    (mode s < 2 ∨ s.power.step = 1 → exec .deviceReset s = .next { s with out := [] }) ∧
    (2 ≤ mode s → s.power.step ≠ 1 → ∃ t, exec .deviceReset s = .next t ∧ loading s t 6 (resetStep s) ∧
      (∀ ch, ch < 64 → s.burst.air.any (fun b => b.grant.ch = ch) = true → .burstCut ch ∈ t.out) ∧
      (s.power.pwrEn = true → s.rake.grafts = [] → t.rake.main = s.rake.main)) ∧
    (¬(2 ≤ mode s ∧ (s.power.step = 1 ∨ s.power.step = 3)) → ∃ t, exec .resetNAssert s = .next t ∧ loading s t 5 (resetStep s) ∧
      t.power.resetLow = true) ∧
    (2 ≤ mode s → s.power.step = 1 ∨ s.power.step = 3 →
      exec .resetNAssert s = .next { s with power := { s.power with rstPin := true }, out := [] }) ∧
    exec .resetNRelease s = .next { s with power := { s.power with resetLow := false, rstPin := false }, out := [] } ∧
    (∃ t, exec .aonPowerOnReset s = .next t ∧ mode t = 2 ∧ t.power.step = 1 ∧ t.power.pwrEn = false ∧ t.power.xtal = false ∧
      t.fuses = s.fuses ∧ t.boot.flash = s.boot.flash ∧ t.burst = {} ∧ t.join = {} ∧ t.cipher = {} ∧ t.mover = {} ∧ t.cores = [] ∧
      t.common = [] ∧ (∀ f ∈ keptFlds, rd t f = f.rst) ∧ rd t MODE_PAD.HOLD = 0xFF) ∧
    (s.power.step = 1 → exec .vddAonPowerOn s = .next { s with power := { s.power with step := 2, xtal := true }, out := [] })

/-- Waking, the I2C side channel and the supplies (R437, R438, R440 to R443, R552, R553): a match of an address
other than the general call's is acknowledged and wakes with cause 1, at once or once PWR_GOOD has fallen, and reads 0xFF meanwhile; the side channel sets its pointer and returns its 16 bytes from there, wrapping; SENTRY wakes with cause 2
after the consecutive light hits it needs, and a cycle without a hit starts the count again; PWR_GOOD advances R438, retries after its
timeout, and counts its drops.
Where these rules leave a corner open, the statement speaks of the
model's choice, log entry 16. -/
def Obligations.WakingAndSideChannel : Prop :=
  ∀ (s : State) (addr : Nat),
    (rd s MODE_WAKE.EN = 1 → addr = rd s MODE_WAKE.ADDR → addr ≠ 0 →
      (mode s < 2 → s.power.pwrGood = false → ∃ t, exec (.i2cWake addr) s = .next t ∧ loading s t 1 (wakeStep s) ∧ .wakeAck ∈ t.out) ∧
      ((mode s < 2 ∧ s.power.pwrGood = true) ∨ (2 ≤ mode s ∧ s.power.down ≠ none) → s.power.wake = none →
        exec (.i2cWake addr) s = .next { s with power := { s.power with wake := some 1 }, out := [.wakeAck] } ∧
        ∀ n, exec (.i2cSideChannelRead addr n) s = .next { s with
          power := { s.power with wake := some 1 }, out := [.wakeAck, .i2c (List.replicate n 0xFF)] })) ∧
    (rd s MODE_WAKE.EN = 0 ∨ addr ≠ rd s MODE_WAKE.ADDR ∨ addr = 0 ∨ (2 ≤ mode s ∧ s.power.down = none) →
      exec (.i2cWake addr) s = .next { s with out := [] }) ∧
    (2 ≤ mode s → s.power.down = none → addr = rd s MODE_WAKE.ADDR →
      (∀ (x : Byte) (l : List Byte), x.toNat < 16 →
        exec (.i2cSideChannelWrite addr (x :: l)) s = .next { s with power := { s.power with ptr := x.toNat }, out := [] }) ∧
      (∀ n, ∃ l : List Byte, l.length = 16 ∧ beAt l 0 1 = mode s % 256 ∧ beAt l 1 1 = rd s PWR_THERM.STATE % 256 ∧
        beAt l 2 2 = rd s PWR_THERM.TJ % 65536 ∧ beAt l 4 2 = rd s PWR_METER.P1_W % 65536 ∧
        beAt l 6 1 = rd s MODE_STATUS.WAKE_CAUSE % 256 ∧ beAt l 7 1 = (rd s PWR_SUPPLY.WARN + 2 * b2n s.power.rstPin) % 256 ∧
        beAt l 8 8 = s.fuses.serial % 2 ^ 64 ∧
        exec (.i2cSideChannelRead addr n) s = .next { s with
          power := { s.power with ptr := (s.power.ptr + n) % 16 }
          out := [.i2c ((List.range n).map fun i => l.getD ((s.power.ptr + i) % 16) 0)] })) ∧
    (2 ≤ mode s → addr ≠ rd s MODE_WAKE.ADDR → ∀ l n, exec (.i2cSideChannelWrite addr l) s = .next { s with out := [] } ∧
      exec (.i2cSideChannelRead addr n) s = .next { s with out := [] }) ∧
    (∀ pa pb temp : List Int, mode s = 1 →
      let lit := rd s MODE_SENTRY.LIGHT_EN = 1 ∧ (rdInt s MODE_SENTRY_THR.LIGHT_DBM * 2048 ≤ sum8 pa ∨
        rdInt s MODE_SENTRY_THR.LIGHT_DBM * 2048 ≤ sum8 pb)
      (lit → s.power.pwrGood = false → max 1 (rd s MODE_SENTRY.CONSEC) ≤ s.power.hits.1 + 1 →
        ∃ t, exec (.sentryCycle pa pb temp) s = .next t ∧ loading s t 2 (wakeStep s)) ∧
      (¬lit → rd s MODE_SENTRY.DARK_EN = 0 → rd s MODE_SENTRY.TEMP_EN = 0 →
        exec (.sentryCycle pa pb temp) s = .next { s with power := { s.power with hits := (0, 0, 0) }, out := [] })) ∧
    (s.power.pwrEn = true → s.power.pwrGood = false → exec .pwrGoodRise s = .next { s with
      power := { s.power with pwrGood := true, step := if s.power.step = 3 then 4 else s.power.step }, out := [] }) ∧
    (s.power.step = 3 → s.power.pwrGood = false → ∃ t, exec .pwrGoodTimeout s = .next t ∧
      rd t SENS_STATUS.PG_RETRY = min (rd s SENS_STATUS.PG_RETRY + 1) 255 ∧ t.out = [.pin "PWR_EN" false, .pin "PWR_EN" true] ∧
      onlyRegs [SENS_STATUS.PG_RETRY] s t) ∧
    (s.power.pwrGood = true → s.power.pwrEn = true → ∃ t, exec .pwrGoodDrop s = .next t ∧
      rd t SENS_STATUS.PG_DROP = min (rd s SENS_STATUS.PG_DROP + 1) 255 ∧ t.power = { s.power with pwrGood := false } ∧
      onlyRegs [SENS_STATUS.PG_DROP] { s with power := t.power } t) ∧
    (s.power.pwrGood = true → s.power.pwrEn = false → mode s = 0 → s.power.wake = none → ∃ t, exec .pwrGoodDrop s = .next t ∧
      rd t CLK_STATUS.AON_OK = 0 ∧ t.power = { s.power with pwrGood := false, xtal := false } ∧
      onlyRegs [CLK_STATUS.AON_OK] { s with power := t.power } t)

/-- Judging clocks, the STOCK hold, DEBUG_TRACE, adaptive supply and its levels (R445 to R450, R452 to R456). REFCLK passes after
8 good windows of 152,573 to 152,602 counts and is unstable after 2 bad ones; the start of LOAD advances with the clocks; STOCK's
judgement begins afresh when its reference changes; a supply request is at most 5 mV from the last acknowledged voltage, goes to the
core rail's regulator as PAGE and VOUT_COMMAND, is acknowledged by a reading within 5 mV, repeats a failed transaction once, as the other
transactions with a regulator do, and after three tries freezes the supply with a kind-19 condition; a rail's VOUT_MODE enables or
disables it; and the supply levels warn, enter trim and reset.
Where these rules leave a corner open, the statement speaks of the
model's choice, log entries 9 and 16. -/
def Obligations.ClocksAndSupplies : Prop :=
  ∀ (s : State),
    let coreIs (q : Nat) : Prop := q < 8 ∧ isCore s q = true ∧ ∀ j, j < q → isCore s j = false
    let asks (q r : Nat) : List Output :=
      [.pmbus (rd s (PMB_RAIL.ADDR q)) 0x00 (rd s (PMB_RAIL.PAGE q)), .pmbus (rd s (PMB_RAIL.ADDR q)) 0x21 r]
    let polls (q : Nat) : List Output := [.pmbus (rd s (PMB_RAIL.ADDR q)) 0x79 0, .pmbus (rd s (PMB_RAIL.ADDR q)) 0x8B 0]
    (∀ count, lineUp s = true →
      let n := s.power.pass.get 1 0 + 1
      let k := s.power.failW.get 1 0 + 1
      (152573 ≤ count → count ≤ 152602 → n < 8 → ∃ t, exec (.clockJudgeWindow 1 count) s = .next t ∧
        rdInt t CLK_JUDGE.REFCLK_DEV = count - 152588 ∧
        t.power = { s.power with pass := s.power.pass.set 1 n 0, failW := s.power.failW.set 1 0 0 } ∧
        onlyRegs [CLK_JUDGE.REFCLK_DEV] { s with power := t.power } t) ∧
      (152573 ≤ count → count ≤ 152602 → 8 ≤ n → ∃ t, exec (.clockJudgeWindow 1 count) s = .next t ∧
        rdInt t CLK_JUDGE.REFCLK_DEV = count - 152588 ∧ rd t CLK_STATUS.REFCLK_OK = 1 ∧
        onlyRegs [CLK_JUDGE.REFCLK_DEV, CLK_STATUS.REFCLK_OK] { s with power := t.power, rakeEnds := t.rakeEnds } t) ∧
      (count < 152573 ∨ 152602 < count → 2 ≤ k → ∃ t, exec (.clockJudgeWindow 1 count) s = .next t ∧ rd t CLK_STATUS.REFCLK_OK = 0 ∧
        rd t CLK_JUDGE.FAILS = min (rd s CLK_JUDGE.FAILS + 1) 255 ∧
        (0 ∉ s.power.unstable → t.rakeIn = s.rakeIn ++ [{ kind := 18, scope := .dev, arg := 0, cycle := s.time.c / 5 }]) ∧
        onlyRegs [CLK_JUDGE.REFCLK_DEV, CLK_STATUS.REFCLK_OK, CLK_JUDGE.FAILS]
          { s with power := t.power, rakeIn := t.rakeIn, freeCtr := t.freeCtr } t)) ∧
    (∀ clk count, mode s = 2 → s.power.resetLow = false → windowNeed clk ≤ s.power.pass.get clk 0 + 1 → windowOk clk count = true →
      s.power.unstable = [] → (clk = 0 ∧ s.power.step = 2) ∨ (clk = 1 ∧ s.power.step = 4) ∨ (clk = 2 ∧ s.power.step = 5) →
      ∃ t, exec (.clockJudgeWindow clk count) s = .next t ∧ t.power.step = s.power.step + 1 ∧
        (clk = 0 → t.power.pwrEn = true ∧ t.out = [.pin "PWR_EN" true]) ∧ (clk = 2 → rd t CLK_STATUS.STOCK_SRC = 0 ∧
          rd t CLK_STATUS.STOCK_LOCK = 1)) ∧
    (mode s = 2 → s.power.step = 4 → ∃ t, exec (.clockJudgeTimeout 1) s = .next t ∧ rd t CLK_STATUS.REFCLK_OK = 0 ∧
      t.power = { s.power with pass := s.power.pass.set 1 0 0 } ∧ onlyRegs [CLK_STATUS.REFCLK_OK] { s with power := t.power } t) ∧
    (lineUp s = true → rd s CLK_STATUS.STOCK_SRC = 2 → mode s ≠ 5 ∨ rd s CLK_STATUS.REFCLK_OK = 1 → ∃ t, exec .stockHoldTimeout s = .next t ∧
      rd t CLK_STATUS.STOCK_SRC = 0 ∧ t.power = { s.power with pass := t.power.pass, failW := t.power.failW } ∧
      (∀ c, c < 2 → t.power.pass.get c 0 = s.power.pass.get c 0) ∧ (∀ c, 2 ≤ c → t.power.pass.get c 0 = 0 ∧ t.power.failW.get c 0 = 0) ∧
      onlyRegs [CLK_STATUS.STOCK_SRC] { s with power := t.power } t) ∧
    (2 ≤ mode s → ∃ t, exec .debugTraceEnable s = .next t ∧ rd t (CLK_DOM.RUN_EN 24) = 1 ∧ rd t MODE_PAD.HOLD = rd s MODE_PAD.HOLD % 128 ∧
      onlyRegs [CLK_DOM.RUN_EN 24, CLK_DOM.SLEEP_EN 24, CLK_DOM.DEEP_EN 24, MODE_PAD.HOLD] s t) ∧
    (∀ x q, 2 ≤ mode s → bitAt (rd s MODE_PAD.HOLD) 5 = false → coreIs q → s.power.request = none → rd s PWR_SUPPLY.WARN = 0 → rd s PWR_AVS.FROZEN = 0 →
      let want := max 620 (min 800 x)
      let a := rd s PWR_AVS.ACK_MV
      let r := if a < want then min want (a + 5) else max want (a - 5)
      ∃ t, exec (.avsCompute x) s = .next t ∧ rd t PWR_AVS.TARGET_MV = want ∧
        (a = want → t.out = [] ∧ t.power = s.power) ∧
        (a ≠ want → t.out = asks q r ∧ t.power = { s.power with request := some r, tries := 1, retry := false }) ∧
        onlyRegs [PWR_AVS.TARGET_MV] { s with power := t.power } t) ∧
    (∀ r st vout q, s.power.request = some r → r < 1024 → coreIs q →
      (bitAt st 15 = false → bitAt st 11 = false → vout ≤ r + 5 → r ≤ vout + 5 → ∃ t, exec (.avsPoll (.ok st vout)) s = .next t ∧
        rd t PWR_AVS.ACK_MV = r ∧ (rd s PWR_AVS.ACK_MV < r → rd t PWR_AVS.FROZEN = 0) ∧ t.out = polls q ∧
        t.power = { s.power with request := none, tries := 0, retry := false } ∧
        onlyRegs [PWR_AVS.ACK_MV, PWR_AVS.FROZEN] { s with power := t.power, rakeEnds := t.rakeEnds } t) ∧
      (∃ t, exec (.avsPoll .nack) s = .next t ∧ rd t PMB_STATUS.NACK = min (rd s PMB_STATUS.NACK + 1) 0xFFFF ∧ t.out = polls q ∧
        t.power = { s.power with retry := !s.power.retry } ∧ onlyRegs [PMB_STATUS.NACK] { s with power := t.power } t) ∧
      (∃ t, exec (.avsPoll .cmdPec) s = .next t ∧ rd t PMB_STATUS.PEC_ERR = min (rd s PMB_STATUS.PEC_ERR + 1) 0xFFFF ∧
        (s.power.retry = false → t.out = asks q r) ∧ (s.power.retry = true → t.out = []) ∧
        t.power = { s.power with retry := !s.power.retry } ∧ onlyRegs [PMB_STATUS.PEC_ERR] { s with power := t.power } t) ∧
      (s.power.tries < 3 → exec .avsTimeout s = .next { s with
        power := { s.power with tries := s.power.tries + 1, retry := false }, out := asks q r }) ∧
      (3 ≤ s.power.tries → ∃ t, exec .avsTimeout s = .next t ∧ rd t PWR_AVS.FROZEN = 1 ∧
        rd t PWR_SUPPLY.TIMEOUTS = min (rd s PWR_SUPPLY.TIMEOUTS + 1) 255 ∧ t.power = { s.power with request := none, tries := 0 } ∧
        (rd s PWR_SUPPLY.WARN = 0 → rd s PWR_AVS.FROZEN = 0 → t.rakeIn = s.rakeIn ++ [{ kind := 19, scope := .dev, arg := 0, cycle := s.time.c / 5 }]) ∧
        onlyRegs [PWR_AVS.FROZEN, PWR_SUPPLY.TIMEOUTS] { s with power := t.power, rakeIn := t.rakeIn } t)) ∧
    (∀ r b, r < 8 → 2 ≤ mode s →
      (∃ t, exec (.avsPoll (.voutMode r b)) s = .next t ∧ rd t (PMB_RAIL.DISABLED r) = b2n (!b) ∧ onlyRegs [PMB_RAIL.DISABLED r] s t) ∧
      ∀ pec again cmd arg, bitAt (rd s MODE_PAD.HOLD) 5 = false →
        let f := if pec = true then PMB_STATUS.PEC_ERR else PMB_STATUS.NACK
        ∃ t, exec (.avsPoll (.failed pec again r cmd arg)) s = .next t ∧ rd t f = min (rd s f + 1) 0xFFFF ∧
          t.out = (if again = true then [] else [.pmbus (rd s (PMB_RAIL.ADDR r)) cmd arg]) ∧ onlyRegs [f] s t) ∧
    (∀ mv, 2 ≤ mode s →
      (mv < warnLevel s → rd s PWR_SUPPLY.WARN = 0 → rd s PWR_AVS.FROZEN = 0 → ∃ t, exec (.supplyWarning mv) s = .next t ∧ rd t PWR_SUPPLY.WARN = 1 ∧
        rd t PWR_SUPPLY.WARNS = min (rd s PWR_SUPPLY.WARNS + 1) 255 ∧ rd t PWR_SUPPLY.VSENSE_MV = min mv 1023 ∧
        t.rakeIn = s.rakeIn ++ [{ kind := 19, scope := .dev, arg := 0, cycle := s.time.c / 5 }] ∧ t.power = { s.power with warned := true } ∧
        onlyRegs [PWR_SUPPLY.WARN, PWR_SUPPLY.WARNS, PWR_SUPPLY.VSENSE_MV] { s with power := t.power, rakeIn := t.rakeIn } t) ∧
      (warnLevel s ≤ mv → ∃ t, exec (.supplyWarning mv) s = .next t ∧ rd t PWR_SUPPLY.WARN = 0 ∧ rd t PWR_SUPPLY.VSENSE_MV = min mv 1023 ∧
        onlyRegs [PWR_SUPPLY.WARN, PWR_SUPPLY.VSENSE_MV] { s with rakeEnds := t.rakeEnds } t) ∧
      (s.power.pwrEn = true → mv < resetLevel s → ∃ t, exec (.supplyReset mv) s = .next t ∧ loading s t 8 4)) ∧
    (rd s PWR_SUPPLY.WARN = 1 → rd s PWR_THERM.STATE ≠ 2 → ∃ t, exec .supplyWarningSustained s = .next t ∧
      thermGoes s t (rd s PWR_THERM.STATE) 2 ∧ onlyRegs thermFlds
        { s with power := t.power, rakeIn := t.rakeIn, rakeEnds := t.rakeEnds, burst := t.burst, join := t.join } t)

/-- The thermal state, laser wear and the sensors (R205, R458 to R460, R462, R463, R564, R565). At the end of a second above 1,100 W, NORMAL leads
to SURGE, and NORMAL or SURGE to TRIM once more than 20 of the last 200 were such; a second at or below 1,100 W leads from SURGE to
NORMAL, and the tenth quiet one from TRIM to NORMAL; its power is that of every rail in use, which READ_VOUT and READ_IOUT sample; the conditions at once lead from NORMAL or SURGE to TRIM, where a second above
1,050 W lowers GAIN_CAP again. Each change is reported, and repeated outside NORMAL; 105 °C resets. A laser's use adds to its wear what
R463 says, in units of 1/1,000 equivalent second (the unit, and which neighbour stands for a charge between two, are the model's choice,
log entry 32), and the ledger holds it. A conversion that ends sets its sensors, and TJ to the hottest valid temperature (the reading of
"hottest" is the model's, log entry 22); AUTO starts every group's conversion. -/
def Obligations.ThermalWearAndSensors : Prop :=
  ∀ (s : State),
    let st := rd s PWR_THERM.STATE
    let g := rd s LINE_SOA_LIMIT.GAIN_CAP
    let low := max 0x200 (rd s LINE_SOA_LIMIT.FLOOR)
    (∀ p1 i1, 2 ≤ mode s →
      let n := (((decide (1100000 < p1)) :: s.power.surge).take 200 |>.filter id).length
      let calm := p1 ≤ 1050000 ∧ rdInt s PWR_THERM.TJ ≤ trimTj s - 80 ∧ i1 < 1250000 ∧ s.power.warned = false
      let ends (t : State) : Prop := exec (.thermalSecond p1 i1) s = .next t ∧ rd t PWR_METER.P1_W = min 65535 (p1 / 1000) ∧
        rd t PWR_THERM.SURGE_S = n ∧ t.power.p1 = p1 ∧
        (∀ r, r < 8 → rd s (PMB_RAIL.EN r) = 1 → rd s (PMB_RAIL.DISABLED r) = 0 → bitAt (rd s MODE_PAD.HOLD) 5 = false →
          .pmbus (rd s (PMB_RAIL.ADDR r)) 0x8B 0 ∈ t.out ∧ .pmbus (rd s (PMB_RAIL.ADDR r)) 0x8C 0 ∈ t.out) ∧ t.time = { s.time with ratio := t.time.ratio } ∧
        onlyRegs (PWR_METER.P1_W :: PWR_THERM.SURGE_S :: thermFlds) { s with
          power := t.power, time := t.time, rakeIn := t.rakeIn, rakeEnds := t.rakeEnds, burst := t.burst, join := t.join, freeCtr := t.freeCtr } t
      let stays (t : State) : Prop := rd t PWR_THERM.STATE = st ∧ t.rakeIn = s.rakeIn ∧ t.rakeEnds = s.rakeEnds ∧ t.burst = s.burst ∧
        t.join = s.join
      (st = 0 → 1100000 < p1 → n ≤ 20 → ∃ t, ends t ∧ thermGoes s t 0 1) ∧
      (st ≤ 1 → 1100000 < p1 → 20 < n → ∃ t, ends t ∧ thermGoes s t st 2) ∧
      (st = 1 → p1 ≤ 1100000 → ∃ t, ends t ∧ thermGoes s t 1 0) ∧
      (st = 2 → 9 ≤ s.power.quiet → calm → ∃ t, ends t ∧ thermGoes s t 2 0) ∧
      ((st = 0 ∧ p1 ≤ 1100000) ∨ (st = 1 ∧ 1100000 < p1 ∧ n ≤ 20) → ∃ t, ends t ∧ stays t ∧ rd t LINE_SOA_LIMIT.GAIN_CAP = g) ∧
      (st = 2 → ¬calm ∨ s.power.quiet < 9 → ∃ t, ends t ∧ stays t ∧ t.power.quiet = (if calm then s.power.quiet + 1 else 0) ∧
        (p1 ≤ 1050000 → rd t LINE_SOA_LIMIT.GAIN_CAP = g) ∧
        (1050000 < p1 → g < 1024 → low < 1024 → rd t LINE_SOA_LIMIT.GAIN_CAP = max low (g - 16 * max 1 (rd s PWR_TRIM.SOA_STEP))))) ∧
    (∀ mean i1, 2 ≤ mode s →
      let now := 1180000 < mean ∨ trimTj s ≤ rdInt s PWR_THERM.TJ ∨ 1300000 ≤ i1
      (st ≠ 2 → now → ∃ t, exec (.thermalFastCheck mean i1) s = .next t ∧ thermGoes s t st 2 ∧
        rd t PWR_METER.IOUT_A = min 65535 (i1 / 1000) ∧ onlyRegs (PWR_METER.IOUT_A :: thermFlds)
          { s with power := t.power, rakeIn := t.rakeIn, rakeEnds := t.rakeEnds, burst := t.burst, join := t.join } t) ∧
      (st = 2 ∨ ¬now → ∃ t, exec (.thermalFastCheck mean i1) s = .next t ∧
        rd t PWR_METER.IOUT_A = min 65535 (i1 / 1000) ∧ onlyRegs [PWR_METER.IOUT_A] s t)) ∧
    (st ≠ 0 → ∃ t, exec .thermalStateRepeat s = .next t ∧ thermSent s t ∧ t = { s with burst := t.burst, join := t.join, out := [] }) ∧
    (st = 0 → exec .thermalStateRepeat s = .next { s with out := [] }) ∧
    (∀ tj : Int, 2 ≤ mode s → s.power.pwrEn = true → (1680 ≤ tj → tj < 32768 → ∃ t, exec (.thermalReset tj) s = .next t ∧ loading s t 7 4 ∧
      rdInt t PWR_THERM.TJ = tj) ∧ (tj < 1680 → exec (.thermalReset tj) s = .next { s with out := [] })) ∧
    (∀ u : WearUse, 2 ≤ mode s → u.e < 128 → Table.wf s.line.lasers {} = true → u.emit ≤ u.lit →
      ∃ (t : State) (r : Nat), exec (.wearLedgerWrite [u]) s = .next t ∧
      (let d := u.temp - 45 * 256
       (0 ≤ d → (r - 1) ^ 2560 ≤ 1000 ^ 2560 * 2 ^ d.toNat ∧ 1000 ^ 2560 * 2 ^ d.toNat < (r + 1) ^ 2560) ∧
       (d < 0 → (r - 1) ^ 2560 * 2 ^ (-d).toNat ≤ 1000 ^ 2560 ∧ 1000 ^ 2560 < (r + 1) ^ 2560 * 2 ^ (-d).toNat) ∧
       (∀ k : Nat, d = 2560 * k → r = 1000 * 2 ^ k) ∧ (∀ k : Nat, k ≤ 3 → d = -(2560 * k) → r * 2 ^ k = 1000)) ∧
      (laserOf t u.tx u.e).wear = (laserOf s u.tx u.e).wear +
        (if u.tx = true then r * ((u.lit - u.emit) * 1023 ^ 2 + u.emit * u.gain ^ 2) / 1023 ^ 2 else r * u.lit) ∧
      (∀ tx e, e < 128 → ¬(tx = u.tx ∧ e = u.e) → laserOf t tx e = laserOf s tx e) ∧
      (∀ l ∈ t.line.lasers, l.2.wear ≠ 0 → (l.1, l.2.wear) ∈ t.boot.ledger) ∧ t.boot.flash = s.boot.flash ∧ sameMem s t ∧
      t = { s with line := { s.line with lasers := t.line.lasers }, boot := { s.boot with ledger := t.boot.ledger }, out := [] }) ∧
    (∀ (g : Nat) (vals : List Int), g ∈ s.mgmt.conv →
      let count := if s.fuses.variant = 2 then 16 else 32
      (g = 4 → ∃ t, exec (.sensorConversionComplete g vals) s = .next t ∧ t.mgmt = { s.mgmt with conv := s.mgmt.conv.erase g } ∧
        (∀ i, i < 8 → rd t (SENS_VOLT.VALID i) = 1 ∧ rd t (SENS_VOLT.MV i) = (vals.getD i 0).toNat % 2 ^ 13) ∧
        onlyRegs ((List.range 8).map SENS_VOLT.VALID ++ (List.range 8).map SENS_VOLT.MV) { s with mgmt := t.mgmt } t) ∧
      (g < 4 → (∀ j, j < count → rd s (SENS_TEMP.TEMP j) < 65536) → (∀ i, -32768 ≤ vals.getD i 0 ∧ vals.getD i 0 < 32768) →
        ∃ t, exec (.sensorConversionComplete g vals) s = .next t ∧ t.mgmt = { s.mgmt with conv := s.mgmt.conv.erase g } ∧
        (∀ i, i < 8 → 8 * g + i < count → rd t (SENS_TEMP.VALID (8 * g + i)) = 1 ∧ rdInt t (SENS_TEMP.TEMP (8 * g + i)) = vals.getD i 0) ∧
        (8 * g < count → rd t SENS_STATUS.HOT < count ∧ rdInt t (SENS_TEMP.TEMP (rd t SENS_STATUS.HOT)) = rdInt t PWR_THERM.TJ) ∧
        (∀ j, j < count → rd t (SENS_TEMP.VALID j) = 1 → rdInt t (SENS_TEMP.TEMP j) ≤ rdInt t PWR_THERM.TJ) ∧
        onlyRegs (SENS_STATUS.HOT :: PWR_THERM.TJ :: ((List.range 8).map fun i => SENS_TEMP.VALID (8 * g + i)) ++
          (List.range 8).map fun i => SENS_TEMP.TEMP (8 * g + i)) { s with mgmt := t.mgmt } t)) ∧
    (∀ (g : Nat) (vals : List Int), g ∉ s.mgmt.conv → exec (.sensorConversionComplete g vals) s = .next { s with out := [] }) ∧
    (rd s SENS_CTRL.AUTO = 1 → 2 ≤ mode s → ∃ t, exec .sensorAutoConversion s = .next t ∧ (∀ g, g < 5 → g ∈ t.mgmt.conv) ∧
      (∀ g, g ∈ t.mgmt.conv → g < 5 ∨ g ∈ s.mgmt.conv) ∧ (s.mgmt.conv = [] → t.mgmt.conv = [0, 1, 2, 3, 4]) ∧
      t = { s with mgmt := { s.mgmt with conv := t.mgmt.conv }, out := [] })

/-! ### Line optics -/

/-- Lasers, segments, doze, the ramp and the SOA limit (R48, R63 to R68, R74, R76, R460). Enabling a channel starts its dark laser
TUNING at the calibrated set point and disabling it leaves the laser DARK; settling, the lock timeout (a fault event) and, unless
the way down of R436 has begun, the retry after LOST move it on; every segment is decoded and handed on under the alignment that the
Dibber found, or under the one kept where it found none, which counts, and is dead and a kind-2 event straight out of doze; the
receiver dozes on exactly where R66 lets it; a non-monotone ramp is refused; and GAIN_CAP is never below its floor and in trim only
falls. How the Dibber correlates and how soft bits are formed is the model's choice, log entry 18, and
what counts a preamble missed right after a lock is log entry 40's. -/
def Obligations.LasersAndReceivers : Prop :=
  ∀ (s : State) (k : Nat), k < chans s → ownEngines s →
    (∀ (tx : Bool) (v : Word),
      let c : Instr := if tx = true then .ltxEnableWrite k v else .lrxEnableWrite k v
      let en := if tx = true then LTX_CTRL.ENABLE k else LRX_CTRL.ENABLE k
      let rs := [en, laserFld tx k] ++ (if tx = true then [] else [LRX_CTRL.DOZE_EN k])
      let l := laserOf s tx k
      let ch := assignedCh s tx k
      (v.toNat % 2 = 1 → lineUp s = true → s.power.down = none → l.st = 0 → tx = true ∨ s.power.ask = none → tx = true ∨ rd s (LRX_STATUS.DOZING k) = 0 → ∃ t, exec c s = .next t ∧ rd t en = 1 ∧
        laserGoes s t tx k { l with
          st := 1, chan := ch, good := 0, temp := l.tnow, code := heaterCode (calOf s tx k ch) l.tnow } ∧
        onlyRegs rs { s with line := t.line } t) ∧
      (v.toNat % 2 = 0 → tx = true → (∀ b ∈ s.burst.air, b.grant.ch ≠ l.chan) → ∃ t, exec c s = .next t ∧ rd t en = 0 ∧
        (laserOf t tx k).st = 0 ∧ onlyRegs rs { s with line := t.line } t) ∧
      (v.toNat % 2 = 0 → tx = false → noTree s → s.power.ask = none → ∃ t, exec c s = .next t ∧ rd t en = 0 ∧ (laserOf t tx k).st = 0 ∧
        rd t (FRM_STATUS.STATE k) = 0 ∧ rd t (LRX_STATUS.DOZING k) = 0)) ∧
    (∀ tx : Bool,
      let l := laserOf s tx k
      (l.st = 1 → ∃ t, exec (.laserSettled tx k) s = .next t ∧ laserGoes s t tx k { l with st := 2, good := 0 } ∧
        onlyRegs [laserFld tx k] { s with line := t.line } t) ∧
      (l.st = 2 → ∃ t, exec (.laserLockTimeout tx k) s = .next t ∧ laserGoes s t tx k { l with st := 4, good := 0 } ∧
        t.rakeIn = s.rakeIn ++ [{ kind := if tx = true then 3 else 1, scope := .row (k / 2), arg := k, loc := k, cycle := s.time.c / 5 }] ∧
        onlyRegs [laserFld tx k] { s with line := t.line, rakeIn := t.rakeIn } t) ∧
      (l.st = 4 → s.power.down ≠ none → exec (.laserLostRetry tx k) s = .next { s with out := [] }) ∧
      (l.st = 4 → s.power.down = none → ∃ t, exec (.laserLostRetry tx k) s = .next t ∧ laserGoes s t tx k
          { l with st := 1, good := 0, temp := l.tnow, code := heaterCode (calOf s tx k l.chan) l.tnow } ∧
        onlyRegs [laserFld tx k] { s with line := t.line } t)) ∧
    (∀ g : RxSeg, rxAwake s k = true →
      let r := rxOf s k
      let det := dibber (rd s LINE_DIBBER.THRESH) g.own.samples
      let a := det.getD r.align
      let m := decodeSegment a g.own.samples
      let dead : Prop := det = none ∧ r.back = true
      let doze (stay : Bool) : Prop := mode s = 4 ∧ rd s (LRX_CTRL.DOZE_EN k) = 1 ∧ k ≠ timingCh s ∧ inSync s k = true ∧ stay = false ∧
        ((huntOf s k).fc + (airSeg s k + 1 + r.run) / 16) % 2 ^ 32 ∉ s.line.wake ∧ 0 < dozeRun r.doze (airSeg s k + 1 + r.run) 16
      let fr := [LRX_STATUS.PREAMBLE_OK k, LRX_STATUS.FREQ_ERR k, LRX_CORR.COUNT k, LRX_UNCORR.COUNT k, LRX_MISS.MISS_DOZE k,
        LRX_MISS.MISS_AWAKE k, LRX_STATUS.DOZING k]
      ∃ t, exec (.segmentAcquire k g) s = .next t ∧
        (∃ d : DecSeg, (rxOf t k).inbox = r.inbox ++ [d] ∧ d.skip = r.run ∧ d.c = s.time.c ∧ (d.dead = true ↔ dead) ∧
          (¬dead → d.payload = packBytes 50115 m.payload ∧ d.bad = m.bad)) ∧
        (rxOf t k).align = a ∧ (rxOf t k).taps = g.own.taps ∧ (rxOf t k).back = false ∧
        ((rxOf t k).stay = true ↔ det = none ∧ (r.stay = true ∨ r.back = true)) ∧
        (det ≠ none → rd t (LRX_STATUS.PREAMBLE_OK k) = 1 ∧ (rxOf t k).gain = g.own.gain ∧
          (rxOf t k).afc = r.afc + roundHalfEven (g.own.est - r.afc) 4) ∧
        (det = none → rd t (LRX_STATUS.PREAMBLE_OK k) = 0 ∧ (rxOf t k).gain = r.gain ∧ (rxOf t k).afc = r.afc) ∧
        (dead → rd t (LRX_MISS.MISS_DOZE k) = min (rd s (LRX_MISS.MISS_DOZE k) + 1) 0xFFFF ∧
          t.rakeIn = s.rakeIn ++ [{ kind := 2, scope := .row (k / 2), arg := k, loc := k, cycle := s.time.c / 5 }]) ∧
        (det = none → r.back = false → rd t (LRX_MISS.MISS_AWAKE k) = min (rd s (LRX_MISS.MISS_AWAKE k) + 1) 0xFFFF) ∧
        (¬dead → t.rakeIn = s.rakeIn ∧
          rd t (LRX_CORR.COUNT k) = min (rd s (LRX_CORR.COUNT k) + m.corrected) (2 ^ 32 - 1) ∧
          rd t (LRX_UNCORR.COUNT k) = min (rd s (LRX_UNCORR.COUNT k) + m.bad.length) (2 ^ 32 - 1)) ∧
        (rd t (LRX_STATUS.DOZING k) = 1 ↔ doze (rxOf t k).stay) ∧
        (doze (rxOf t k).stay → (rxOf t k).run = dozeRun r.doze (airSeg s k + 1 + r.run) 16) ∧
        onlyRegs fr { s with line := t.line, rakeIn := t.rakeIn } t) ∧
    (rd s (LRX_STATUS.DOZING k) = 1 → ∃ t, exec (.rxDozeRestore k) s = .next t ∧ rd t (LRX_STATUS.DOZING k) = 0 ∧
      rd t (LRX_DOZE.COUNT k) = min (rd s (LRX_DOZE.COUNT k) + (rxOf s k).run) (2 ^ 32 - 1) ∧ rxOf t k = { rxOf s k with back := true } ∧
      onlyRegs [LRX_STATUS.DOZING k, LRX_DOZE.COUNT k] { s with line := t.line } t) ∧
    (let level (i : Nat) := rd s (LINE_RAMP.LEVEL i)
     ((∀ i, i < 15 → level i ≤ level (i + 1)) → ∃ t, exec .rampCommit s = .next t ∧ rd t LINE_CTRL.RAMP_COMMIT = 0 ∧
        t.line = { s.line with ramp := (List.range 16).map level } ∧ onlyRegs [LINE_CTRL.RAMP_COMMIT] { s with line := t.line } t) ∧
     (∀ i, i < 15 → level (i + 1) < level i → ∃ t, exec .rampCommit s = .next t ∧ rd t LINE_STATUS.RAMP_ERR = 1 ∧
        rd t LINE_CTRL.RAMP_COMMIT = 0 ∧ onlyRegs [LINE_CTRL.RAMP_COMMIT, LINE_STATUS.RAMP_ERR] s t)) ∧
    (∀ v : Word,
      let floor := max 0x200 (v.toNat / 2 ^ 16 % 1024)
      let gain := max floor (v.toNat % 1024)
      let now := rd s LINE_SOA_LIMIT.GAIN_CAP
      ∃ t, exec (.soaLimitWrite v) s = .next t ∧ rd t LINE_SOA_LIMIT.FLOOR = floor ∧
        (rd s PWR_THERM.STATE ≠ 2 → rd t LINE_SOA_LIMIT.GAIN_CAP = gain ∧ onlyRegs [LINE_SOA_LIMIT.FLOOR, LINE_SOA_LIMIT.GAIN_CAP] s t) ∧
        (rd s PWR_THERM.STATE = 2 → rd t PWR_TRIM.SOA_SAVED = gain ∧ rd t LINE_SOA_LIMIT.GAIN_CAP = max floor (min now gain) ∧
          onlyRegs [LINE_SOA_LIMIT.FLOOR, LINE_SOA_LIMIT.GAIN_CAP, PWR_TRIM.SOA_SAVED] s t))

/-- The protection tree, the timing receiver and the optical grafts (R70, R78 to R84, R131). LOS of the connector in use is a kind-4
condition; after HOLDOFF with the other connector lit, or on FORCE or the head end's command, the switch moves, except within 100 ms of the
last automatic one, and with both connectors in LOS never; the timing receiver is the lowest channel in SYNC at first, and moves to the
named channel with the skew carried over; a spare receiver reads headers beside the engine that it replaces, and a spare whose
generation is its shadow's then serves the channel: a transmitter outside bursts, a receiver once it has read a header, and for a
fenced receiver at once, with its Hunt in HUNT.
Where these rules leave a corner open, the statement speaks of the
model's choice, log entries 18, 19 and 39. -/
def Obligations.ProtectionTimingAndSpares : Prop :=
  ∀ s : State, 2 ≤ mode s → s.power.ask = none →
    let conn := rd s LINE_STATUS.CONN
    let los (c : Nat) : Fld := if c = 0 then LINE_STATUS.LOS_A else LINE_STATUS.LOS_B
    (∀ c, c < 2 → conn < 2 → rd s (los (1 - c)) = 0 →
      (rd s (los c) = 0 → s.line.losRaised = 0 → ∃ t, exec (.losDeclare c) s = .next t ∧ rd t (los c) = 1 ∧
        t.rakeIn = (if c = conn then s.rakeIn ++ [{ kind := 4, scope := .dev, arg := c, cycle := s.time.c / 5 }] else s.rakeIn) ∧
        onlyRegs [los c] { s with line := t.line, rakeIn := t.rakeIn } t) ∧
      (s.line.losRaised = (if c = conn then 2 ^ c else 0) → ∃ t, exec (.losClear c) s = .next t ∧ rd t (los c) = 0 ∧
        t.rakeEnds = (if c = conn then s.rakeEnds ++ [{ kind := 4, scope := .dev, arg := c }] else s.rakeEnds) ∧
        onlyRegs [los c] { s with line := t.line, rakeEnds := t.rakeEnds } t)) ∧
    (conn < 2 → rd s (los conn) = 1 → rd s (los (1 - conn)) = 0 → rd s LINE_CTRL.FORCE = 0 ∨ rd s LINE_CTRL.FORCE = 3 →
      rd s LINE_CTRL.AUTO_EN = 1 →
      (s.line.lastSwitch = none → mode s ≤ 3 → noTree s → ∃ t, exec .losHoldoffExpiry s = .next t ∧ switched s t (1 - conn)) ∧
      (∀ x, s.line.lastSwitch = some x → x ≤ s.time.c → s.time.c < x + 125000000 → s.time.c < 2 ^ 64 →
        exec .losHoldoffExpiry s = .next { s with out := [] })) ∧
    (∀ c, c < 2 → c ≠ conn → rd s LINE_CTRL.FORCE = c + 1 ∨ (rd s LINE_CTRL.FORCE = 0 ∧ s.line.switchCmd = some c) →
      (rd s LINE_STATUS.LOS_A = 0 ∨ rd s LINE_STATUS.LOS_B = 0 → mode s ≤ 3 → noTree s →
        ∃ t, exec .protectionSwitch s = .next t ∧ switched s t c) ∧
      (rd s LINE_STATUS.LOS_A = 1 → rd s LINE_STATUS.LOS_B = 1 →
        exec .protectionSwitch s = .next { s with out := [], line := { s.line with switchCmd := none } })) ∧
    (∃ t, exec .switchSettled s = .next t ∧ rd t LINE_STATUS.SWITCHING = 0 ∧ onlyRegs [LINE_STATUS.SWITCHING] s t) ∧
    (∀ k, k < chans s → lineUp s = true → s.line.timed = true → rd s LINE_CLK_SRC.AUTO = 0 →
      let old := rd s LINE_CLK_SRC.CURRENT
      (rd s LINE_CLK_SRC.CHANNEL = k → rd s (FRM_STATUS.STATE k) = 2 → k ≠ old → old < 64 → ∃ t, exec .timingRxChange s = .next t ∧
        rd t LINE_CLK_SRC.CURRENT = k ∧ rd t LINE_CLK_SRC.FALLBACK = 0 ∧ rd t (LRX_STATUS.CLOCK_SRC k) = 1 ∧
        rd t (LRX_STATUS.CLOCK_SRC old) = 0 ∧ (rd s (LRX_STATUS.DOZING k) = 0 → t.line = s.line) ∧
        t.burst = { s.burst with ufcOff := if rd s (BURST_SKEW.VALID k) = 1 then rdInt s (BURST_SKEW.SKEW k) + s.burst.ufcOff else 0 }) ∧
      (old = k → rd s (FRM_STATUS.STATE k) = 2 → rd s (FRM_STATUS.STATE (rd s LINE_CLK_SRC.CHANNEL)) ≠ 2 → rd s LINE_CLK_SRC.FALLBACK = 0 →
        ∃ t, exec .timingRxChange s = .next t ∧ rd t LINE_CLK_SRC.CURRENT = k ∧ rd t LINE_CLK_SRC.FALLBACK = 1 ∧
          (rd s (LRX_STATUS.DOZING k) = 0 → t.line = s.line) ∧ t.burst = s.burst)) ∧
    (∀ k, k < chans s → lineUp s = true → s.line.timed = false → rd s LINE_CLK_SRC.AUTO = 1 → rd s (FRM_STATUS.STATE k) = 2 →
      (∀ j, j < k → rd s (FRM_STATUS.STATE j) ≠ 2) → ∃ t, exec .timingRxChange s = .next t ∧ rd t LINE_CLK_SRC.CURRENT = k ∧
        rd t (LRX_STATUS.CLOCK_SRC k) = 1 ∧ t.line.timed = true ∧ t.burst = { s.burst with ufcOff := 0 }) ∧
    (∀ (k e : Nat) (g : RxSeg) (p : DspSeg), g.par = some p → s.line.rxGraft.find k = some e → lineUp s = true →
      (laserOf s false e).st = 3 → rxGone s k = false → rd s LINE_STATUS.SWITCHING = 0 →
      let x := s.line.rxPar.get k {}
      let a := acquireSeg (rd s LINE_DIBBER.THRESH) x.rx p
      ∃ t, exec (.segmentAcquire k g) s = .next t ∧
        t.line.rxPar.get k {} = { rx := a.rx, read := x.read || hdrValid k (a.seg s p.phase 0) }) ∧
    (∀ (tx : Bool) (k : Nat) (g : Graft), k < chans s → lockedGraft s tx k = some g → admits s g = true → g.unit.idx ≠ g.spare.idx →
      let c : Instr := if tx = true then .txGraftSwitchover k else .rxGraftSwitchover k
      (g.fenced = false → (tx = true → emitting s k = false) → (tx = false → (s.line.rxPar.get k {}).read = true) →
        ∃ t, exec c s = .next t ∧ engOf t tx k = g.spare.idx ∧
          rd t (if tx = true then LTX_STATUS.GRAFTED k else LRX_STATUS.GRAFTED k) = (if g.spare.idx = k then 0 else 1) ∧
          engFenced t tx g.unit.idx = true ∧ t.rake.grafts = s.rake.grafts.filter (fun x => x.spare ≠ g.spare) ∧
          t.fuses = s.fuses ∧ t.common = s.common) ∧
      (g.fenced = false → (tx = true ∧ emitting s k = true) ∨ (tx = false ∧ (s.line.rxPar.get k {}).read = false) →
        exec c s = .next { s with out := [] }) ∧
      (g.fenced = true → ∃ t, exec c s = .next t ∧ engOf t tx k = g.spare.idx ∧ (tx = false → rd t (FRM_STATUS.STATE k) = 0)))

/-! ### Framer, Trellis and bursts -/

/-- The Hunt of a channel (R91, R92, R94, R102, R111): a segment with a valid header takes HUNT and LOSS to PRESYNC, another leaves
the state; in PRESYNC the next frame's header must continue the count, once more to stay and a second time for SYNC, in whatever mode,
else the search starts again from where it came; a segment that is not a frame's first only advances the position; in SYNC a frame whose
header continues the count clears the misses, one after a valid header that was itself unexpected and one less is accepted as a jump with
the EXT of R102, and any other is read under its prediction, counts, and as the fourth in a row takes SYNC to LOSS with LOF_EVENT, and
SERVICE to HOLDOVER where no channel is left in SYNC; an errored map counts, grants nothing and keeps every receiver awake for the next
frame. A valid header of the timing receiver shows PROFILE and TREE_ID and, with SF_INDEX 0, is held against the Trellis page in use (R125);
in SYNC its frame start is recorded (R93) and moves the upstream frame clock (R130). Where these rules leave a corner open, SF_INDEX
counted from the prediction among them, the statement speaks of the model's choice, log entries 19 and 39. -/
def Obligations.HuntFollowsStateTable : Prop :=
  ∀ (s : State) (k : Nat) (g : DecSeg) (rest : List DecSeg), k < chans s → lineUp s = true → s.power.ask = none →
    (rxOf s k).inbox = g :: rest →
    let h := huntOf s k
    let st := rd s (FRM_STATUS.STATE k)
    let v := hdrOf g
    let fc := hdrFc v
    let sf := hdrSf v
    let ok := hdrValid k g = true
    let next := ok ∧ fc = h.pred ∧ sf = (h.sf + 1) % 125
    let jumps := ok ∧ fc ≠ h.pred ∧ ∃ f, h.jump = some f ∧ fc = (f + 1) % 2 ^ 32
    let lost := ¬next ∧ ¬jumps
    let i := (h.seg + g.skip) % 16
    let oneMore (t : State) (f : Fld) := rd t f = min (rd s f + 1) (2 ^ f.width - 1)
    let quiet (t : State) := onlyRegs [FRM_STATUS.STATE k, FRM_STATUS.SF_INDEX k] { s with line := t.line, hunts := t.hunts } t ∧
      rxOf t k = { rxOf s k with inbox := rest } ∧ ∀ j, j ≠ k → huntOf t j = huntOf s j
    let found (t : State) (conf : Nat) (loss : Bool) := rd t (FRM_STATUS.STATE k) = 1 ∧ rd t (FRM_STATUS.SF_INDEX k) = sf ∧
      huntOf t k = { h with pred := (fc + 1) % 2 ^ 32, conf := conf, fromLoss := loss, sf := sf, fc := fc, seg := 1 }
    let presync (t : State) (conf : Nat) (loss : Bool) := found t conf loss ∧ quiet t
    let inSyncAt (t : State) (fc sf miss : Nat) := rd t (FRM_STATUS.STATE k) = 2 ∧ (huntOf t k).miss = miss ∧
      (huntOf t k).pred = (fc + 1) % 2 ^ 32 ∧ (huntOf t k).fc = fc ∧ (huntOf t k).sf = sf ∧ (huntOf t k).seg = 1
    let sameTree := inService s = true → rd s JOIN_STATUS.STATE = 7 → rd s JOIN_TREE.VALID = 1 → rd s JOIN_TREE.TREE_ID = bits v 38 16
    let page := bits v 62 1
    let shown (t : State) := rd t FRM_TREE.PROFILE = bits v 70 4 ∧ rd t FRM_TREE.TREE_ID = bits v 38 16 ∧
      (sf ≠ 0 → rd t TRELLIS_STATUS.ACTIVE = rd s TRELLIS_STATUS.ACTIVE ∧ t.trellis.miss = s.trellis.miss) ∧
      (sf = 0 → page = rd s TRELLIS_STATUS.ACTIVE → rd t TRELLIS_STATUS.ACTIVE = page ∧ t.trellis.miss = none) ∧
      (sf = 0 → page ≠ rd s TRELLIS_STATUS.ACTIVE → rd s TRELLIS_CTRL.READY = 1 → rd t TRELLIS_STATUS.ACTIVE = page ∧
        rd t TRELLIS_CTRL.READY = 0 ∧ t.trellis.miss = none) ∧
      (sf = 0 → page ≠ rd s TRELLIS_STATUS.ACTIVE → rd s TRELLIS_CTRL.READY = 0 → rd t TRELLIS_STATUS.ACTIVE = rd s TRELLIS_STATUS.ACTIVE ∧
        rd t TRELLIS_STATUS.PAGE_MISS = 1 ∧ t.trellis.miss = some g.c)
    (s.line.timed = false ∨ k ≠ rd s LINE_CLK_SRC.CURRENT →
      (st = 0 ∨ st = 3 → ok → ∃ t, exec (.huntSegment k) s = .next t ∧ presync t 0 (decide (st = 3))) ∧
      (st = 0 ∨ st = 3 → ¬ok → ∃ t, exec (.huntSegment k) s = .next t ∧ rd t (FRM_STATUS.STATE k) = st ∧
        huntOf t k = { h with seg := 0 } ∧ quiet t) ∧
      (st = 1 → i ≠ 0 → ∃ t, exec (.huntSegment k) s = .next t ∧ huntOf t k = { h with seg := (i + 1) % 16 } ∧ quiet t) ∧
      (st = 1 → i = 0 → next → h.conf = 0 → ∃ t, exec (.huntSegment k) s = .next t ∧ presync t 1 h.fromLoss) ∧
      (st = 1 → i = 0 → ok → ¬next → ∃ t, exec (.huntSegment k) s = .next t ∧ presync t 0 h.fromLoss) ∧
      (st = 1 → i = 0 → ¬ok → ∃ t, exec (.huntSegment k) s = .next t ∧
        rd t (FRM_STATUS.STATE k) = (if h.fromLoss = true then 3 else 0) ∧ huntOf t k = { h with seg := 0 } ∧ quiet t) ∧
      (st = 2 → i ≠ 0 → ∃ t, exec (.huntSegment k) s = .next t ∧ (huntOf t k).seg = (i + 1) % 16 ∧
        (huntOf t k).areas.length = h.areas.length + (if g.dead = true then 0 else 1) ∧ quiet t) ∧
      (st = 2 → i = 0 → jumps → ∃ t, exec (.huntSegment k) s = .next t ∧ inSyncAt t fc sf 0 ∧ (huntOf t k).jump = none ∧
        (rd s (FRM_STATUS.EXT_VALID k) = 0 → (huntOf t k).ext = fc) ∧
        (rd s (FRM_STATUS.EXT_VALID k) = 1 →
          let p48 := (h.ext + 1) % 2 ^ 48
          let d := signed32 fc (p48 % 2 ^ 32)
          ((huntOf t k).ext : Int) = (p48 + d) % 2 ^ 48 ∧ (d ≠ 0 → rd t (FRM_STATUS.FC_JUMP k) = 1) ∧
            (d < 0 → rd t (FRM_STATUS.FC_REGRESS k) = 1))) ∧
      (st = 2 → i = 0 → ¬next → ok → ¬jumps → h.miss < 3 → ∃ t, exec (.huntSegment k) s = .next t ∧
        (huntOf t k).jump = if fc = h.pred then none else some fc) ∧
      (st = 2 → i = 0 → next → mapBad g = true → ∃ t, exec (.huntSegment k) s = .next t ∧ oneMore t (FRM_MAP.ERRORED k) ∧
        t.burst.grants = s.burst.grants ∧ (fc + 1) % 2 ^ 32 ∈ t.line.wake)) ∧
    (s.line.timed = true → k = rd s LINE_CLK_SRC.CURRENT → sameTree →
      (st = 0 ∨ st = 3 → ok → ∃ t, exec (.huntSegment k) s = .next t ∧ found t 0 (decide (st = 3)) ∧ shown t) ∧
      (st = 1 → i = 0 → next → h.conf = 0 → ∃ t, exec (.huntSegment k) s = .next t ∧ found t 1 h.fromLoss ∧ shown t) ∧
      (st = 2 → i = 0 → next → ∃ t, exec (.huntSegment k) s = .next t ∧ shown t ∧
        (let h' := huntOf t k
         (h'.uStart : Int) = ((g.u : Int) - s.time.cal.get k 0) % timeWrap ∧
          t.time.ring.find (h'.ext % 128) = some { fc := fc, ts := tsOf h'.uStart, frac := fracOf h'.uStart, ext := h'.ext } ∧
          t.burst.ufcFc = fc ∧ t.burst.ufcOk = true ∧ t.burst.ufcT = 115 * h'.uStart - s.burst.ufcOff * 65536 ∧
          t.trellis.prev = s.trellis.cur ∧
          t.trellis.cur = some { fc := fc, ext := h'.ext, page := rd t TRELLIS_STATUS.ACTIVE, miss := pageMissed t g.c }))) ∧
    (sameTree →
      (st = 1 → i = 0 → next → 1 ≤ h.conf → ∃ t, exec (.huntSegment k) s = .next t ∧ rd t (FRM_STATUS.STATE k) = 2 ∧
        rd t FRM_TREE.TREE_LOF = 0 ∧ mode t = mode s) ∧
      (st = 2 → i = 0 → next → ∃ t, exec (.huntSegment k) s = .next t ∧ inSyncAt t fc sf 0) ∧
      (st = 2 → i = 0 → lost → h.miss < 3 → ∃ t, exec (.huntSegment k) s = .next t ∧
        inSyncAt t h.pred ((h.sf + 1) % 125) (h.miss + 1) ∧ oneMore t (if hdrValid k g = true then FRM_HDR.MISMATCH k else FRM_HDR.MISSED k)) ∧
      (st = 2 → i = 0 → lost → 3 ≤ h.miss →
        (mode s = 3 → ∃ t, exec (.huntSegment k) s = .next t ∧ rd t (FRM_STATUS.STATE k) = 3 ∧ rd t (FRM_STATUS.LOF_EVENT k) = 1) ∧
        (∀ j, j < chans s → j ≠ k → rd s (FRM_STATUS.STATE j) = 2 → rd s FRM_TREE.TREE_LOF = 0 →
          ∃ t, exec (.huntSegment k) s = .next t ∧ rd t (FRM_STATUS.STATE k) = 3 ∧ rd t (FRM_STATUS.LOF_EVENT k) = 1 ∧ mode t = mode s) ∧
        ((∀ j, j < chans s → j ≠ k → rd s (FRM_STATUS.STATE j) ≠ 2) → mode s = 4 → s.power.down = none → rd s FRM_TREE.TREE_LOF = 0 →
          ∃ t, exec (.huntSegment k) s = .next t ∧ rd t (FRM_STATUS.STATE k) = 3 ∧ rd t (FRM_STATUS.LOF_EVENT k) = 1 ∧
            rd t FRM_TREE.TREE_LOF = 1 ∧ mode t = 5)))

/-- The frame reference, pods and the Trellis (R101, R112 to R127): LOAD gives every channel in SYNC its extended count; reading
FRM_EXT_LO latches the high half; a broken pod header drops the rest of its area and counts; pods of others and idle pods are passed
over, a pod of a reserved type counts, packet pods go to the cipher engine once per frame, key and index, input groups to the Trellis
once per frame and group; the Trellis empties its frame, and an enabled tributary's frame carries its 8-byte slots, all ones where a slot
is missing; and the page in use refuses writes. A pod of a reserved type that is not whole counts in ERRORED alone: the model's choice,
log entry 39. -/
def Obligations.FramerPodsAndTrellis : Prop :=
  (∀ (s : State) (v : Word),
    let hi := v.toNat % 65536
    let e := hi * 2 ^ 32 + rd s FRM_EXT_REF_LO.REF_LO
    (2 ^ 31 ≤ v.toNat → rd s FRM_EXT_REF_LO.REF_LO < 2 ^ 32 → ∃ t, exec (.extRefLoad v) s = .next t ∧ rd t FRM_EXT_REF_HI.REF_VALID = 1 ∧
      rd t FRM_EXT_REF_HI.REF_HI = hi ∧ rd t FRM_EXT_REF_HI.LOAD = 0 ∧ t.join.eref = some e ∧
      ∀ k, k < chans s → rd s (FRM_STATUS.STATE k) = 2 → rd t (FRM_STATUS.EXT_VALID k) = 1 ∧
        ((huntOf t k).ext : Int) = ((e : Int) + signed32 (huntOf s k).fc (e % 2 ^ 32)) % 2 ^ 48) ∧
    (v.toNat < 2 ^ 31 → ∃ t, exec (.extRefLoad v) s = .next t ∧ rd t FRM_EXT_REF_HI.REF_HI = hi ∧ onlyRegs [FRM_EXT_REF_HI.REF_HI] s t)) ∧
  (∀ (s : State) (k : Nat), k < chans s → ∃ t, exec (.frmExtLoRead k) s = .next t ∧
    t.readData = BitVec.ofNat 32 (huntOf s k).ext ∧ rd t (FRM_EXT_HI.EXT_HI k) = (huntOf s k).ext / 2 ^ 32 % 65536 ∧
    onlyRegs [FRM_EXT_HI.EXT_HI k] { s with readData := t.readData } t) ∧
  (∀ (s : State) (k : Nat) (a : PodArea) (rest : List PodArea), k < chans s → (huntOf s k).areas = a :: rest →
    let o := a.off
    let hdr := slice a.payload o 10
    let v := beNat hdr
    let len := bits v 16 16
    let ty := bits v 64 4
    let tid := bits v 68 12
    let key := bits v 50 14
    let index := bits v 32 16
    let good := touches a.bad o (o + 10) = false ∧ crc16 (hdr.take 8) = bits v 0 16 ∧ o + 10 + len ≤ 50115
    let whole := touches a.bad (o + 10) (o + 10 + len) = false
    let mine := tid = 4095 ∨ (rd s JOIN_TID.VALID = 1 ∧ tid = rd s JOIN_TID.TID)
    let on : Hunt := { huntOf s k with areas := { a with off := o + 10 + len } :: rest }
    let off : Hunt := { huntOf s k with areas := rest }
    let body := slice a.payload (o + 10) len
    (50105 < o → ∃ t, exec (.podDelineate k) s = .next t ∧ huntOf t k = off ∧ t = { s with hunts := t.hunts, out := [] }) ∧
    (o ≤ 50105 → ¬good → ∃ t, exec (.podDelineate k) s = .next t ∧ huntOf t k = off ∧
      rd t (FRM_POD.DELIN k) = min (rd s (FRM_POD.DELIN k) + 1) (2 ^ (FRM_POD.DELIN k).width - 1) ∧
      onlyRegs [FRM_POD.DELIN k] { s with hunts := t.hunts } t) ∧
    (o ≤ 50105 → good → ¬mine ∨ ty = 0 → ∃ t, exec (.podDelineate k) s = .next t ∧ huntOf t k = on ∧
      t = { s with hunts := t.hunts, out := [] }) ∧
    (o ≤ 50105 → good → mine → ty ≠ 0 → ¬whole → ∃ t, exec (.podDelineate k) s = .next t ∧ huntOf t k = on ∧
      rd t (FRM_POD.ERRORED k) = min (rd s (FRM_POD.ERRORED k) + 1) (2 ^ (FRM_POD.ERRORED k).width - 1) ∧
      onlyRegs [FRM_POD.ERRORED k] { s with hunts := t.hunts } t) ∧
    (o ≤ 50105 → good → mine → whole → 5 ≤ ty → ∃ t, exec (.podDelineate k) s = .next t ∧ huntOf t k = on ∧
      rd t (FRM_PODX.TYPE_UNK k) = min (rd s (FRM_PODX.TYPE_UNK k) + 1) (2 ^ (FRM_PODX.TYPE_UNK k).width - 1) ∧
      onlyRegs [FRM_PODX.TYPE_UNK k] { s with hunts := t.hunts } t) ∧
    (o ≤ 50105 → good → mine → whole → ty = 4 → (a.fc, index % 1024) ∈ (huntOf s k).groups → ∃ t, exec (.podDelineate k) s = .next t ∧
      huntOf t k = on ∧ t = { s with hunts := t.hunts, out := [] }) ∧
    (o ≤ 50105 → good → mine → whole → ty = 4 → (a.fc, index % 1024) ∉ (huntOf s k).groups → ∃ t, exec (.podDelineate k) s = .next t ∧
      huntOf t k = { on with groups := (a.fc, index % 1024) :: on.groups } ∧ t.trellis = { s.trellis with input :=
        s.trellis.input ++ [{ fc := a.fc, k := k, group := index % 1024, body := body.take 8192 }] } ∧
      t = { s with hunts := t.hunts, trellis := t.trellis, out := [] }) ∧
    (o ≤ 50105 → good → mine → whole → ty = 1 ∨ ty = 3 →
      ((a.fc, key, index) ∉ (huntOf s k).seen → ∃ t, exec (.podDelineate k) s = .next t ∧ huntOf t k = { on with seen := (a.fc, key, index) :: on.seen } ∧
        t.cipher.input.get (k / 2) [] = s.cipher.input.get (k / 2) [] ++ [{ k := k, hdr := hdr, body := body, ext := a.ext, extOk := a.extOk }] ∧
        t = { s with hunts := t.hunts, cipher := t.cipher, out := [] }) ∧
      ((a.fc, key, index) ∈ (huntOf s k).seen → ∃ t, exec (.podDelineate k) s = .next t ∧ huntOf t k = on ∧
        rd t (FRM_PODX.INDEX_DUP k) = min (rd s (FRM_PODX.INDEX_DUP k) + 1) (2 ^ (FRM_PODX.INDEX_DUP k).width - 1) ∧
        onlyRegs [FRM_PODX.INDEX_DUP k] { s with hunts := t.hunts } t))) ∧
  (∀ s : State, s.trellis.prev = none → exec .trellisEmit s = .next { s with out := [] }) ∧
  (∀ (s : State) (f : TrellisFrame), s.trellis.prev = some f →
    (∃ t, exec .trellisEmit s = .next t ∧ t.trellis = { s.trellis with
      prev := none, input := s.trellis.input.filter fun x => 0 < signed32 x.fc f.fc }) ∧
    (rd s TRELLIS_CTRL.ENABLE = 0 → ∃ t, exec .trellisEmit s = .next t ∧ t.trellis.prev = none ∧ t.trellis.cur = s.trellis.cur ∧
      t = { s with trellis := t.trellis, out := [] }) ∧
    (∀ n P, n < 256 → rd s TRELLIS_CTRL.ENABLE = 1 → rd s (TRELLIS_TRIB.ENABLE f.page n) = 1 →
      (∀ m, m < 256 → m ≠ n → rd s (TRELLIS_TRIB.ENABLE f.page m) = 0) →
      let base := rd s (TRELLIS_TRIB.BASE f.page n)
      let m1 := rd s (TRELLIS_TRIB.COUNT_M1 f.page n)
      base + m1 ≤ 4095 → P = 8 * rd s (TRELLIS_TRIB.GROW f.page n) + rd s (TRELLIS_TRIB.PORT f.page n) →
      rd s (TRELLIS_TRIB.GROW f.page n) < rows s → portFormed s P = true → portUpNow s P = true →
      ∃ t, exec .trellisEmit s = .next t ∧ t.trellis.prev = none ∧
        (∃ l, t.sched.trib.find n = some (P, tplHeader s (rd s (TRELLIS_TRIB.TEMPLATE f.page n)) P ++ beBytes 2 n ++ beBytes 2 f.ext ++ l) ∧
          l.length = 8 * (m1 + 1) ∧ ∀ i, i ≤ m1 → slice l (8 * i) 8 = (trellisSlot s f (base + i)).getD (List.replicate 8 0xFF)) ∧
        onlyRegs (TRELLIS_AIS.COUNT n :: mirrored (SCHED_DN_PORT_DROP.TRIB_REPL P)) { s with trellis := t.trellis, sched := t.sched } t)) ∧
  (∀ (s : State) (p i : Nat) (trib : Bool) (v : Word), p < 2 → i < (if trib = true then 256 else 4096) →
    (p = rd s TRELLIS_STATUS.ACTIVE → ∃ t, exec (.trellisPageWrite p trib i v) s = .next t ∧ rd t TRELLIS_STATUS.WR_REFUSED = 1 ∧
      onlyRegs [TRELLIS_STATUS.WR_REFUSED] s t) ∧
    (p ≠ rd s TRELLIS_STATUS.ACTIVE → ∃ t, exec (.trellisPageWrite p trib i v) s = .next t ∧ rd t TRELLIS_CTRL.READY = 0 ∧
      (trib = true → rd t (TRELLIS_TRIB.ENABLE p i) = v.toNat / 2 ^ 31 % 2 ∧ rd t (TRELLIS_TRIB.GROW p i) = v.toNat / 2 ^ 26 % 32 ∧
        rd t (TRELLIS_TRIB.PORT p i) = v.toNat / 2 ^ 23 % 8 ∧ rd t (TRELLIS_TRIB.TEMPLATE p i) = v.toNat / 2 ^ 19 % 16 ∧
        rd t (TRELLIS_TRIB.BASE p i) = v.toNat / 2 ^ 7 % 4096 ∧ rd t (TRELLIS_TRIB.COUNT_M1 p i) = v.toNat % 128 ∧
        onlyRegs [TRELLIS_CTRL.READY, TRELLIS_TRIB.ENABLE p i, TRELLIS_TRIB.GROW p i, TRELLIS_TRIB.PORT p i, TRELLIS_TRIB.TEMPLATE p i,
          TRELLIS_TRIB.BASE p i, TRELLIS_TRIB.COUNT_M1 p i] s t) ∧
      (trib = false → rd t (TRELLIS_CONN.VALID p i) = v.toNat / 2 ^ 31 % 2 ∧ rd t (TRELLIS_CONN.CHANNEL p i) = v.toNat / 2 ^ 25 % 64 ∧
        rd t (TRELLIS_CONN.GROUP p i) = v.toNat / 2 ^ 15 % 1024 ∧ rd t (TRELLIS_CONN.SLOT p i) = v.toNat / 2 ^ 5 % 1024 ∧
        onlyRegs [TRELLIS_CTRL.READY, TRELLIS_CONN.VALID p i, TRELLIS_CONN.CHANNEL p i, TRELLIS_CONN.GROUP p i, TRELLIS_CONN.SLOT p i] s t)))

/-- Bursts and the equalization delay (R49, R133, R137, R142, R143, R148 to R154, R190, R201, R206): a write of EQD is in force for the upstream
frames that begin at or after it, and re-times their data and ranging grants; the earliest grant becomes a burst with the pod area of
its length; a burst leaves with the header of R143 and its SOA on when check 4 of R136 still holds, else counts in NOTX, and with it
its discovery window is used, or is a collision at once where a later window has been announced (R174, R175); and its end
counts, turns the SOA off, takes the retuned transmitter on, and starts what waited for it. When a value of EQD is in force, and that
BURST_TRANSMIT and not the ramp sets SOA_ON, is the model's reading, log entries 20 and 21. -/
def Obligations.BurstsLeaveAndEnd : Prop :=
  (∀ (s : State) (v : Word),
    let e := v.toNat % 2 ^ 28
    let w : Int := 115 * (now s : Int)
    let base (g : Grant) : Int := g.t0 - (1840000 + g.eqd + 64 * g.start : Nat) * 65536
    let stays (g : Grant) : Prop := g.kind = 1 ∨ base g + (1840000 + e : Nat) * 65536 < w
    (∃ t, exec (.eqdWrite v) s = .next t ∧ rd t BURST_EQD.EQD = e ∧ rd t BURST_STATUS.EQD_PENDING = 1 ∧
      t.burst.eqds = (w, rd s BURST_EQD.EQD) :: s.burst.eqds ∧
      (∀ fc, eqdFor t fc = if ufcTime s fc + (1840000 + e : Nat) * 65536 < w then eqdFor s fc else e) ∧
      ((∀ g ∈ s.burst.grants ++ s.burst.bursts.map (·.grant), stays g) → t.burst = { s.burst with eqds := t.burst.eqds } ∧
        onlyRegs [BURST_EQD.EQD, BURST_STATUS.EQD_PENDING] { s with burst := t.burst } t) ∧
      ((∀ g ∈ s.burst.grants, ¬stays g) → s.burst.bursts = [] → s.burst.air = [] → t.burst = { s.burst with
        eqds := t.burst.eqds
        grants := s.burst.grants.map fun g => { g with
          eqd := e, t0 := (base g + (1840000 + e + 64 * g.start : Nat) * 65536).toNat } })) ∧
    (∃ t, exec .eqdApply s = .next t ∧ rd t BURST_STATUS.EQD_PENDING = 0 ∧ t.burst = { s.burst with eqds := [] } ∧
      (∀ fc, eqdFor t fc = rd s BURST_EQD.EQD) ∧ onlyRegs [BURST_STATUS.EQD_PENDING] { s with burst := t.burst } t)) ∧
  (∀ (s : State) (g : Grant), earliest s.burst.grants = some g → ∃ t b, exec .burstAssemble s = .next t ∧
    t.burst.grants = s.burst.grants.filter (fun x => x ≠ g) ∧ t.burst.bursts = s.burst.bursts ++ [b] ∧ b.grant = g ∧
    b.area = 15420 * (64 * (g.len - (if g.long = true then 25 else 13)) / 2208) / 8 - 16 ∧ t.burst.air = s.burst.air ∧
    (g.kind = 1 → t.join = { s.join with seq := (s.join.seq + 1) % 65536 } ∧ b.slot = none ∧ b.rptAll = 0 ∧
      ∃ p r, b.pods = p :: r ∧ p.ty = 2 ∧ p.body = tendMsg 0x40 s.join.seq (beBytes 8 s.fuses.serial ++
        beBytes 1 (if rd s JOIN_CTRL.MAX_PROFILE = 2 then 4 else 12) ++ beBytes 1 (chans s) ++ beBytes 1 (rd s JOIN_STATUS.WARM) ++
        List.replicate 5 0)) ∧
    (g.kind = 0 → (∀ n, n < 256 → rd s (ALLOC_LO.VALID n) = 1 → rd s (ALLOC_LO.ID n) ≠ g.alloc) → b.slot = none ∧
      b.frames = [] ∧ ∀ p ∈ b.pods, p.ty = 0)) ∧
  (∀ (s : State) (b : Burst), firstBurst s b.grant.ch = some b → (∀ x ∈ s.burst.air, x.grant.ch ≠ b.grant.ch) →
    (∀ n, b.slot = some n → n ∉ s.burst.removing) → b.grant.cnt < 64 → b.rptAll < 2 ^ 24 → b.rptHigh < 2 ^ 16 →
    let g := b.grant
    (check4 s g = true → rd s LINE_STATUS.SWITCHING = 0 → ∃ t b1 payload, exec (.burstTransmit g.ch) s = .next t ∧
      t.burst.bursts = s.burst.bursts.filter (fun x => x ≠ b) ∧ t.burst.air = s.burst.air ++ [b1] ∧ b1.grant = g ∧
      rd t (LTX_STATUS.SOA_ON g.cnt) = 1 ∧
      t.out = [.burst g.ch g.t0 (g.t0 - 115 * s.time.cal.get (64 + g.ch) 0) payload (burstLight (rampOf s) g.long g.len payload)
        (rd s LINE_SOA_LIMIT.GAIN_CAP)] ∧
      payload.length = 16 + b.area + burstBlocks g.long g.len % 2 ∧ beAt payload 4 4 = g.fc % 2 ^ 32 ∧
      beAt payload 14 2 = crc16 (payload.take 14) ∧
      ∀ w, g.kind = 1 → g.win = some w →
        (s.join.lastWin ≤ w.2 → t.join.used = w :: s.join.used) ∧
        (w.2 < s.join.lastWin → t.join.used = s.join.used ∧ (w.1 = 0 → rd t JOIN_STATUS.CW = min (2 * rd s JOIN_STATUS.CW) 64 ∧
          rd t JOIN_DISC.COLLIDED = min (rd s JOIN_DISC.COLLIDED + 1) 0xFFFF))) ∧
    (check4 s g = false ∨ rd s LINE_STATUS.SWITCHING = 1 → b.frames = [] → b.tend = [] → ∃ t, exec (.burstTransmit g.ch) s = .next t ∧
      t.burst = { s.burst with bursts := s.burst.bursts.filter (fun x => x ≠ b) } ∧
      rd t (BURST_SKIPX.NOTX g.cnt) = min (rd s (BURST_SKIPX.NOTX g.cnt) + 1) 0xFFFF ∧
      onlyRegs [BURST_SKIPX.NOTX g.cnt] { s with burst := t.burst, join := t.join } t)) ∧
  (∀ (s : State) (b : Burst), s.burst.air.find? (fun x => x.grant.ch = b.grant.ch) = some b → b.grant.cnt < 64 →
    let g := b.grant
    let air := s.burst.air.filter fun x => x.grant.ch ≠ g.ch
    let sent (t : State) : Prop := exec (.burstEnd g.ch) s = .next t ∧ t.burst = { s.burst with air := air } ∧
      rd t (BURST_SENT.COUNT g.cnt) = min (rd s (BURST_SENT.COUNT g.cnt) + 1) (2 ^ (BURST_SENT.COUNT g.cnt).width - 1) ∧
      rd t (LTX_STATUS.SOA_ON g.cnt) = 0
    let regs := [BURST_SENT.COUNT g.cnt, LTX_STATUS.SOA_ON g.cnt]
    (g.kind ≠ 3 ∨ s.join.tuned ≠ some g.ch →
      (s.join.swTarget = none ∨ (∀ p ∈ b.tend, p.mark ≠ 1) → (∀ p ∈ b.tend, p.mark ≠ 2) → ∃ t, sent t ∧ onlyRegs regs { s with burst := t.burst } t) ∧
      (∀ c p, s.join.swTarget = some c → p ∈ b.tend → p.mark = 1 → (∀ q ∈ b.tend, q.mark ≠ 2) → ∃ t, sent t ∧
        t.line = { s.line with switchCmd := some c } ∧ t.join = { s.join with swTarget := none } ∧
        onlyRegs regs { s with burst := t.burst, line := t.line, join := t.join } t) ∧
      (∀ m p, s.power.gasp = some m → p ∈ b.tend → p.mark = 2 → ∃ t, exec (.burstEnd g.ch) s = .next t ∧ t.power.down = some m ∧
        t.power.gasp = none)) ∧
    (g.kind = 3 → s.join.tuned = some g.ch → s.join.swTarget = none → (∀ p ∈ b.tend, p.mark ≠ 2) →
      (∀ v r, s.join.visits = v :: r → ∃ t, exec (.burstEnd g.ch) s = .next t ∧ t.join = { s.join with visits := r, tuned := some v }) ∧
      (s.join.visits = [] → ∃ t, exec (.burstEnd g.ch) s = .next t ∧ t.join = { s.join with visits := [], tuned := none })))

/-- Allocation slots (R134, R155 to R158): an addition takes the lowest free slot, or answers 2, 3, 4 or 5 and takes none; a removal is marked at
once and, with no burst of it in progress, empties the slot and counts its frames; KEY may be rewritten.
Where these rules leave a corner open, the statement speaks of the
model's choice, log entry 20. -/
def Obligations.AllocationSlots : Prop :=
  ∀ (s : State) (v : Word),
    let id := rd s BURST_ALLOC_ADD_LO.ID
    let owner := rd s BURST_ALLOC_ADD_LO.OWNER
    let key := v.toNat % 2 ^ 14
    let held (n : Nat) := rd s (ALLOC_LO.VALID n) = 1
    let known := ∃ n, n < 256 ∧ held n ∧ rd s (ALLOC_LO.ID n) = id
    let own8 := ∃ n, n < 256 ∧ held n ∧ rd s (ALLOC_LO.OWNER n) = 8
    let legal := owner = 8 ∨ owner < beds s
    let base := [BURST_ALLOC_ADD_HI.KEY, BURST_ALLOC_ADD_HI.RESULT]
    let refused (r : Nat) := ∃ t, exec (.burstAllocAdd v) s = .next t ∧ rd t BURST_ALLOC_ADD_HI.RESULT = r ∧
      rd t BURST_ALLOC_ADD_HI.KEY = key ∧ onlyRegs (base ++ if r = 5 then [BURST_STATUS.ALLOC_FULL] else []) s t ∧
      (r = 5 → rd t BURST_STATUS.ALLOC_FULL = 1)
    (2 ^ 31 ≤ v.toNat → id < 65536 → owner < 16 →
      (legal → ¬known → (owner = 8 → ¬own8) → ∀ n, n < 256 → ¬held n → (∀ m, m < n → held m) → rd s BURST_STATUS.ALLOC_USED < 256 →
        ∃ t, exec (.burstAllocAdd v) s = .next t ∧ rd t BURST_ALLOC_ADD_HI.RESULT = 1 ∧ rd t BURST_ALLOC_ADD_HI.SLOT = n ∧
          rd t (ALLOC_LO.VALID n) = 1 ∧ rd t (ALLOC_LO.OWNER n) = owner ∧ rd t (ALLOC_LO.ID n) = id ∧ rd t (ALLOC_HI.KEY n) = key ∧
          rd t BURST_STATUS.ALLOC_USED = rd s BURST_STATUS.ALLOC_USED + 1 ∧
          onlyRegs (base ++ [BURST_ALLOC_ADD_HI.SLOT, ALLOC_LO.VALID n, ALLOC_LO.OWNER n, ALLOC_LO.ID n, ALLOC_HI.KEY n,
            BURST_STATUS.ALLOC_USED]) s t) ∧
      (¬legal → refused 2) ∧ (legal → known → refused 3) ∧ (¬known → owner = 8 → own8 → refused 4) ∧
      (legal → ¬known → (owner = 8 → ¬own8) → (∀ n, n < 256 → held n) → refused 5)) ∧
    (∀ n, n < 256 → held n →
      ((∀ b ∈ s.burst.bursts, b.slot ≠ some n) → ∃ t, exec (.allocRemove n) s = .next t ∧ rd t (ALLOC_LO.REMOVE n) = 1 ∧
        n ∈ t.burst.removing ∧ (∀ g ∈ t.burst.grants, ¬(g.kind ≠ 1 ∧ g.alloc = rd s (ALLOC_LO.ID n))) ∧ t.burst.queues = s.burst.queues ∧
        onlyRegs [ALLOC_LO.REMOVE n] { s with burst := t.burst } t) ∧
      (n ∈ s.burst.removing → (∀ b ∈ s.burst.air ++ s.burst.bursts, b.slot ≠ some n) → ∃ t, exec (.allocRemoveApply n) s = .next t ∧
        rd t (ALLOC_LO.VALID n) = 0 ∧ rd t (ALLOC_LO.OWNER n) = 0 ∧ rd t (ALLOC_LO.ID n) = 0 ∧ rd t (ALLOC_HI.KEY n) = 0 ∧
        (∀ q r, q < 8 → r < 4 → fifo t n q r = []) ∧ t.burst.removing = s.burst.removing.erase n ∧
        rd t BURST_DROPX.REMOVED = min (rd s BURST_DROPX.REMOVED + (slotFrames s n).length) 0xFFFF) ∧
      (∃ t, exec (.allocKeyWrite n v) s = .next t ∧ rd t (ALLOC_HI.KEY n) = key ∧ onlyRegs [ALLOC_HI.KEY n] s t))

/-! ### Joining -/

/-- Discovery and identification (R174 to R182). A new search starts over with CW 1; an announcement of the search joined waits with its
window, and a window used before it whose result is missing counts as a collision; a collision doubles CW up to 64 and waits fewer than CW
windows; the terminal's own result leads to IDENTIFIED; and ASSIGN_TID takes the identifier, the device allocation, the tree, the
profile and the equalization delay, leads to RANGING and is answered, keeps the keys on a warm rejoin of the same identity, is ignored
with LAST_EXIT 7 where it names a profile not offered, and is refused in other states.
Where these rules leave a corner open, the statement speaks of the
model's choice, log entry 21. -/
def Obligations.DiscoveryAndIdentification : Prop :=
  ∀ (s : State) (m : Msg),
    let b := m.body
    let read : JoinSt := { s.join with inbox := s.join.inbox.erase m }
    let ignored (i : Instr) := exec i s = .next { s with join := read, out := [] }
    let cw := min (2 * rd s JOIN_STATUS.CW) 64
    let forgotten : BurstSt := { s.burst with
      grants := s.burst.grants.map fun g => { g with win := none }
      bursts := s.burst.bursts.map fun b => { b with grant := { b.grant with win := none } } }
    let collides (t : State) := rd t JOIN_STATUS.CW = cw ∧ t.join.count < cw ∧
      rd t JOIN_DISC.COLLIDED = min (rd s JOIN_DISC.COLLIDED + 1) 0xFFFF ∧
      onlyRegs [JOIN_STATUS.CW, JOIN_DISC.COLLIDED] { s with join := t.join, freeCtr := t.freeCtr } t
    (nextMsg s m 0x01 →
      let w : Win := {
        search := beAt b 0 1, mode := b2n (bitAt (beAt b 1 1) 6), window := beAt b 2 2, channel := beAt b 4 1 % 64,
        prefixLen := beAt b 5 1, pfx := beAt b 16 8, winFc := beAt b 8 4, eqd := beAt b 12 4 % 2 ^ 28 }
      let kept := if w.prefixLen ≤ 64 ∧ 0 < signed32 w.winFc m.fc then [w] else []
      let new := bitAt (beAt b 1 1) 7 = true
      (joining s 1 ∨ joining s 2 → new → ∃ t, exec .discAnnounce s = .next t ∧ rd t JOIN_STATUS.STATE = 1 ∧ rd t JOIN_STATUS.CW = 1 ∧
        t.join = { read with search := some w.search, count := 0, wins := kept, used := [], lastWin := w.window } ∧ t.burst = forgotten ∧
        onlyRegs [JOIN_STATUS.STATE, JOIN_STATUS.CW] { s with join := t.join, burst := t.burst } t) ∧
      (joining s 1 → ¬new → s.join.search = some w.search →
        ((∀ x ∈ s.join.used, w.window ≤ x.2) → exec .discAnnounce s = .next { s with
          join := { read with wins := s.join.wins ++ kept, lastWin := max s.join.lastWin w.window }, out := [] }) ∧
        (∀ x, s.join.used = [x] → x.1 = 0 → x.2 < w.window → 1 ≤ rd s JOIN_STATUS.CW → ∃ t, exec .discAnnounce s = .next t ∧
          collides t ∧ t.join.used = [] ∧ t.join.wins = s.join.wins ++ kept)) ∧
      ((¬joining s 1 ∧ ¬joining s 2) ∨ (¬new ∧ (joining s 2 ∨ s.join.search ≠ some w.search)) → ignored .discAnnounce)) ∧
    (nextMsg s m 0x02 →
      let mine := joining s 1 ∧ s.join.search = some (beAt b 0 1)
      let got := s.join.used.find? fun x => x.2 = beAt b 2 2
      let own := beAt b 1 1 = 1 ∧ beAt b 8 8 = s.fuses.serial
      (∀ x, mine → got = some x →
        (own → ∃ t, exec .discResult s = .next t ∧ rd t JOIN_STATUS.STATE = 2 ∧ t.join = { read with used := s.join.used.erase x } ∧
          onlyRegs [JOIN_STATUS.STATE] { s with join := t.join } t) ∧
        (¬own → x.1 = 0 → 1 ≤ rd s JOIN_STATUS.CW → ∃ t, exec .discResult s = .next t ∧ collides t ∧ t.join.used = s.join.used.erase x) ∧
        (¬own → x.1 ≠ 0 → exec .discResult s = .next { s with join := { read with used := s.join.used.erase x }, out := [] })) ∧
      (¬mine ∨ got = none → ignored .discResult)) ∧
    (nextMsg s m 0x03 →
      let tid := beAt b 8 2 % 4096
      let alloc := beAt b 10 2
      let prof := beAt b 16 1
      let named := beAt b 0 8 = s.fuses.serial ∧ tid ≠ 4095
      let offered := prof = 2 ∨ (prof = 3 ∧ rd s JOIN_CTRL.MAX_PROFILE ≠ 2)
      let same := rd s JOIN_STATUS.WARM = 1 ∧ rd s JOIN_TID.TID = tid ∧ rd s JOIN_TREE.TREE_ID = rd s FRM_TREE.TREE_ID ∧
        rd s JOIN_STATUS.PROFILE = prof
      (named → offered → joining s 1 ∨ joining s 2 → ¬same ∨ addResult s alloc 8 = 1 → rd s FRM_TREE.TREE_ID < 65536 →
        ∃ t, exec .assignTid s = .next t ∧ rd t JOIN_STATUS.STATE = 3 ∧
        rd t JOIN_TID.VALID = 1 ∧ rd t JOIN_TID.TID = tid ∧ rd t JOIN_TID.DEV_ALLOC = alloc ∧ rd t JOIN_TREE.VALID = 1 ∧
        rd t JOIN_TREE.TREE_ID = rd s FRM_TREE.TREE_ID ∧ rd t JOIN_STATUS.PROFILE = prof ∧ rd t BURST_EQD.EQD = beAt b 12 4 % 2 ^ 28 ∧
        rd t BURST_STATUS.EQD_PENDING = 1 ∧ devSlot t ≠ none ∧ replied s t m 0 0 ∧ (same → t.cipher = s.cipher)) ∧
      (named → ¬offered → ∃ t, exec .assignTid s = .next t ∧ rd t JOIN_STATUS.LAST_EXIT = 7 ∧ t.join = read ∧
        onlyRegs [JOIN_STATUS.LAST_EXIT] { s with join := t.join } t) ∧
      (named → offered → ¬joining s 1 → ¬joining s 2 → ∃ t, exec .assignTid s = .next t ∧ replied s t m 2 0 ∧
        t = { s with join := t.join, burst := t.burst, out := [] }) ∧
      (¬named → ignored .assignTid))

/-- Ranging and keys (R186 to R197, R341, R342). RANGE_RESULT sets the delays and leads on as the profile and a warm rejoin say; a plan is
kept, and retunes the transmitter of the highest licensed channel to the channels that the variant does not license in the order of
their frames; a result fills the RTDs that are valid and ends the visits; FRAME_REF loads the frame reference once per KEYING; a KEY_OFFER
whose signature holds is answered and gives two tending loads, one after the other, any other ends in DISCOVER; KEY_CONFIRM leads to READY; and KEY_LOAD is
refused, starts a load, or waits for the one under way.
Where these rules leave a corner open, the statement speaks of the
model's choice, log entries 21 and 24. -/
def Obligations.RangingAndKeys : Prop :=
  ∀ (s : State) (m : Msg),
    let b := m.body
    let after := if rd s JOIN_STATUS.WARM = 1 then 6 else 5
    let dc := joining s 4 ∨ (inService s = true ∧ rd s JOIN_STATUS.PROFILE = 3)
    let ready := inService s = true ∨ joining s 6
    let refused (i : Instr) := ∃ t, exec i s = .next t ∧ replied s t m 2 0 ∧ t = { s with join := t.join, burst := t.burst, out := [] }
    let ignored (i : Instr) := exec i s = .next { s with join := { s.join with inbox := s.join.inbox.erase m }, out := [] }
    (nextMsg s m 0x04 →
      (joining s 3 ∨ inService s = true → ∃ t, exec .rangeResult s = .next t ∧ rd t BURST_EQD.EQD = beAt b 0 4 % 2 ^ 28 ∧
        rd t BURST_STATUS.EQD_PENDING = 1 ∧
        rd t (JOIN_RTD.RTD 0) = beAt b 4 4 ∧ bitAt (rd t JOIN_STATUS.RTD_VALID) 0 = true ∧ replied s t m 0 0 ∧
        rd t JOIN_STATUS.STATE = (if mode s ≠ 3 ∨ bitAt (beAt b 9 1) 0 = false then rd s JOIN_STATUS.STATE
          else if rd s JOIN_STATUS.PROFILE = 3 then 4 else after)) ∧
      (¬joining s 3 → inService s = false → refused .rangeResult)) ∧
    (nextMsg s m 0x05 →
      let f (i : Nat) := beAt b (4 * i) 4
      let o := chans s - 1
      let l := laserOf s true (engOf s true o)
      let visits := if s.fuses.variant = 1 then [63] else if signed32 (f 1) (f 0) ≤ signed32 (f 2) (f 0) then [31, 63] else [63, 31]
      (dc → s.fuses.variant = 0 → s.join.tuned = none → ∃ t, exec .dcRangePlan s = .next t ∧ replied s t m 0 0 ∧
        t.join.plan = some (f 0, f 1, f 2) ∧ t.join.visits = [] ∧ t = { s with join := t.join, burst := t.burst, out := [] }) ∧
      (∀ v r, dc → s.fuses.variant ≠ 0 → visits = v :: r → ∃ t, exec .dcRangePlan s = .next t ∧ replied s t m 0 0 ∧
        t.join.plan = some (f 0, f 1, f 2) ∧ t.join.visits = r ∧ t.join.tuned = some v ∧
        (1 ≤ l.st → l.st ≤ 3 → s.power.down = none → (laserOf t true (engOf s true o)).st = 1 ∧ (laserOf t true (engOf s true o)).chan = v) ∧
        (l.st = 4 → (laserOf t true (engOf s true o)).st = 4 ∧ (laserOf t true (engOf s true o)).chan = v)) ∧
      (¬dc → refused .dcRangePlan)) ∧
    (nextMsg s m 0x06 →
      (dc → ∃ t, exec .dcRangeResult s = .next t ∧ replied s t m 0 0 ∧ t.join.plan = s.join.plan ∧ t.join.visits = [] ∧
        t.join.tuned = none ∧ (∀ i, i < 3 → bitAt (beAt b 12 1 % 8) i = true → rd t (JOIN_RTD.RTD (i + 1)) = beAt b (4 * i) 4 ∧
          bitAt (rd t JOIN_STATUS.RTD_VALID) (i + 1) = true) ∧
        (mode s = 3 → rd t JOIN_STATUS.STATE = after ∧ t.join.offered = false)) ∧
      (¬dc → refused .dcRangeResult)) ∧
    (nextMsg s m 0x07 →
      let due := (joining s 5 ∧ s.join.offered = false) ∨ (joining s 6 ∧ rd s JOIN_STATUS.WARM = 1)
      (due → ∃ t, exec .frameRef s = .next t ∧ replied s t m 0 0 ∧
        t.join.eref = some (beAt b 0 6) ∧ rd t FRM_EXT_REF_HI.REF_VALID = 1 ∧ rd t FRM_EXT_REF_LO.REF_LO = beAt b 0 6 % 2 ^ 32 ∧
        rd t FRM_EXT_REF_HI.REF_HI = beAt b 0 6 / 2 ^ 32) ∧
      (¬due → refused .frameRef)) ∧
    (nextMsg s m 0x08 →
      let down := beAt b 0 2 % 2 ^ 14
      let up := beAt b 2 2 % 2 ^ 14
      let d := 1 + freeBelow s (p384N - 1)
      let h1 := keyH1 s down up (slice b 8 97)
      let valid := down ≠ up ∧ ecdsaVerify s.boot.operPub h1 (slice b 105 96) = true
      let due := joining s 5 ∧ rd s FRM_EXT_REF_HI.REF_VALID = 1
      (due → valid → ∃ t, exec .keyOffer s = .next t ∧ match ecdhX d (slice b 8 97) with
        | some _ => t.join.offered = true ∧ t.join.h2 = some (sha384 (h1 ++ pubOf d)) ∧ t.p384.eph = some d ∧
          rd t CIPHER_STATUS.KEK_VALID = 1 ∧ t.cipher.kek ≠ none ∧ rd t JOIN_STATUS.STATE = 5 ∧
          (s.cipher.loads = [] → s.cipher.wait = [] → ∃ x y, t.cipher.loads = [x] ∧ t.cipher.wait = [y] ∧ x.slot = down ∧ x.use = 0 ∧
            x.tending = true ∧ y.slot = up ∧ y.use = 1 ∧ y.tend ≠ none) ∧
          (s.cipher.loads ≠ [] → ∃ x y, t.cipher.loads = s.cipher.loads ∧ t.cipher.wait = s.cipher.wait ++ [x, y] ∧ x.slot = down ∧
            x.use = 0 ∧ x.tend ≠ none ∧ y.slot = up ∧ y.use = 1 ∧ y.tend ≠ none) ∧ ∃ msg, answered s t m 0x42 msg
        | none => rd t JOIN_STATUS.STATE = 1 ∧ rd t JOIN_STATUS.LAST_EXIT = 6 ∧ coldState t) ∧
      (due → ¬valid → ∃ t, exec .keyOffer s = .next t ∧ rd t JOIN_STATUS.STATE = 1 ∧ rd t JOIN_STATUS.LAST_EXIT = 6 ∧ coldState t) ∧
      (¬due → ignored .keyOffer)) ∧
    (nextMsg s m 0x09 →
      (joining s 5 → s.join.h2 = some b → ∃ t, exec .keyConfirm s = .next t ∧ rd t JOIN_STATUS.STATE = 6 ∧ answered s t m 0x43 b ∧
        onlyRegs [JOIN_STATUS.STATE] { s with join := t.join, burst := t.burst } t) ∧
      (joining s 5 → s.join.h2 ≠ some b → ∃ t, exec .keyConfirm s = .next t ∧ rd t JOIN_STATUS.STATE = 1 ∧ rd t JOIN_STATUS.LAST_EXIT = 6 ∧
        coldState t) ∧ (¬joining s 5 → ignored .keyConfirm)) ∧
    (nextMsg s m 0x0A →
      let slot := beAt b 0 2 % 2 ^ 14
      let use := beAt b 2 1
      let wrapped := slice b 8 40
      let tend := rd s JOIN_TEND_SLOTS.VALID = 1 ∧ (slotAt s slot).tending = true ∧ (slot = rd s JOIN_TEND_SLOTS.UP ∨ slot = rd s JOIN_TEND_SLOTS.DOWN)
      let ends (c : Nat) := ∃ t, exec .keyLoad s = .next t ∧ replied s t m 5 c ∧ rd t CIPHER_LOAD_CTRL.STATUS = c ∧
        rd t CIPHER_LOAD_CTRL.GO = 0 ∧ t.cipher = s.cipher
      (ready → 2 < use → ∃ t, exec .keyLoad s = .next t ∧ replied s t m 1 0) ∧
      (ready → use ≤ 2 → s.cipher.loads = [] → s.cipher.wait = [] → (tend → ends 4) ∧ (¬tend → s.cipher.kek = none → ends 1) ∧
        ∀ kek, ¬tend → s.cipher.kek = some kek → (keyUnwrap kek wrapped = none → ends 2) ∧
          ∀ key, keyUnwrap kek wrapped = some key → ∃ t, exec .keyLoad s = .next t ∧ rd t CIPHER_LOAD_CTRL.GO = 1 ∧
            rd t CIPHER_LOAD_CTRL.SLOT = slot ∧ rd t CIPHER_LOAD_CTRL.USE = use ∧
            (∀ i, i < 10 → rd t (CIPHER_LOAD_W.WRAPPED i) = beAt wrapped (4 * i) 4) ∧
            t.cipher = { s.cipher with
              loads := [{ slot := slot, use := use, key := key, tending := false, msg := some m.seq }] } ∧
            onlyRegs (CIPHER_LOAD_CTRL.GO :: CIPHER_LOAD_CTRL.SLOT :: CIPHER_LOAD_CTRL.USE :: (List.range 10).map CIPHER_LOAD_W.WRAPPED)
              { s with join := t.join, cipher := t.cipher } t) ∧
      (ready → use ≤ 2 → s.cipher.loads ≠ [] → ∃ t, exec .keyLoad s = .next t ∧ t.cipher = { s.cipher with
        wait := s.cipher.wait ++ [{ slot := slot, use := use, wrapped := wrapped, msg := some m.seq }] } ∧
        t = { s with join := t.join, cipher := t.cipher, out := [] }) ∧
      (¬ready → refused .keyLoad))

/-- The timers and the ways out of a join (R170 to R172, R203, R204): IDENTIFIED times out into DISCOVER; RANGING, DC_RANGING, KEYING and READY
do so with a cold reset and their causes; DEACTIVATE, ENABLE cleared and a sealed TEND_SLOT_UP end in LISTEN of JOIN after a cold reset; a
hold ends by its time, but for 0xFFFF, or by RELEASE, and LISTEN goes on to DISCOVER, PROFILE_LOW or neither. A timer of a state that
has been left changes nothing.
Where these rules leave a corner open, the statement speaks of the
model's choice, log entries 16 and 21. -/
def Obligations.JoinTimersAndExits : Prop :=
  ∀ s : State,
    let restarted' (t : State) (exit : Nat) := rd t JOIN_STATUS.STATE = 1 ∧ rd t JOIN_STATUS.LAST_EXIT = exit ∧ coldState t
    let listening (t : State) := mode t = 3 ∧ rd t JOIN_STATUS.STATE = 0 ∧ coldState t
    let same (i : Instr) := exec i s = .next { s with out := [] }
    let held := rd s FRM_TREE.TREE_LOF = 1 ∨ ¬joining s 0
    let free := joining s 0 ∧ rd s FRM_TREE.TREE_LOF = 0 ∧ 2 ≤ rd s FRM_TREE.PROFILE
    let ended (t : State) (l : List Fld) := rd t JOIN_STATUS.HOLD = 0 ∧
      (held → onlyRegs (JOIN_STATUS.HOLD :: l) s t) ∧
      (joining s 0 → rd s FRM_TREE.TREE_LOF = 0 → rd s FRM_TREE.PROFILE < 2 → rd t JOIN_STATUS.PROFILE_LOW = 1 ∧
        onlyRegs (JOIN_STATUS.HOLD :: JOIN_STATUS.PROFILE_LOW :: l) s t) ∧
      (free → rd t JOIN_STATUS.PROFILE_LOW = 0) ∧ (free → rd s JOIN_CTRL.ENABLE = 1 → rd t JOIN_STATUS.STATE = 1) ∧
      (free → rd s JOIN_CTRL.ENABLE = 0 → onlyRegs (JOIN_STATUS.HOLD :: JOIN_STATUS.PROFILE_LOW :: l) s t)
    (joining s 2 → ∃ t, exec .identifiedTimeout s = .next t ∧ rd t JOIN_STATUS.STATE = 1 ∧ rd t JOIN_STATUS.LAST_EXIT = 1 ∧
      t.join.search = none ∧ onlyRegs [JOIN_STATUS.STATE, JOIN_STATUS.LAST_EXIT] { s with join := t.join, burst := t.burst } t) ∧
    (joining s 3 → ∃ t, exec .rangingTimeout s = .next t ∧ restarted' t 2) ∧
    (joining s 4 → ∃ t, exec .dcRangingTimeout s = .next t ∧ restarted' t 3) ∧
    (joining s 5 → ∃ t, exec .keyingTimeout s = .next t ∧ restarted' t 4) ∧
    (joining s 6 → ∃ t, exec .readyTimeout s = .next t ∧ restarted' t 5) ∧
    (¬joining s 2 → same .identifiedTimeout) ∧ (¬joining s 3 → same .rangingTimeout) ∧ (¬joining s 4 → same .dcRangingTimeout) ∧
    (¬joining s 5 → same .keyingTimeout) ∧ (¬joining s 6 → same .readyTimeout) ∧
    (∀ m, nextMsg s m 0x11 → mode s = 3 ∨ inService s = true → s.power.ask = none → ∃ t, exec .deactivate s = .next t ∧ mode t = 3 ∧
      rd t JOIN_STATUS.STATE = 0 ∧ rd t JOIN_STATUS.HOLD = 1 ∧ rd t JOIN_STATUS.LAST_EXIT = 8 ∧ t.join.holdMs = beAt m.body 0 2 ∧
      rd t JOIN_TID.VALID = 0 ∧ t.cipher.slots = []) ∧
    (mode s = 3 → ∃ t, exec .joinEnableClear s = .next t ∧ rd t JOIN_CTRL.ENABLE = 0 ∧ rd t JOIN_STATUS.LAST_EXIT = 12 ∧ listening t) ∧
    (mode s ≠ 3 → ∃ t, exec .joinEnableClear s = .next t ∧ rd t JOIN_CTRL.ENABLE = 0 ∧ onlyRegs [JOIN_CTRL.ENABLE] s t) ∧
    (s.join.sealWait = true → mode s = 3 ∨ inService s = true → s.power.ask = none → ∃ t, exec .tendUpSealedReset s = .next t ∧ listening t ∧
      t.join.sealWait = false) ∧
    (s.join.sealWait = false → s.power.ask = none → same .tendUpSealedReset) ∧
    (rd s JOIN_STATUS.HOLD = 1 → s.join.holdMs ≠ 0xFFFF → ∃ t, exec .deactivateHoldExpiry s = .next t ∧ ended t []) ∧
    (rd s JOIN_STATUS.HOLD = 0 ∨ s.join.holdMs = 0xFFFF → same .deactivateHoldExpiry) ∧
    (∃ t, exec .joinRelease s = .next t ∧ rd t JOIN_CTRL.RELEASE = 0 ∧ ended t [JOIN_CTRL.RELEASE])

/-- Registration and service messages (R198 to R204): an allocation is assigned or refused with the result of R155, removed or unknown;
ACTIVATE in READY with the frame reference and the tending keys enters SERVICE; SWITCH_TREE is refused with FORCE set or LOS on the target and
else waits for its reply, or for 1 ms without a grant to DEV_ALLOC; TRIB_QUERY tells whether the idle page stands ready; and a rekey request repeats up to 100 times.
Where these rules leave a corner open, the statement speaks of the
model's choice, log entry 21. -/
def Obligations.RegistrationAndService : Prop :=
  ∀ (s : State) (m : Msg),
    let b := m.body
    let ready := inService s = true ∨ joining s 6
    let refused (i : Instr) (r : Nat) := ∃ t, exec i s = .next t ∧ replied s t m r 0 ∧ t = { s with join := t.join, burst := t.burst, out := [] }
    let held (n : Nat) := rd s (ALLOC_LO.VALID n) = 1
    (nextMsg s m 0x0B →
      let id := beAt b 0 2
      let owner := beAt b 2 1
      (ready → owner < beds s → (∀ n, n < 256 → held n → rd s (ALLOC_LO.ID n) ≠ id) → ∀ n, n < 256 → ¬held n → (∀ k, k < n → held k) →
        ∃ t, exec .assignAlloc s = .next t ∧ replied s t m 0 0 ∧ rd t (ALLOC_LO.VALID n) = 1 ∧ rd t (ALLOC_LO.ID n) = id ∧
          rd t (ALLOC_LO.OWNER n) = owner ∧ rd t (ALLOC_HI.KEY n) = beAt b 4 2 % 2 ^ 14 ∧ rd t BURST_ALLOC_ADD_HI.SLOT = n) ∧
      (ready → owner < beds s → (∃ n, n < 256 ∧ held n ∧ rd s (ALLOC_LO.ID n) = id) → ∃ t, exec .assignAlloc s = .next t ∧ replied s t m 3 3) ∧
      (ready → beds s ≤ owner → owner < 8 → ∃ t, exec .assignAlloc s = .next t ∧ replied s t m 3 2) ∧
      (ready → owner < beds s → (∀ n, n < 256 → held n ∧ rd s (ALLOC_LO.ID n) ≠ id) → ∃ t, exec .assignAlloc s = .next t ∧
        replied s t m 3 5) ∧
      (ready → 8 ≤ owner → refused .assignAlloc 1) ∧ (¬ready → refused .assignAlloc 2)) ∧
    (nextMsg s m 0x0C →
      let id := beAt b 0 2
      (∀ n, ready → n < 256 → held n → rd s (ALLOC_LO.ID n) = id → (∀ k, k < n → ¬(held k ∧ rd s (ALLOC_LO.ID k) = id)) →
        ∃ t, exec .removeAlloc s = .next t ∧ replied s t m 0 0 ∧ rd t (ALLOC_LO.REMOVE n) = 1 ∧
          n ∈ t.burst.removing ∧ ((∀ x ∈ s.burst.bursts, x.slot ≠ some n) → onlyRegs [ALLOC_LO.REMOVE n] { s with join := t.join, burst := t.burst } t)) ∧
      (ready → (∀ n, n < 256 → held n → rd s (ALLOC_LO.ID n) ≠ id) → refused .removeAlloc 7) ∧ (¬ready → refused .removeAlloc 2)) ∧
    (nextMsg s m 0x0D → s.power.ask = none →
      let go := joining s 6 ∧ rd s FRM_EXT_REF_HI.REF_VALID = 1 ∧ rd s JOIN_TEND_SLOTS.VALID = 1
      (go → ∃ t, exec .activate s = .next t ∧ mode t = 4 ∧ rd t JOIN_STATUS.STATE = 7 ∧ rd t JOIN_STATUS.WARM = 0 ∧ replied s t m 0 0 ∧
        rd t TIME_STATUS.HOLDOVER = 0 ∧ rd t TIME_STATUS.REFUSED_RUN = 0 ∧ rd t TIME_STATUS.LOST_RUN = 0 ∧ t.time.missed = 0) ∧
      (¬go → refused .activate 2)) ∧
    (nextMsg s m 0x0F →
      let x := beAt b 0 1
      let los := if x = 1 then LINE_STATUS.LOS_A else LINE_STATUS.LOS_B
      let idle := rd s LINE_CTRL.FORCE = 0 ∨ rd s LINE_CTRL.FORCE = 3
      (x = 1 ∨ x = 2 → idle → rd s los = 0 → rd s LINE_STATUS.CONN ≠ x - 1 → ∃ t, exec .switchTree s = .next t ∧ replied s t m 0 0 ∧
        t.join.swTarget = some (x - 1) ∧ t.join.swGrant = false ∧ t = { s with join := t.join, burst := t.burst, out := [] }) ∧
      (x = 1 ∨ x = 2 → idle → rd s los = 0 → rd s LINE_STATUS.CONN = x - 1 → refused .switchTree 0) ∧
      (x ≠ 1 → x ≠ 2 → refused .switchTree 1) ∧
      (x = 1 ∨ x = 2 → idle → rd s los = 1 → refused .switchTree 6) ∧ (x = 1 ∨ x = 2 → ¬idle → refused .switchTree 4)) ∧
    (∀ c, s.join.swTarget = some c → s.join.swGrant = false → grantToDev s = false →
      exec .switchTreeTimeout s = .next { s with line := { s.line with switchCmd := some c }, join := { s.join with swTarget := none }, out := [] }) ∧
    (s.join.swTarget = none ∨ s.join.swGrant = true ∨ grantToDev s = true → exec .switchTreeTimeout s = .next { s with out := [] }) ∧
    (nextMsg s m 0x10 → ∃ t, exec .tribQuery s = .next t ∧ replied s t m 0 (if rd s TRELLIS_CTRL.READY = 1 ∧
      rd s TRELLIS_STATUS.WR_REFUSED ≠ 1 ∧ beAt b 0 1 = 1 - rd s TRELLIS_STATUS.ACTIVE then 1 else 0) ∧
      t = { s with join := t.join, burst := t.burst, out := [] }) ∧
    (∀ n, s.join.rekeys.find? (fun r => r.slot = n) = none → exec (.rekeyRequestRepeat n) s = .next { s with out := [] }) ∧
    (∀ r : Rekey, s.join.rekeys.find? (fun x => x.slot = r.slot) = some r →
      let others := s.join.rekeys.filter fun x => x.slot ≠ r.slot
      (r.count < 100 → ∃ t, exec (.rekeyRequestRepeat r.slot) s = .next t ∧
        t.join = { s.join with seq := (s.join.seq + 1) % 65536, rekeys := { r with count := r.count + 1 } :: others } ∧
        (devSlot s ≠ none → ∃ p, t.burst = { s.burst with tend := s.burst.tend ++ [p] } ∧ p.sealed = true ∧
          p.body = tendMsg 0x44 s.join.seq (beBytes 2 r.slot ++ beBytes 1 r.cause ++ List.replicate 5 0)) ∧
        t = { s with join := t.join, burst := t.burst, out := [] }) ∧
      (100 ≤ r.count → exec (.rekeyRequestRepeat r.slot) s = .next { s with
        join := { s.join with rekeys := others }, rakeIn := s.rakeIn ++ [{ kind := 16, scope := .dev, arg := 0, cycle := s.time.c / 5 }], out := [] }))

/-! ### Time -/

/-- The time engine (R208 to R217, R227 to R234, R236 to R240, R496). A read of TIME_NOW latches T, C, OFFSET and B, for a tenant in its own
snapshot while TIME_SNAP is on; a rate commit keeps T and starts the new rate here; a step or set within THRESH, or with T invalid or
FORCE, moves OFFSET, and a set makes T the set value, RESULT telling which; a larger one is refused; a trigger whose target is reached fires in its turn, once
or with its target moved by its period; a PPS pulse rises at the STOCK edge nearest its target, is extended, never shortened, by another,
and ends when its WIDTH is over; an input edge is captured once; TIME_INFO gives the error that the next servo cycle corrects, by a set, a rate from both
terms of its loop, a step with the rate of the integral term, or not at all (R229), and leads back from HOLDOVER;
and lost messages lead to HOLDOVER, its limit to JOIN. The even of two STOCK edges as near, and that a trigger waits for a due one of a
lower number, are the model's, log entry 41, as are the loop's gains, log entry 43. -/
def Obligations.TimeEngine : Prop :=
  ∀ (s : State) (v : Word), s.power.ask = none →
    let u := now s
    (∃ t, exec (.timeNowRead (.pf 0)) s = .next t ∧ t.readData = BitVec.ofNat 32 (nsOf u) ∧ rd t TIME_NOW_NS.NS = nsOf u ∧
      rd t TIME_NOW_MID.FRAC = u % 65536 ∧ rd t TIME_NOW_SEC.SEC_HI * 65536 + rd t TIME_NOW_MID.SEC_LO = secOf u ∧
      rd t TIME_NOW_TS.TS = u / 65536 % 2 ^ 32 ∧
      rd t TIME_CNT_HI.CNT_HI * 2 ^ 32 + rd t TIME_CNT_LO.CNT_LO = s.time.c % 2 ^ 64 ∧
      rd t TIME_BASE_HI.BASE_HI * 2 ^ 32 + rd t TIME_BASE_LO.BASE_LO = s.time.base % 2 ^ 64 ∧ rd t TIME_OFS_NS.NS = nsOf s.time.ofs ∧
      rd t TIME_OFS_MID.FRAC = s.time.ofs % 65536 ∧
      rd t TIME_OFS_SEC.SEC * 65536 + rd t TIME_OFS_MID.SEC_LO = secOf s.time.ofs % 2 ^ 48 ∧ t = { s with regs := t.regs, readData := t.readData, out := [] }) ∧
    (∀ f, f + 1 < fns s →
      (featOn s (f + 1) 3 = true → f ∉ s.lane.resetting → ∃ t, exec (.timeNowRead (.pf (f + 1))) s = .next t ∧
        t.readData = BitVec.ofNat 32 (nsOf u) ∧ t.time.shot.find (f + 1) = some (u, s.time.c, s.time.ofs, s.time.base) ∧
        t = { s with time := { s.time with shot := t.time.shot }, readData := t.readData, out := [] }) ∧
      (featOn s (f + 1) 3 = false ∨ f ∈ s.lane.resetting →
        exec (.timeNowRead (.pf (f + 1))) s = .next { s with readData := 0, out := [] })) ∧
    (s.time.ring.find (rd s TIME_FS_SEL.IDX) = none → ∃ t, exec .timeFsRead s = .next t ∧ rd t TIME_FS_SEL.VALID = 0 ∧ t.readData = 0) ∧
    (∀ r, s.time.ring.find (rd s TIME_FS_SEL.IDX) = some r → ∃ t, exec .timeFsRead s = .next t ∧ rd t TIME_FS_SEL.VALID = 1 ∧
      rd t TIME_FS_SEL.FRAC = r.frac % 65536 ∧ rd t TIME_FS_TS.TS = r.ts % 2 ^ 32 ∧ rd t TIME_FS_FC.FC = r.fc % 2 ^ 32 ∧
      t.readData = BitVec.ofNat 32 r.fc ∧
      onlyRegs [TIME_FS_SEL.VALID, TIME_FS_SEL.FRAC, TIME_FS_TS.TS, TIME_FS_FC.FC] { s with readData := t.readData } t) ∧
    (rd s TIME_RATE_LO.RATE_LO < 2 ^ 32 → ∃ t, exec (.timeRateCommit v) s = .next t ∧
      t.time.rate = toSigned 40 (v.toNat % 256 * 2 ^ 32 + rd s TIME_RATE_LO.RATE_LO) ∧ t.time.base = s.time.c ∧ t.time.ofs = u ∧ now t = u ∧
      t.time.c = s.time.c ∧ rd t TIME_RATE_HI.RATE_HI = v.toNat % 256 ∧
      onlyRegs [TIME_RATE_LO.RATE_LO, TIME_RATE_HI.RATE_HI] { s with time := t.time } t) ∧
    (let thr := rd s TIME_JUMP.THRESH * 65536
     let force := bitAt v.toNat 29 = true
     let invalid := rd s TIME_STATUS.VALID = 0
     let d := stepVal s
     (bitAt v.toNat 31 = true → bitAt v.toNat 30 = false → rd s TIME_STATUS.VALID ≤ 1 →
      (d.natAbs ≤ thr ∨ invalid ∨ force → ∃ t, exec (.timeStep v) s = .next t ∧ (t.time.ofs : Int) = (s.time.ofs + d) % timeWrap ∧
        rd t TIME_ADJ.RESULT = (if d.natAbs ≤ thr ∨ invalid then 1 else 3) ∧ (d ≠ 0 → rd t TIME_STATUS.STEPPED = 1) ∧
        rd t TIME_STATUS.LOCKED = 0 ∧ rd t TIME_ADJ.GO_STEP = 0 ∧ t.time.c = s.time.c ∧ t.time.rate = s.time.rate) ∧
      (thr < d.natAbs → ¬invalid → ¬force → ∃ t, exec (.timeStep v) s = .next t ∧ rd t TIME_ADJ.RESULT = 2 ∧
        rd t TIME_STATUS.STEP_REFUSED = 1 ∧
        onlyRegs [TIME_ADJ.RESULT, TIME_STATUS.STEP_REFUSED, TIME_ADJ.GO_STEP, TIME_ADJ.GO_SET, TIME_ADJ.FORCE] s t)) ∧
     (bitAt v.toNat 30 = true → thr < (setDelta s (setVal s)).natAbs → ¬invalid → ¬force → rd s TIME_STATUS.VALID ≤ 1 →
      ∃ t, exec (.timeSet v) s = .next t ∧ rd t TIME_ADJ.RESULT = 2 ∧ rd t TIME_STATUS.STEP_REFUSED = 1 ∧
        onlyRegs [TIME_ADJ.RESULT, TIME_STATUS.STEP_REFUSED, TIME_ADJ.GO_STEP, TIME_ADJ.GO_SET, TIME_ADJ.FORCE] s t) ∧
     (bitAt v.toNat 30 = false → bitAt v.toNat 31 = false → ∃ t, exec (.timeStep v) s = .next t ∧
      rd t TIME_ADJ.FORCE = b2n (bitAt v.toNat 29) ∧ onlyRegs [TIME_ADJ.FORCE] s t) ∧
     (bitAt v.toNat 30 = true → setVal s < timeWrap → s.time.ofs < timeWrap →
      (setDelta s (setVal s)).natAbs ≤ thr ∨ invalid ∨ force → ∃ t, exec (.timeSet v) s = .next t ∧
      rd t TIME_ADJ.RESULT = (if (setDelta s (setVal s)).natAbs ≤ thr ∨ invalid then 1 else 3) ∧ now t = setVal s ∧ rd t TIME_STATUS.VALID = 1 ∧ rd t TIME_STATUS.LOCKED = 0 ∧ rd t TIME_ADJ.GO_SET = 0)) ∧
    (∀ n meas, n < 64 → 2 ≤ mode s → rd s (TIME_TRIG_CTRL.ARM n) = 1 → trigTarget s n ≤ u → n ∉ s.time.jumped → trigTurn s n = true →
      let p := rd s (TIME_TRIG_PERIOD.PERIOD n)
      let target := [TIME_TRIG_NS.NS n, TIME_TRIG_MID.SEC_LO n, TIME_TRIG_SEC.SEC n]
      let next (t : State) := rd t (TIME_TRIG_CTRL.FIRED n) = 1 ∧ (p = 0 → rd t (TIME_TRIG_CTRL.ARM n) = 0) ∧
        (p ≠ 0 → rd t (TIME_TRIG_CTRL.ARM n) = 1 ∧ trigTarget t n = (trigTarget s n + max 8 p * 65536) % timeWrap)
      (rd s (TIME_TRIG_CTRL.ACTION n) = 0 → ∃ t, exec (.timeTriggerFire n meas) s = .next t ∧ next t ∧
        onlyRegs (TIME_TRIG_CTRL.FIRED n :: TIME_TRIG_CTRL.ARM n :: target) s t) ∧
      (rd s (TIME_TRIG_CTRL.ACTION n) = 2 → rd s (TIME_TRIG_CTRL.ARG n) % 16 < 5 → rd s (TIME_TRIG_CTRL.ARG n) % 16 ∉ s.mgmt.conv →
        ∃ t, exec (.timeTriggerFire n meas) s = .next t ∧ next t ∧
        t.mgmt = { s.mgmt with conv := s.mgmt.conv ++ [rd s (TIME_TRIG_CTRL.ARG n) % 16] } ∧
        onlyRegs (TIME_TRIG_CTRL.FIRED n :: TIME_TRIG_CTRL.ARM n :: target) { s with mgmt := t.mgmt } t) ∧
      (rd s (TIME_TRIG_CTRL.ACTION n) = 5 → rd s TIME_PPS_A.ENABLE = 1 → bitAt (rd s MODE_PAD.HOLD) 2 = false →
        let edge := stockEdge s (10 * (trigEdge s n : Int) - rd s TIME_PPS_A.ADV * 65536)
        let stop := edge + (1000 * max 1 (rd s TIME_PPS_A.WIDTH) : Nat)
        ∃ t, exec (.timeTriggerFire n meas) s = .next t ∧ next t ∧
          (s.time.pulse.find 0 = none → t.time.pulse.find 0 = some stop ∧ t.out = [.pps 0 edge]) ∧
          (∀ e, s.time.pulse.find 0 = some e → t.time.pulse.find 0 = some (max stop e) ∧ t.out = []))) ∧
    (∀ n meas, mode s < 2 ∨ trigDue s n = false ∨ trigTurn s n = false →
      exec (.timeTriggerFire n meas) s = .next { s with out := [] }) ∧
    (∀ (x : Nat) (e : Int), s.time.pulse.find x = some e →
      (e ≤ 8 * s.time.c + 7 → exec (.ppsPulseEnd x) s = .next { s with
        time := { s.time with pulse := s.time.pulse.erase x }, out := [.ppsLow x] }) ∧
      (8 * s.time.c + 7 < e → exec (.ppsPulseEnd x) s = .next { s with out := [] })) ∧
    (∀ x, s.time.pulse.find x = none → exec (.ppsPulseEnd x) s = .next { s with out := [] }) ∧
    (∀ x p, rd s (TIME_CAP_CTRL.ENABLE x) = 0 ∨ 2 ≤ x ∨ mode s < 2 → exec (.ppsInCapture x p) s = .next { s with out := [] }) ∧
    (∀ x p, x < 2 → p < 8 → 2 ≤ mode s → rd s (TIME_CAP_CTRL.ENABLE x) = 1 →
      (rd s (TIME_CAP_CTRL.NEW x) = 1 → ∃ t, exec (.ppsInCapture x p) s = .next t ∧ rd t (TIME_CAP_CTRL.OVERRUN x) = 1 ∧
        onlyRegs [TIME_CAP_CTRL.OVERRUN x] s t) ∧
      (rd s (TIME_CAP_CTRL.NEW x) = 0 → ∃ t, exec (.ppsInCapture x p) s = .next t ∧ rd t (TIME_CAP_CTRL.NEW x) = 1 ∧
        rd t (TIME_CAP_NS.NS x) = nsOf (nowAt s p) ∧ rd t (TIME_CAP_MID.FRAC x) = nowAt s p % 65536 ∧
        rd t (TIME_CAP_SEC.SEC x) * 65536 + rd t (TIME_CAP_MID.SEC_LO x) = secOf (nowAt s p) ∧
        onlyRegs [TIME_CAP_CTRL.NEW x, TIME_CAP_NS.NS x, TIME_CAP_MID.FRAC x, TIME_CAP_MID.SEC_LO x, TIME_CAP_SEC.SEC x] s t)) ∧
    (∀ m, nextMsg s m 0x0E →
      let thr := rd s TIME_JUMP.THRESH * 65536
      (∀ e, phaseError s m.body = some e →
        let good := if e.natAbs ≤ 10 * 65536 then s.time.good + 1 else 0
        let back := if e.natAbs ≤ thr then s.time.back + 1 else 0
        let taken (t : State) := exec .timeInfo s = .next t ∧ (∃ r, t.join.answers = { ty := 0x0E, seq := m.seq, reply := none } :: r) ∧
          (50 * 65536 < e.natAbs → rd t TIME_STATUS.LOCKED = 0) ∧ (e.natAbs ≤ 50 * 65536 → 16 ≤ good → rd t TIME_STATUS.LOCKED = 1) ∧
          rd t SPR_UTC.VALID = beAt m.body 7 1 / 4 % 2 ∧ (e.natAbs ≤ thr → rd t TIME_STATUS.REFUSED_RUN = 0)
        (mode s ≠ 5 → ∃ t, taken t ∧ t.time = { s.time with good := good, info := some e }) ∧
        (mode s = 5 → back < 2 → ∃ t, taken t ∧ mode t = 5 ∧ t.time = { s.time with good := good, info := some e, back := back }) ∧
        (mode s = 5 → 2 ≤ back → ∃ t, taken t ∧ mode t = 4 ∧ rd t JOIN_STATUS.STATE = 7 ∧ rd t TIME_STATUS.HOLDOVER = 0 ∧
          t.time.back = 0)) ∧
      (phaseError s m.body = none → exec .timeInfo s = .next { s with join := { s.join with inbox := s.join.inbox.erase m }, out := [] })) ∧
    (mode s = 4 →
      let integ (e : Int) := s.time.integ + Config.servoStep e
      (s.time.info = none → ∃ t, exec .servoCycle s = .next t ∧ rd t TIME_STATUS.LOST_RUN = min (rd s TIME_STATUS.LOST_RUN + 1) 255 ∧
        t.time = { s.time with sf := s.time.sf + 1, missed := s.time.missed + 1 } ∧ onlyRegs [TIME_STATUS.LOST_RUN] { s with time := t.time } t) ∧
      (∀ e : Int, s.time.info = some e → rd s TIME_STATUS.VALID = 1 → e.natAbs ≤ 64 * 65536 → ∃ t, exec .servoCycle s = .next t ∧
        rd t TIME_STATUS.LOST_RUN = 0 ∧ t.time.missed = 0 ∧ t.time.info = none ∧ t.time.base = s.time.c ∧ t.time.ofs = u ∧ now t = u ∧
        t.time.integ = integ e ∧ t.time.rate = clampInt (-(2 ^ 39)) (2 ^ 39 - 1) (integ e + Config.servoProp e)) ∧
      (∀ e : Int, s.time.info = some e → rd s TIME_STATUS.VALID = 1 → 64 * 65536 < e.natAbs → e.natAbs ≤ rd s TIME_JUMP.THRESH * 65536 → e.natAbs < 2 ^ 47 →
        ∃ t, exec .servoCycle s = .next t ∧ rd t TIME_ADJ.RESULT = 1 ∧ rd t TIME_STATUS.STEPPED = 1 ∧ t.time.base = s.time.c ∧
        t.time.integ = integ e ∧ t.time.rate = clampInt (-(2 ^ 39)) (2 ^ 39 - 1) (integ e) ∧ (s.time.ofs < timeWrap → (now t : Int) = (u - e) % timeWrap)) ∧
      (∀ e : Int, s.time.info = some e → rd s TIME_STATUS.VALID = 0 → s.time.ofs < timeWrap → ∃ t, exec .servoCycle s = .next t ∧
        rd t TIME_ADJ.RESULT = 1 ∧ rd t TIME_STATUS.VALID = 1 ∧ (now t : Int) = (u - e) % timeWrap ∧ t.time.rate = s.time.rate) ∧
      (∀ e : Int, s.time.info = some e → rd s TIME_STATUS.VALID = 1 → rd s TIME_ADJ.FORCE = 0 → 64 * 65536 < e.natAbs →
        rd s TIME_JUMP.THRESH * 65536 < e.natAbs → e.natAbs < 2 ^ 47 → ∃ t, exec .servoCycle s = .next t ∧ rd t TIME_ADJ.RESULT = 2 ∧
        rd t TIME_STATUS.STEP_REFUSED = 1 ∧ rd t TIME_STATUS.REFUSED_RUN = min (rd s TIME_STATUS.REFUSED_RUN + 1) 15 ∧
        t.time = { s.time with info := none, sf := s.time.sf + 1, missed := 0 }) ∧
      (8 ≤ s.time.missed ∨ 4 ≤ rd s TIME_STATUS.REFUSED_RUN → ∃ t, exec .timeMessagesLost s = .next t ∧ mode t = 5 ∧
        rd t TIME_STATUS.HOLDOVER = 1 ∧ rd t TIME_STATUS.HOLD_FREE = 0 ∧ rd t TIME_STATUS.LOCKED = 0 ∧ rd t TIME_HOLD.ELAPSED = 0 ∧ t.time.ofs = u) ∧
      (s.time.missed < 8 → rd s TIME_STATUS.REFUSED_RUN < 4 → exec .timeMessagesLost s = .next { s with out := [] })) ∧
    (mode s = 3 → s.time.info = none → exec .servoCycle s = .next { s with time := { s.time with sf := s.time.sf + 1 }, out := [] }) ∧
    (mode s ≠ 4 → exec .timeMessagesLost s = .next { s with out := [] }) ∧ (mode s ≠ 5 → exec .holdoverSecond s = .next { s with out := [] }) ∧
    (mode s = 5 → rd s TIME_HOLD.ELAPSED < 0xFFFF →
      let limit := max 1 (rd s TIME_HOLD.LIMIT)
      (rd s TIME_HOLD.ELAPSED + 1 < limit → ∃ t, exec .holdoverSecond s = .next t ∧ rd t TIME_HOLD.ELAPSED = rd s TIME_HOLD.ELAPSED + 1 ∧
        onlyRegs [TIME_HOLD.ELAPSED] s t) ∧
      (limit ≤ rd s TIME_HOLD.ELAPSED + 1 → ∃ t, exec .holdoverSecond s = .next t ∧ mode t = 3 ∧ rd t JOIN_STATUS.STATE = 0 ∧
        rd t JOIN_STATUS.LAST_EXIT = 13 ∧ rd t TIME_STATUS.HOLDOVER = 0))

/-- The Sprinkler's client table, its requests and its sending (R249, R253 to R267). The four commands find a client by its key or place and
answer 1, 2, 5, 6 or 7, an update keeping the key, the credit and the counts, and the sequence numbers of a stream renewed in the very
cycle of its expiry (R263); the port register refuses settings outside their ranges; a
delay request spends a credit or counts why not, a multicast one is answered without either; Announce and Sync advance their sequence
numbers and leave one frame on the port's queue, and nothing leaves while the Sprinkler or the port is off; a Follow_Up leaves next;
credits refill to 4; an entry without a live stream goes; and the Signaling TLVs, in their order, grant, cancel and acknowledge
streams.
Where these rules leave a corner open, the statement speaks of the
model's choice, log entries 12 and 25. -/
def Obligations.SprinklerClientsAndMessages : Prop :=
  ∀ (s : State) (v : Word),
    let i := v.toNat % 2 ^ 18
    let x := sprData s
    let res (t : State) (r : Nat) := rd t SPR_CMD.RESULT = r
    let known := ∃ e ∈ s.spr.clients, clientKey e.2 = clientKey x
    let keyOk := x.port < ports s ∧ x.tr ≠ 3
    let queued (t : State) (p : Nat) := (dnQueue t p (rd s (SPR_PORT.TC p))).length = (dnQueue s p (rd s (SPR_PORT.TC p))).length + 1
    let headOk (h : PtpHead) := h.tr < 3 ∧ h.src < 2 ^ 128 ∧ ∀ e ∈ h.tag, e.1 < 8 ∧ e.2 < 4096
    let ready (p : Nat) := inService s = true ∧ rd s SPR_CTRL.ENABLE = 1 ∧ rd s (SPR_PORT.ENABLE p) = 1 ∧ portUpNow s p = true
    (∀ e, s.spr.clients.find i = some e → i < 131104 → ∃ t, exec (.sprRead v) s = .next t ∧ res t 2 ∧ rd t SPR_CMD.INDEX = i ∧
      (∀ w, w < 16 → rd t (SPR_DATA.V w) = (clientWords e).getD w 0 % 2 ^ 32) ∧ t = { s with regs := t.regs, out := [] }) ∧
    (s.spr.clients.find i = none → i < 131104 → ∃ t, exec (.sprRead v) s = .next t ∧ res t 7) ∧
    (131104 ≤ i → ∃ t, exec (.sprRead v) s = .next t ∧ res t 6) ∧
    (keyOk →
      (∀ k e, sprFind s x = some (k, e) → k < 2 ^ 18 →
        (∃ t, exec (.sprLookup v) s = .next t ∧ res t 2 ∧ rd t SPR_CMD.INDEX = k ∧
          (∀ w, w < 16 → rd t (SPR_DATA.V w) = (clientWords e).getD w 0 % 2 ^ 32) ∧ t = { s with regs := t.regs, out := [] }) ∧
        (∃ t, exec (.sprRemove v) s = .next t ∧ res t 2 ∧ t.spr = { s.spr with clients := s.spr.clients.erase k } ∧
          onlyRegs [SPR_CMD.OP, SPR_CMD.INDEX, SPR_CMD.RESULT, SPR_STATUS.ENTRIES, SPR_ROW_LOAD.LOAD (x.port / 8)] { s with spr := t.spr } t)) ∧
      (¬known → (∃ t, exec (.sprLookup v) s = .next t ∧ res t 7 ∧ t.spr = s.spr) ∧ (∃ t, exec (.sprRemove v) s = .next t ∧ res t 7 ∧ t.spr = s.spr))) ∧
    (¬keyOk → ∀ c ∈ [Instr.sprLookup v, .sprRemove v, .sprUpsert v], ∃ t, exec c s = .next t ∧ res t 6 ∧ t.spr = s.spr) ∧
    (keyOk → clientOk s x = false → ∃ t, exec (.sprUpsert v) s = .next t ∧ res t 6 ∧ t.spr = s.spr) ∧
    (keyOk → clientOk s x = true → s.spr.clients = [] → ∀ k old, s.spr.gone = [(s.time.c, k, old)] → clientKey old = clientKey x → k < 2 ^ 18 →
      rowLoad s (x.port / 8) + clientLoad s x ≤ rowBudget → ∃ t n, exec (.sprUpsert v) s = .next t ∧ res t 2 ∧ rd t SPR_CMD.INDEX = k ∧
        t.spr = { s.spr with clients := [(k, n)] } ∧ n.credit = old.credit ∧ n.drop = old.drop ∧
        (streamGoes s old 1 = true → n.seqSync = old.seqSync) ∧ (streamGoes s old 2 = true → n.seqAnn = old.seqAnn)) ∧
    (keyOk → clientOk s x = true → s.spr.clients = [] → s.spr.gone = [] →
      (rowLoad s (x.port / 8) + clientLoad s x ≤ rowBudget → ∃ t c, exec (.sprUpsert v) s = .next t ∧ res t 1 ∧ rd t SPR_STATUS.ENTRIES = 1 ∧
        t.spr.clients = [(rd t SPR_CMD.INDEX, { x with credit := c })] ∧ c ≤ 4) ∧
      (rowBudget < rowLoad s (x.port / 8) + clientLoad s x → ∃ t, exec (.sprUpsert v) s = .next t ∧ res t 5 ∧ t.spr = s.spr)) ∧
    (keyOk → clientOk s x = true → ∀ k old, sprFind s x = some (k, old) → k < 2 ^ 18 →
      ∃ n : Client, n.port = x.port ∧ n.tr = x.tr ∧ n.addr = x.addr ∧ n.cport = x.cport ∧ n.cid = x.cid ∧ n.vlan = x.vlan ∧
        n.vid = old.vid ∧ n.credit = old.credit ∧ n.drop = old.drop ∧ n.two = x.two ∧
        n.dmac = x.dmac ∧ n.pcp = x.pcp ∧ n.on = x.on ∧ (∀ j, streamExp n j = streamExp x j) ∧ n.logAnn = x.logAnn ∧
        n.logSync = x.logSync ∧ n.logDresp = x.logDresp ∧
        n.seqSync = (if streamGoes s old 1 = false ∧ streamLive s x 1 = true then 0 else old.seqSync) ∧
        n.seqAnn = (if streamGoes s old 2 = false ∧ streamLive s x 2 = true then 0 else old.seqAnn) ∧
        (rowLoad s (x.port / 8) + clientLoad s n ≤ rowBudget + clientLoad s old → ∃ t, exec (.sprUpsert v) s = .next t ∧ res t 2 ∧
          rd t SPR_CMD.INDEX = k ∧ t.spr = { s.spr with clients := s.spr.clients.insert k n }) ∧
        (rowBudget + clientLoad s old < rowLoad s (x.port / 8) + clientLoad s n → ∃ t, exec (.sprUpsert v) s = .next t ∧ res t 5 ∧
          t.spr = s.spr)) ∧
    (∀ p, p < ports s →
      let la := toSigned 8 (v.toNat / 2 ^ 16 % 256)
      let ls := toSigned 8 (v.toNat / 2 ^ 8 % 256)
      (¬(-3 ≤ la ∧ la ≤ 4) ∨ ¬(-7 ≤ ls ∧ ls ≤ 4) → ∃ t, exec (.sprPortWrite p v) s = .next t ∧ rd t SPR_STATUS.PORT_REFUSED = 1 ∧
        onlyRegs [SPR_STATUS.PORT_REFUSED] s t) ∧
      (-3 ≤ la → la ≤ 4 → -7 ≤ ls → ls ≤ 4 → v.toNat < 2 ^ 31 → s.spr.clients = [] →
        (∀ k, k < 8 → rd s (SPR_PORT.ENABLE (8 * (p / 8) + k)) = 0) → ∃ t, exec (.sprPortWrite p v) s = .next t ∧
        rd t (SPR_PORT.ENABLE p) = 0 ∧ rd t (SPR_PORT.MCAST_EN p) = v.toNat / 2 ^ 30 % 2 ∧ rdInt t (SPR_PORT.LOG_ANN p) = la ∧
        rdInt t (SPR_PORT.LOG_SYNC p) = ls ∧ rd t (SPR_PORT.TC p) = v.toNat % 8 ∧ t.spr = s.spr ∧
        onlyRegs (sprPortFlds p ++ [SPR_STATUS.ENTRIES, SPR_ROW_LOAD.LOAD (p / 8)]) s t)) ∧
    (∀ (q : PtpIn) (r : List PtpIn), s.spr.inbox = q :: r → ready q.port → rd s TIME_STATUS.VALID = 1 →
      (q.head.mcast = true → rd s (SPR_PORT.MCAST_EN q.port) = 1 → ∃ t, exec .delayReq s = .next t ∧ queued t q.port ∧
        t.spr = { s.spr with inbox := r }) ∧
      ((q.head.mcast = true ∧ rd s (SPR_PORT.MCAST_EN q.port) = 0) ∨ (q.head.mcast = false ∧ servesReq s q.port q.head q.bytes = none) →
        ∃ t, exec .delayReq s = .next t ∧ t.spr = { s.spr with inbox := r } ∧
        rd t SPR_DROP.NO_CLIENT = min (rd s SPR_DROP.NO_CLIENT + 1) 0xFFFF ∧ onlyRegs [SPR_DROP.NO_CLIENT] { s with spr := t.spr } t) ∧
      (∀ k c, q.head.mcast = false → servesReq s q.port q.head q.bytes = some (k, c) →
        matchesReq q.port q.head q.bytes c = true ∧ streamLive s c 0 = true ∧
        (c.credit = 0 → ∃ t, exec .delayReq s = .next t ∧ rd t SPR_DROP.RATE = min (rd s SPR_DROP.RATE + 1) 0xFFFF ∧
          t.spr = { s.spr with inbox := r, clients := s.spr.clients.insert k { c with drop := min (c.drop + 1) 0xFFFF } } ∧
          onlyRegs [SPR_DROP.RATE] { s with spr := t.spr } t) ∧
        (c.credit ≠ 0 → ∃ t, exec .delayReq s = .next t ∧ queued t q.port ∧
          t.spr = { s.spr with inbox := r, clients := s.spr.clients.insert k { c with credit := c.credit - 1 } }))) ∧
    (∀ (q : PtpIn) (r : List PtpIn), s.spr.inbox = q :: r → inService s = false ∨ rd s SPR_CTRL.ENABLE = 0 ∨ rd s TIME_STATUS.VALID = 0 ∨
      rd s (SPR_PORT.ENABLE q.port) = 0 → exec .delayReq s = .next { s with spr := { s.spr with inbox := r }, out := [] }) ∧
    (s.spr.inbox = [] → exec .delayReq s = .next { s with out := [] }) ∧
    (inService s = false ∨ rd s SPR_CTRL.ENABLE = 0 → ∀ mc i, exec (.announceSend mc i) s = .next { s with out := [] } ∧
      exec (.syncSend mc i) s = .next { s with out := [] }) ∧
    (∀ p, ¬ready p ∨ rd s (SPR_PORT.MCAST_EN p) = 0 → exec (.announceSend true p) s = .next { s with out := [] } ∧
      exec (.syncSend true p) s = .next { s with out := [] }) ∧
    (∀ k c, s.spr.clients.find k = some c → ¬ready c.port → exec (.announceSend false k) s = .next { s with out := [] } ∧
      exec (.syncSend false k) s = .next { s with out := [] }) ∧
    (∀ p, ready p → rd s (SPR_PORT.MCAST_EN p) = 1 →
      (∃ t, exec (.announceSend true p) s = .next t ∧ queued t p ∧
        t.spr = { s.spr with mseqAnn := s.spr.mseqAnn.set p ((s.spr.mseqAnn.get p 0 + 1) % 65536) 0 }) ∧
      (rd s TIME_STATUS.VALID = 1 → ∃ t, exec (.syncSend true p) s = .next t ∧ queued t p ∧
        t.spr = { s.spr with mseqSync := s.spr.mseqSync.set p ((s.spr.mseqSync.get p 0 + 1) % 65536) 0 }) ∧
      (rd s TIME_STATUS.VALID = 0 → exec (.syncSend true p) s = .next { s with out := [] })) ∧
    (∀ k c, s.spr.clients.find k = some c → ready c.port →
      let moved (c' : Client) : SprSt := { s.spr with clients := s.spr.clients.insert k c' }
      (streamLive s c 2 = true → ∃ t, exec (.announceSend false k) s = .next t ∧ queued t c.port ∧
        t.spr = moved { c with seqAnn := (c.seqAnn + 1) % 65536 }) ∧
      (streamLive s c 2 = false → exec (.announceSend false k) s = .next { s with out := [] }) ∧
      (streamLive s c 1 = true → rd s TIME_STATUS.VALID = 1 → ∃ t, exec (.syncSend false k) s = .next t ∧ queued t c.port ∧
        t.spr = moved { c with seqSync := (c.seqSync + 1) % 65536 }) ∧
      (streamLive s c 1 = false → exec (.syncSend false k) s = .next { s with out := [] })) ∧
    (∀ p l r, s.spr.follow = (p, l) :: r →
      (ready p → ∃ t, exec .followUpSend s = .next t ∧ queued t p ∧ t.spr = { s.spr with follow := r }) ∧
      (inService s = false ∨ rd s SPR_CTRL.ENABLE = 0 →
        exec .followUpSend s = .next { s with spr := { s.spr with follow := r }, out := [] })) ∧
    (s.spr.follow = [] → exec .followUpSend s = .next { s with out := [] }) ∧
    (∀ k c, s.spr.clients.find k = some c →
      exec (.drespCreditRefill k) s = .next { s with
        spr := { s.spr with clients := s.spr.clients.insert k { c with credit := min 4 (c.credit + 1) } }, out := [] } ∧
      (streamLive s c 0 = false → streamLive s c 1 = false → streamLive s c 2 = false → ∃ t, exec (.streamExpiry k) s = .next t ∧
        t.spr = { s.spr with clients := s.spr.clients.erase k, gone := (s.time.c, k, c) :: s.spr.gone.filter (·.1 = s.time.c) } ∧
        onlyRegs [SPR_STATUS.ENTRIES, SPR_ROW_LOAD.LOAD (c.port / 8)] { s with spr := t.spr } t) ∧
      (streamLive s c 0 = true ∨ streamLive s c 1 = true ∨ streamLive s c 2 = true → ∃ t, exec (.streamExpiry k) s = .next t ∧
        t.spr = s.spr ∧ onlyRegs [SPR_STATUS.ENTRIES, SPR_ROW_LOAD.LOAD (c.port / 8)] s t)) ∧
    (∀ k, s.spr.clients.find k = none → ∀ c ∈ [Instr.announceSend false k, .syncSend false k, .drespCreditRefill k, .streamExpiry k],
      exec c s = .next { s with out := [] }) ∧
    (∀ p l h, sprMatch s p l = some h → headOk h) ∧
    (s.spr.ring = [] → ∀ c ∈ [Instr.requestUnicastTransmission, .cancelUnicastTransmission, .acknowledgeCancelUnicastTransmission],
      exec c s = .next { s with out := [] }) ∧
    (∀ (q : PtpIn) (r : List PtpIn) (ty : Nat) (d : List Byte) (o : Nat), s.spr.ring = q :: r →
      let tl := sigTlvs q
      let c := requester s q q.head
      let more := (nextTlv tl.length tl o).isSome
      let left (t : State) := t.spr.ring = (if more then q :: r else r) ∧ t.spr.sigOff = if more then o else 0
      nextTlv tl.length tl s.spr.sigOff = some (ty, d, o) → (∀ m ∈ r, (nextTlv (sigTlvs m).length (sigTlvs m) 0).isSome = true) →
      (∀ e ∈ [(4, Instr.requestUnicastTransmission), (6, .cancelUnicastTransmission), (7, .acknowledgeCancelUnicastTransmission)], ty ≠ e.1 →
        exec e.2 s = .next { s with out := [] }) ∧
      (ty = 7 → ∃ t, exec .acknowledgeCancelUnicastTransmission s = .next t ∧ left t ∧
        t = { s with spr := { s.spr with ring := t.spr.ring, sigOff := t.spr.sigOff }, out := [] }) ∧
      (ty = 4 → ∀ j lo, streamOf (beAt d 0 1 / 16) = some (j, lo) → toSigned 8 (beAt d 1 1) ≤ 4 → q.port < ports s → s.spr.clients = [] →
        (∀ p, p < ports s → rd s (SPR_PORT.MCAST_EN p) = 0) → headOk q.head → ∃ t k e, exec .requestUnicastTransmission s = .next t ∧
        left t ∧ t.spr.clients = [(k, e)] ∧ e.port = q.port ∧ e.tr = q.head.tr ∧ e.on = 2 ^ j ∧
        (match j with | 2 => e.logAnn | 1 => e.logSync | _ => e.logDresp) = max lo (toSigned 8 (beAt d 1 1)) ∧
        streamExp e j = (secNow s + max 10 (min (5 * max 2 (rd s SPR_CTRL.MAX_DUR)) (beAt d 2 4))) % 2 ^ 32) ∧
      (ty = 4 → streamOf (beAt d 0 1 / 16) = none → ∃ t, exec .requestUnicastTransmission s = .next t ∧ left t ∧
        t.spr.clients = s.spr.clients) ∧
      (ty = 6 → ∀ k j lo, streamOf (beAt d 0 1 / 16) = some (j, lo) → s.spr.clients = [(k, { c with on := 2 ^ j })] → q.port < ports s →
        headOk q.head → ∃ t, exec .cancelUnicastTransmission s = .next t ∧ left t ∧ t.spr.clients = []) ∧
      (ty = 6 → streamOf (beAt d 0 1 / 16) = none ∨ s.spr.clients = [] → ∃ t, exec .cancelUnicastTransmission s = .next t ∧ left t ∧
        t.spr.clients = s.spr.clients))

/-! ### Buffers and schedulers -/

/-- Upstream and downstream buffers, meters, flow control and the ledger (R300 to R317, R321, R322). The oldest classified upstream frame is
policed and shaped, then charged to its port and the buffer and queued for its slot, or counts where it was refused; shaped frames become
eligible; meters fill and refresh; pause is sent again while it is asserted, and a change of FC_MODE to none releases it; a timer that ends
lifts the pause; the ledger shares the pool among the active rows and a row's share among its active ports; and the oldest downstream frame
joins its queue within QMAX, PORT_MAX and the buffer, or counts.
Where these rules leave a corner open, the statement speaks of the
model's choice, log entry 38. -/
def Obligations.BuffersMetersAndPause : Prop :=
  ∀ (s : State) (p : Nat) (v : Word), p < ports s →
    let up (c : Fld) (t : State) := rd t c = min (rd s c + 1) 0xFFFF
    let asIs (t : State) (c : Fld) := t.burst = s.burst ∧ up c t ∧ onlyRegs (mirrored c) { s with sched := t.sched } t
    (s.sched.upIn = [] → exec .upstreamAdmission s = .next { s with out := [] }) ∧
    (∀ (f : UpIn) (r : List UpIn), s.sched.upIn = f :: r → f.port = p → f.slot < 256 → (f.meterEn = true → f.meter < 4096) →
      let n := (2 + f.bytes.length + 127) / 128
      let cost : Int := ((f.bytes.length + (if rd s (METER_CFG.LEN_MODE f.meter) = 1 then 2 else 24)) * 2 ^ 24 : Nat)
      let x := meterFresh s f.meter
      let pol : Bool := f.meterEn && flag s (METER_CFG.POL_EN f.meter)
      let shp : Bool := f.meterEn && flag s (METER_CFG.SHP_EN f.meter) && rd s (METER_SHP_RATE.RATE f.meter) ≠ 0
      let w := if shp && decide (x.shp < 0) then (x.shp.natAbs + rd s (METER_SHP_RATE.RATE f.meter) - 1) / rd s (METER_SHP_RATE.RATE f.meter) else 0
      let wait := if w = 0 then none else some ((s.time.c % 2 ^ 32 + min w (2 ^ 30)) % 2 ^ 32)
      let passed := pol = false ∨ cost ≤ x.pol
      let room := rd s (SCHED_UP_PORT_USE.USED p) + n ≤ highEff s p + rd s (SCHED_UP_PORT_HEAD.HEADROOM p)
      let fits := rd s SCHED_UP_USE.USED + n ≤ upCells s
      let own := rd s (ALLOC_LO.VALID f.slot) = 1 ∧ rd s (ALLOC_LO.OWNER f.slot) = p / 32
      let metered (t : State) := (f.meterEn = false → t.sched.meters = s.sched.meters) ∧ (f.meterEn = true →
        t.sched.meters.get f.meter {} = { x with pol := if pol then x.pol - cost else x.pol
                                                 shp := if shp then max (x.shp - cost) (-(2 ^ 55)) else x.shp })
      (passed → room → fits → own → rd s (SCHED_UP_PORT_USE.USED p) + n < 2 ^ 20 → rd s SCHED_UP_USE.USED + n < 2 ^ 20 →
        ∃ t, exec .upstreamAdmission s = .next t ∧ rd t (SCHED_UP_PORT_USE.USED p) = rd s (SCHED_UP_PORT_USE.USED p) + n ∧
        rd t SCHED_UP_USE.USED = rd s SCHED_UP_USE.USED + n ∧ t.sched.upIn = r ∧ metered t ∧
        fifo t f.slot f.q (p / 8 % 4) = fifo s f.slot f.q (p / 8 % 4) ++ [{ port := p, slot := f.slot, q := f.q, wait := wait, bytes := f.bytes }] ∧
        (f.meterEn = true → rd t (METER_CNT.SHP_CLAMP f.meter) =
          if 2 ^ 30 < w then min (rd s (METER_CNT.SHP_CLAMP f.meter) + 1) (2 ^ (METER_CNT.SHP_CLAMP f.meter).width - 1)
          else rd s (METER_CNT.SHP_CLAMP f.meter))) ∧
      (passed → room → fits → ¬own → ∃ t, exec .upstreamAdmission s = .next t ∧ t.burst = s.burst ∧ t.sched.upIn = r ∧ metered t ∧
        up (if rd s (ALLOC_LO.VALID f.slot) = 1 then BURST_DROP.OWNER else BURST_DROP.NO_ALLOC) t) ∧
      (f.meterEn = false → ¬room → ∃ t, exec .upstreamAdmission s = .next t ∧ asIs t (SCHED_UP_PORT_DROP.OVER p) ∧
        t.sched = { s.sched with upIn := r }) ∧
      (f.meterEn = false → room → ¬fits → ∃ t, exec .upstreamAdmission s = .next t ∧ asIs t (SCHED_UP_PORT_DROP.FULL p) ∧
        t.sched = { s.sched with upIn := r }) ∧
      (f.meterEn = true → passed → ¬room → ∃ t, exec .upstreamAdmission s = .next t ∧ t.burst = s.burst ∧ t.sched.upIn = r ∧ metered t ∧
        up (SCHED_UP_PORT_DROP.OVER p) t) ∧
      (f.meterEn = true → passed → room → ¬fits → ∃ t, exec .upstreamAdmission s = .next t ∧ t.burst = s.burst ∧ t.sched.upIn = r ∧ metered t ∧
        up (SCHED_UP_PORT_DROP.FULL p) t) ∧
      (¬passed → ∃ t, exec .upstreamAdmission s = .next t ∧ t.burst = s.burst ∧ t.sched.upIn = r ∧ t.sched.meters.get f.meter {} = x ∧
        rd t (METER_CNT.POL_DROP f.meter) = min (rd s (METER_CNT.POL_DROP f.meter) + 1) (2 ^ (METER_CNT.POL_DROP f.meter).width - 1) ∧
        onlyRegs (mirrored (METER_CNT.POL_DROP f.meter)) { s with sched := t.sched } t)) ∧
    (∃ t, exec .shaperEligible s = .next t ∧ t = { s with burst := { s.burst with queues := t.burst.queues }, out := [] } ∧
      ∀ slot q r, fifo t slot q r = (fifo s slot q r).map fun f =>
        { f with wait := f.wait.bind fun e => if 0 ≤ signed32 (s.time.c % 2 ^ 32) e then none else some e }) ∧
    (∀ m, m < 4096 →
      (∃ t, exec (.meterSweep m) s = .next t ∧ t.sched.meters.get m {} = meterFresh s m ∧
        (∀ j, j ≠ m → t.sched.meters.get j {} = s.sched.meters.get j {}) ∧
        t = { s with sched := { s.sched with meters := t.sched.meters }, out := [] }) ∧
      (∀ which, which < 4 → ∃ t, exec (.meterConfigWrite m which v) s = .next t ∧ (which = 0 → rd t (METER_POL_RATE.RATE m) = v.toNat) ∧
        (which = 1 → rd t (METER_SHP_RATE.RATE m) = v.toNat) ∧ (which = 3 → rd t (METER_SHPB.SHP_BURST m) = v.toNat % 2 ^ 24) ∧
        (which = 2 → rd t (METER_CFG.POL_EN m) = v.toNat / 2 ^ 31 ∧ rd t (METER_CFG.SHP_EN m) = v.toNat / 2 ^ 30 % 2 ∧
          rd t (METER_CFG.LEN_MODE m) = v.toNat / 2 ^ 29 % 2 ∧ rd t (METER_CFG.POL_BURST m) = v.toNat % 2 ^ 24) ∧
        t.sched.meters.get m {} = { pol := ((max 9620 (rd t (METER_CFG.POL_BURST m)) * 2 ^ 24 : Nat) : Int),
                                    shp := ((rd t (METER_SHPB.SHP_BURST m) * 2 ^ 24 : Nat) : Int), last := s.time.c % 2 ^ 32 } ∧
        onlyRegs (match which with
          | 0 => [METER_POL_RATE.RATE m]
          | 1 => [METER_SHP_RATE.RATE m]
          | 2 => [METER_CFG.POL_EN m, METER_CFG.SHP_EN m, METER_CFG.LEN_MODE m, METER_CFG.POL_BURST m]
          | _ => [METER_SHPB.SHP_BURST m]) { s with sched := t.sched } t)) ∧
    (portUpNow s p = true → rd s (SCHED_UP_PORT_USE.ASSERTED p) = 1 → rd s (SCHED_UP_PORT_CFG.FC_MODE p) = 1 ∨ rd s (SCHED_UP_PORT_CFG.FC_MODE p) = 2 →
      ∃ t l, exec (.pauseResend p) s = .next t ∧ t.sched.gen.get p [] = s.sched.gen.get p [] ++ [l] ∧ beAt l 0 6 = 0x0180C2000001 ∧
        beAt l 12 2 = 0x8808 ∧ beAt l 14 2 = (if rd s (SCHED_UP_PORT_CFG.FC_MODE p) = 1 then 1 else 0x101) ∧ t = { s with sched := t.sched, out := [] }) ∧
    (portUpNow s p = false ∨ rd s (SCHED_UP_PORT_USE.ASSERTED p) = 0 ∨ rd s (SCHED_UP_PORT_CFG.FC_MODE p) = 0 ∨
      rd s (SCHED_UP_PORT_CFG.FC_MODE p) = 3 → exec (.pauseResend p) s = .next { s with out := [] }) ∧
    (∃ t, exec (.fcModeWrite p v) s = .next t ∧ rd t (SCHED_UP_PORT_CFG.FC_MODE p) = v.toNat / 2 ^ 30 ∧
      rd t (SCHED_UP_PORT_CFG.PFC_EN p) = v.toNat / 2 ^ 16 % 256 ∧
      onlyRegs [SCHED_UP_PORT_CFG.FC_MODE p, SCHED_UP_PORT_CFG.PFC_EN p, SCHED_UP_PORT_USE.ASSERTED p] { s with sched := t.sched } t ∧
      (v.toNat / 2 ^ 30 = rd s (SCHED_UP_PORT_CFG.FC_MODE p) → t.sched = s.sched) ∧
      (rd s (SCHED_UP_PORT_USE.ASSERTED p) = 1 → v.toNat / 2 ^ 30 = 0 → rd t (SCHED_UP_PORT_USE.ASSERTED p) = 0 ∨ t.sched = s.sched) ∧
      (∀ m, m = 1 ∨ m = 2 → rd s (SCHED_UP_PORT_CFG.FC_MODE p) = m → rd s (SCHED_UP_PORT_USE.ASSERTED p) = 1 → v.toNat / 2 ^ 30 = 0 →
        ∃ l, t.sched.gen.get p [] = s.sched.gen.get p [] ++ [l] ∧ beAt l 14 2 = (if m = 1 then 1 else 0x101) ∧ (m = 1 → beAt l 16 2 = 0) ∧
          (m = 2 → ∀ i, i < 8 → beAt l (18 + 2 * i) 2 = 0) ∧ t.sched.press.contains p = false ∧ t.sched.hold.get p 0 = 0)) ∧
    (∃ t, exec .ledgerRecompute s = .next t ∧ rd t SCHED_STATUS.TRIM = (if rd s PWR_THERM.STATE = 2 then 1 else 0) ∧
      (let on (b : Nat) := ((List.range 4).filter fun r => (List.range 8).any fun i => portActive s (8 * (4 * b + r) + i)).length
       let m (b : Nat) := max 1 (rd s (SCHED_LEDGER.MULT b))
       let sum := ((List.range (beds s)).map fun b => m b * on b).sum
       rd t SCHED_STATUS.A_SUM = sum % 512 ∧ ∀ b, b < beds s → rd t (SCHED_LEDGER.ACTIVE b) = on b ∧
         rd t (SCHED_LEDGER.ROW_SHARE b) = rd s SCHED_POOL.POOL * m b / sum % 2 ^ 20 ∧
         ∀ p', p' < ports s → portActive s p' = true → b = p' / 32 → t.sched.share.find p' = some (rd s SCHED_POOL.POOL * m b / sum /
           ((List.range 8).filter fun i => portActive s (8 * (p' / 8) + i)).length + 1))) ∧
    (s.sched.dnIn = [] → exec .downstreamAdmission s = .next { s with out := [] }) ∧
    (∀ (f : DnIn) (r : List DnIn), s.sched.dnIn = f :: r → f.port = p → f.q < 8 →
      let n := (2 + f.bytes.length + 127) / 128
      let fits := queueCells (dnQueue s p f.q) + n ≤ rd s (SCHED_DN_Q.QMAX p f.q) * 8 ∧
        rd s (SCHED_DN_PORT_STAT.USED p) + n ≤ rd s (SCHED_DN_PORT_CFG.PORT_MAX p) ∧ rd s SCHED_DN_USE.USED + n ≤ dnCells s
      (rd s (HL_PORT.STATE p) = 3 → ∃ t, exec .downstreamAdmission s = .next t ∧ asIs t (SCHED_ROW.NOPORT (p / 8)) ∧ t.sched = { s.sched with dnIn := r }) ∧
      (rd s (HL_PORT.STATE p) < 2 → ∃ t, exec .downstreamAdmission s = .next t ∧ asIs t (SCHED_DN_PORT_DROP.DOWN p) ∧ t.sched = { s.sched with dnIn := r }) ∧
      (portUpNow s p = true → ¬fits → ∃ t, exec .downstreamAdmission s = .next t ∧ asIs t (SCHED_DN_QDROP.TAIL p f.q) ∧ t.sched = { s.sched with dnIn := r }) ∧
      (portUpNow s p = true → fits → ∃ t, exec .downstreamAdmission s = .next t ∧
        dnQueue t p f.q = dnQueue s p f.q ++ [{ bytes := f.bytes, cells := n, spr := none, tag := f.tag }] ∧
        rd t (SCHED_DN_PORT_STAT.USED p) = (rd s (SCHED_DN_PORT_STAT.USED p) + n) % 2 ^ 20 ∧
        (∀ i, i ≠ 8 * p + f.q → t.sched.q.get i [] = s.sched.q.get i []) ∧ t.sched.dnIn = r ∧
        onlyRegs [SCHED_DN_PORT_STAT.USED p, SCHED_DN_USE.USED] { s with sched := t.sched } t)) ∧
    (∀ q, q < 8 → s.sched.timer.get (16 * p + q) 0 ≠ 0 → rd s (SCHED_DN_PORT_STAT.PAUSED p) < 256 → ∃ t, exec (.pauseTimerExpiry p q) s = .next t ∧
      t.sched.timer.get (16 * p + q) 0 = 0 ∧ (∀ j, j < 8 → bitAt (rd t (SCHED_DN_PORT_STAT.PAUSED p)) j =
        (decide (j ≠ q) && bitAt (rd s (SCHED_DN_PORT_STAT.PAUSED p)) j)) ∧ onlyRegs [SCHED_DN_PORT_STAT.PAUSED p] { s with sched := t.sched } t) ∧
    (s.sched.timer.get (16 * p + 8) 0 ≠ 0 → ∃ t, exec (.pauseTimerExpiry p 8) s = .next t ∧ t.sched.timer.get (16 * p + 8) 0 = 0 ∧
      rd t (SCHED_DN_PORT_STAT.LINK_PAUSED p) = 0 ∧ onlyRegs [SCHED_DN_PORT_STAT.LINK_PAUSED p] { s with sched := t.sched } t) ∧
    (∀ q, q ≤ 8 → s.sched.timer.get (16 * p + q) 0 = 0 → exec (.pauseTimerExpiry p q) s = .next { s with out := [] })

/-- Serving a port and the gate lists (R300, R315, R319, R323 to R328): at a frame boundary the frame that ends frees its cells; then a
waiting flow-control frame leaves first, a held Trellis frame next, then the highest strict queue that may start, then the weighted queue
of the earliest tag, whose tag becomes the virtual time; a port that is not up or dozes sends nothing, and no frame starts whose gate would
close before its end; the entry in force follows T; at CT the armed list takes over; and the list in operation refuses writes, while a
write of the other disarms it.
Where these rules leave a corner open, the statement speaks of the
model's choice, log entry 38. -/
def Obligations.PortsAndGates : Prop :=
  ∀ (s : State) (p g : Nat) (v : Word), p < ports s → g < rows s →
    (portUpNow s p = true → s.sched.busy.find p = none → rd s (HL_PORT.TX_DOZING p) = 0 → rd s (SCHED_GATE_CTRL.GATE_EN (p / 8)) = 0 →
      (∀ l r, s.sched.gen.get p [] = l :: r → ∃ t, exec (.portFrameBoundary p) s = .next t ∧ t.out = [.frame p (wireFrame l)] ∧
        t.sched.gen.get p [] = r ∧ t.sched.q = s.sched.q ∧ t = { s with sched := t.sched, out := t.out }) ∧
      (s.sched.gen.get p [] = [] → s.sched.trib = [] → (∀ q, q < 8 → dnQueue s p q = []) →
        exec (.portFrameBoundary p) s = .next { s with out := [] }) ∧
      (s.sched.gen.get p [] = [] → ∀ (k : Nat) (l : List Byte), s.sched.trib.find? (fun e => e.2.1 = p) = some (k, p, l) →
        qPaused s p (rd s (SCHED_DN_PORT_CFG.TRIB_PRIO p)) = false → ∃ t, exec (.portFrameBoundary p) s = .next t ∧
        t.out = [.frame p (wireFrame l)] ∧ t.sched.trib = s.sched.trib.erase k ∧ t.sched.q = s.sched.q ∧
        t = { s with sched := t.sched, out := t.out }) ∧
      (∀ q f r, q < 8 → s.sched.gen.get p [] = [] → (∀ e ∈ s.sched.trib, e.2.1 ≠ p) → dnQueue s p q = f :: r → qPaused s p q = false →
        let may (j : Nat) := dnQueue s p j ≠ [] ∧ qPaused s p j = false
        let strict (j : Nat) := rd s (SCHED_DN_Q.SP p j) = 1
        let tag (j : Nat) := (s.sched.arb.get p {}).tags.get j (s.sched.arb.get p {}).v
        let leaves (t : State) := exec (.portFrameBoundary p) s = .next t ∧ (f.spr = none → t.out = [.frame p (wireFrame f.sent)]) ∧
          (∀ x, f.spr = some x → x.kind = 0 → t.out = [.frame p (wireFrame f.bytes)]) ∧ dnQueue t p q = r ∧
          (∀ i, i ≠ 8 * p + q → t.sched.q.get i [] = s.sched.q.get i []) ∧
          t.sched.busy.find p = some (q + 1, f.cells) ∧ t = { s with sched := t.sched, spr := t.spr, out := t.out }
        (strict q → (∀ j, q < j → j < 8 → may j → ¬strict j) → ∃ t, leaves t ∧ (t.sched.arb.get p {}).v = (s.sched.arb.get p {}).v) ∧
        (¬strict q → (∀ j, j < 8 → may j → ¬strict j) → (∀ j, j < 8 → j ≠ q → may j →
            (tagBefore (tag q) (tag j) = true ∧ tagBefore (tag j) (tag q) = false) ∨ (tag q = tag j ∧ j < q)) →
          ∃ t, leaves t ∧ (t.sched.arb.get p {}).v = tag q))) ∧
    (∀ x c, s.sched.busy.find p = some (x, c) → exec (.portFrameBoundary p) s = exec (.portFrameBoundary p)
      { wr (wr s SCHED_DN_USE.USED (rd s SCHED_DN_USE.USED - c)) (SCHED_DN_PORT_STAT.USED p) (rd s (SCHED_DN_PORT_STAT.USED p) - c) with
        sched := { s.sched with busy := s.sched.busy.erase p } }) ∧
    (portUpNow s p = true → s.sched.busy.find p = none → rd s (HL_PORT.TX_DOZING p) = 1 →
      exec (.portFrameBoundary p) s = .next { s with out := [] }) ∧
    (∀ q f r, q < 8 → portUpNow s p = true → s.sched.busy.find p = none → rd s (HL_PORT.TX_DOZING p) = 0 →
      rd s (SCHED_GATE_CTRL.GATE_EN (p / 8)) = 1 → s.sched.gen.get p [] = [] → (∀ e ∈ s.sched.trib, e.2.1 ≠ p) →
      dnQueue s p q = f :: r → (∀ j, j < 8 → j ≠ q → dnQueue s p j = []) → neverCloses s (p / 8) q = false →
      let segs := gateSegs s (p / 8) (rd s (SCHED_GATE_CTRL.OPER (p / 8)))
      let time := txTime s p f.sent.length
      (time ≤ longestRun q (segs ++ segs) → bitAt (gatesOf s (p / 8)) q = false ∨ closesIn s (p / 8) q < time →
        exec (.portFrameBoundary p) s = .next { s with out := [] }) ∧
      (longestRun q (segs ++ segs) < time → r = [] → ∃ t, exec (.portFrameBoundary p) s = .next t ∧ t.out = [] ∧ dnQueue t p q = [] ∧
        rd t (SCHED_DN_QDROP.GATE_OVER p q) = min (rd s (SCHED_DN_QDROP.GATE_OVER p q) + 1) (2 ^ (SCHED_DN_QDROP.GATE_OVER p q).width - 1))) ∧
    (portUpNow s p = false → s.sched.busy.find p = none → exec (.portFrameBoundary p) s = .next { s with out := [] }) ∧
    (rd s (SCHED_GATE_CTRL.GATE_EN g) = 1 → ∃ t, exec (.gateEntryChange g) s = .next t ∧ t.sched.gpos.get g 0 = (gateNow s g).1 ∧
      t.sched.gopen.get g 0xFF = (gateNow s g).2 ∧ t = { s with sched := t.sched, out := [] }) ∧
    (rd s (SCHED_GATE_CTRL.GATE_EN g) = 0 → exec (.gateEntryChange g) s = .next { s with out := [] }) ∧
    (∀ ct, s.sched.gct.find g = some (ct + 1) → rd s (SCHED_GATE_CTRL.PENDING g) = 1 →
      (ct ≤ now s → ∃ t, exec (.gateChangeover g) s = .next t ∧ rd t (SCHED_GATE_CTRL.OPER g) = 1 - rd s (SCHED_GATE_CTRL.OPER g) ∧
        rd t (SCHED_GATE_CTRL.ARM g) = 0 ∧ rd t (SCHED_GATE_CTRL.PENDING g) = 0 ∧ t.sched.gct = s.sched.gct.erase g) ∧
      (now s < ct → exec (.gateChangeover g) s = .next { s with out := [] })) ∧
    (s.sched.gct.find g = none ∨ rd s (SCHED_GATE_CTRL.PENDING g) = 0 → exec (.gateChangeover g) s = .next { s with out := [] }) ∧
    (∀ l reg, l < 2 → reg < 260 →
      (l = rd s (SCHED_GATE_CTRL.OPER g) → ∃ t, exec (.gateListWrite g l reg v) s = .next t ∧ rd t (SCHED_GATE_CTRL.WR_REFUSED g) = 1 ∧
        onlyRegs [SCHED_GATE_CTRL.WR_REFUSED g] s t) ∧
      (l ≠ rd s (SCHED_GATE_CTRL.OPER g) → ∃ t, exec (.gateListWrite g l reg v) s = .next t ∧ rd t (SCHED_GATE_CTRL.ARM g) = 0 ∧
        rd t (SCHED_GATE_CTRL.PENDING g) = 0 ∧ t.sched = { s.sched with gct := s.sched.gct.erase g } ∧
        (4 ≤ reg → rd t (SCHED_GCL.GATES g l (reg - 4)) = v.toNat / 2 ^ 24 ∧ rd t (SCHED_GCL.INTERVAL g l (reg - 4)) = v.toNat % 2 ^ 24) ∧
        (reg = 0 → rd t (SCHED_GATE_BASE_NS.NS g l) = v.toNat) ∧ (reg = 1 → rd t (SCHED_GATE_BASE_SEC.SEC_LO g l) = v.toNat) ∧
        (reg = 2 → rd t (SCHED_GATE_CFG.SEC_HI g l) = v.toNat / 2 ^ 16 ∧ rd t (SCHED_GATE_CFG.LEN g l) = v.toNat % 2 ^ 9) ∧
        (reg = 3 → rd t (SCHED_GATE_CYCLE.CYCLE g l) = v.toNat % 2 ^ 30) ∧
        onlyRegs (SCHED_GATE_CTRL.ARM g :: SCHED_GATE_CTRL.PENDING g :: gateFlds g l reg) { s with sched := t.sched } t))

/-! ### The Sieve -/

/-- The Sieve (R272, R282, R283, R285 to R289, R291 to R297). The oldest frame is looked up under the version in force and handed on with its
entry's result words, or counted and dropped or forwarded by its default action; the staging interface belongs to one owner; the oldest
record inserts, updates, removes or looks up in the pending view, and what is refused is logged; a commit waits for the records accepted
before it and makes every staged change current in one step when the next version has retired, an abort discards them, and a forced
release ends a waiting commit with result 3; a version retires once, when no frame of it waits; and the configuration of a bed is staged.
That a version's frames are those between the Sieve and a buffer is the model's, log entry 24. -/
def Obligations.SieveTablesAndCommits : Prop :=
  ∀ (s : State) (n : Nat) (v : Word) (src : Src) (o : Nat), (src = .trowel n ∧ o = 2) ∨ (src = .pf 0 ∧ o = 1) ∨ (src = .startup ∧ o = 3) →
    let cur := rd s SIEVE_VER.CUR
    let ret := rd s SIEVE_VER.RETIRED
    let own := rd s SIEVE_LOCK.OWNER
    let up (c : Fld) (t : State) := rd t c = min (rd s c + 1) (2 ^ c.width - 1)
    let denied (t : State) := up SIEVE_LOCK.DENIED t ∧ t.sieve = s.sieve
    (s.sieve.frames = [] → exec .sieveClassify s = .next { s with out := [] }) ∧
    (∀ (f : SvIn) (fs : List SvIn), s.sieve.frames = f :: fs → f.bed < beds s →
      let key (d : Nat) := svKey (bedKt s f.bed f.up) f.up f.bed d
      let data := keyData s f.bed f.up (bedKt s f.bed f.up) f.bytes
      let counts (c : Fld) := ∃ t, exec .sieveClassify s = .next t ∧ up c t ∧ t.sieve = { s.sieve with frames := fs } ∧
        onlyRegs (mirrored c) { s with sieve := t.sieve } t
      (data = none → rdAct s (if f.up = true then SIEVE_BED_UP_CFG.PARSEFAIL f.bed else SIEVE_BED_DN_CFG.PARSEFAIL f.bed) ≠ 1 →
        counts (if f.up = true then SIEVE_CNT_UP.PARSEFAIL f.bed else SIEVE_CNT_DN.PARSEFAIL f.bed)) ∧
      (∀ d, data = some d → svFind s (key d) (visible cur cur) = none →
        rdAct s (if f.up = true then SIEVE_BED_UP_CFG.NOMATCH f.bed else SIEVE_BED_DN_CFG.NOMATCH f.bed) ≠ 1 →
        counts (if f.up = true then SIEVE_CNT_UP.NOMATCH f.bed else SIEVE_CNT_DN.NOMATCH f.bed)) ∧
      (let act := if data = none then rdAct s (if f.up = true then SIEVE_BED_UP_CFG.PARSEFAIL f.bed else SIEVE_BED_DN_CFG.PARSEFAIL f.bed)
          else rdAct s (if f.up = true then SIEVE_BED_UP_CFG.NOMATCH f.bed else SIEVE_BED_DN_CFG.NOMATCH f.bed)
       let c := if data = none then (if f.up = true then SIEVE_CNT_UP.PARSEFAIL f.bed else SIEVE_CNT_DN.PARSEFAIL f.bed)
          else if f.up = true then SIEVE_CNT_UP.NOMATCH f.bed else SIEVE_CNT_DN.NOMATCH f.bed
       let slot := rdAct s (SIEVE_BED_UP_DEF.ALLOC f.bed)
       let q := rdAct s (SIEVE_BED_UP_DEF.CLASS f.bed)
       let port := rdAct s (SIEVE_BED_DN_DEF.GPORT f.bed)
       let dq := rdAct s (SIEVE_BED_DN_DEF.QUEUE f.bed)
       (∀ d, data = some d → svFind s (key d) (visible cur cur) = none) → act = 1 →
        (f.up = true → slot < 256 → q < 8 → ∃ t x, exec .sieveClassify s = .next t ∧ up c t ∧ t.sched.upIn = s.sched.upIn ++ [x] ∧
          x.port = f.port ∧ x.slot = slot ∧ x.q = q ∧ x.meterEn = false ∧ x.ver = cur ∧ x.bytes.take f.bytes.length = f.bytes) ∧
        (f.up = false → port < 256 → dq < 8 → port / 32 = f.bed → ∃ t, exec .sieveClassify s = .next t ∧ up c t ∧
          t.sched.dnIn = s.sched.dnIn ++ [{ port := port, q := dq, tag := (0, 0, 0), bytes := f.bytes, ver := cur }]) ∧
        (f.up = false → port / 32 ≠ f.bed → counts c)) ∧
      (∀ d k e, data = some d → svFind s (key d) (visible cur cur) = some (k, e) →
        let op := e.w5 / 2 ^ 19 % 4
        let pcp := e.w5 / 2 ^ 16 % 8
        let vid := e.w5 / 2 ^ 4 % 4096
        (tagTooLong op f.bytes pcp vid = true → counts (if f.up = true then SIEVE_CNTX.OVERSIZE_UP f.bed else SIEVE_CNTX.OVERSIZE_DN f.bed)) ∧
        (tagTooLong op f.bytes pcp vid = false → f.up = false → ∃ t, exec .sieveClassify s = .next t ∧
          t.sched.dnIn = s.sched.dnIn ++
            [{ port := e.w5 / 2 ^ 24 % 256, q := e.w5 / 2 ^ 21 % 8, tag := (op, pcp, vid), bytes := f.bytes, ver := cur }] ∧
          t.sieve = { s.sieve with frames := fs } ∧ t.regs = s.regs) ∧
        (tagTooLong op f.bytes pcp vid = false → f.up = true → ∃ t x, exec .sieveClassify s = .next t ∧ t.sched.upIn = s.sched.upIn ++ [x] ∧
          x.port = f.port ∧ x.slot = e.w5 / 2 ^ 24 % 256 ∧ x.q = e.w5 / 2 ^ 21 % 8 ∧ x.meterEn = bitAt e.w6 12 ∧ x.meter = e.w6 % 4096 ∧
          x.ver = cur ∧ 60 ≤ x.bytes.length ∧ x.bytes.take (tagApply op pcp vid f.bytes).length = tagApply op pcp vid f.bytes ∧
          t.sieve = { s.sieve with frames := fs } ∧ t.regs = s.regs))) ∧
    (own = 0 → ∃ t, exec (.sieveAcquire src) s = .next t ∧ rd t SIEVE_LOCK.OWNER = o ∧ onlyRegs [SIEVE_LOCK.OWNER] s t) ∧
    (own ≠ 0 → exec (.sieveAcquire src) s = .next { s with out := [] }) ∧
    (own = o → ∃ t, exec (.sieveRelease src) s = .next t ∧ rd t SIEVE_LOCK.OWNER = 0 ∧ t.sieve = s.sieve ∧ onlyRegs [SIEVE_LOCK.OWNER] s t) ∧
    (own ≠ o → exec (.sieveRelease src) s = .next { s with out := [] } ∧
      (∃ t, exec (.sieveOpSubmit src v) s = .next t ∧ denied t ∧ onlyRegs [SIEVE_OP.V 7, SIEVE_LOCK.DENIED] s t) ∧
      (∃ t, exec (.sieveCommit src) s = .next t ∧ denied t ∧ rd t SIEVE_COMMIT.RESULT = 3 ∧ rd t SIEVE_COMMIT.GO = 0 ∧
        onlyRegs [SIEVE_LOCK.DENIED, SIEVE_COMMIT.RESULT, SIEVE_COMMIT.GO] s t) ∧
      (∃ t, exec (.sieveAbort src) s = .next t ∧ denied t ∧ onlyRegs [SIEVE_LOCK.DENIED] s t) ∧
      (∀ b u, b < beds s → ∃ t, exec (.sieveBedCfgWrite src b u v) s = .next t ∧ denied t ∧ onlyRegs [SIEVE_LOCK.DENIED] s t)) ∧
    (own = o →
      (s.sieve.buf.length < 64 → ∃ t, exec (.sieveOpSubmit src v) s = .next t ∧ rd t SIEVE_OP_STATUS.FREE = 63 - s.sieve.buf.length ∧
        t.sieve = { s.sieve with buf := s.sieve.buf ++
          [{ words := (List.range 8).map fun w => if w = 7 then Nat.land v.toNat 0xE000FFFF else rd s (SIEVE_OP.V w) }] }) ∧
      (64 ≤ s.sieve.buf.length → ∃ t, exec (.sieveOpSubmit src v) s = .next t ∧ up SIEVE_OP_STATUS.OVERFLOW t ∧ t.sieve = s.sieve)) ∧
    (s.sieve.buf = [] → ∀ c ∈ [Instr.sieveInsert, .sieveUpdate, .sieveRemove, .sieveLookup], exec c s = .next { s with out := [] }) ∧
    (∀ r rest, s.sieve.buf = r :: rest → ∀ e ∈ [(Instr.sieveInsert, 1), (.sieveUpdate, 2), (.sieveRemove, 3), (.sieveLookup, 4)],
      r.op ≠ e.2 → 1 ≤ r.op → r.op ≤ 4 → exec e.1 s = .next { s with out := [] }) ∧
    (∀ r rest, s.sieve.buf = r :: rest → s.sieve.commits = [] → rd s SIEVE_STATUS.REJ_NEXT < 16 → rd s SIEVE_OP_STATUS.STAGED ≤ 4096 →
      let j := rd s SIEVE_STATUS.REJ_NEXT
      let e0 : SvEntry := { key := r.key, w5 := r.word 5, w6 := r.word 6 }
      let takes (c : Instr) (k : Nat) (tbl : Table SvEntry) := ∃ t, exec c s = .next t ∧ rd t SIEVE_OP_RES.RESULT = k ∧
        t.sieve = { s.sieve with buf := rest, tbl := tbl } ∧ rd t SIEVE_OP_STATUS.FREE = 64 - rest.length ∧
        rd t SIEVE_STATUS.USED = tbl.length % 2 ^ 18 ∧
        (k = 1 → rd t SIEVE_OP_STATUS.STAGED = rd s SIEVE_OP_STATUS.STAGED + 1) ∧
        (k ≠ 1 → rd t (SIEVE_REJ.RESULT j) = k ∧ rd t (SIEVE_REJ.TAG j) = r.word 7 % 65536 ∧ rd t (SIEVE_REJ.KT j) = r.kt ∧
          rd t SIEVE_STATUS.REJ_NEXT = (j + 1) % 16 ∧ rd t SIEVE_STATUS.BATCH_REFUSED = 1)
      (∀ c op, (c, op) ∈ [(Instr.sieveInsert, 1), (.sieveUpdate, 2), (.sieveRemove, 3), (.sieveLookup, 4)] → r.op = op → recBad s r = true →
        takes c 6 s.sieve.tbl) ∧
      (∀ c op, (c, op) ∈ [(Instr.sieveInsert, 1), (.sieveUpdate, 2), (.sieveRemove, 3)] → r.op = op → recBad s r = false →
        rd s SIEVE_OP_STATUS.STAGED = 4096 → takes c 7 s.sieve.tbl) ∧
      (recBad s r = false → rd s SIEVE_OP_STATUS.STAGED < 4096 → 131072 ≤ s.sieve.tbl.length →
        (r.op = 1 → svPending s r.key = none → takes .sieveInsert 2 s.sieve.tbl) ∧
        (∀ k e, r.op = 2 → svPending s r.key = some (k, e) → e.addPending = false → takes .sieveUpdate 2 s.sieve.tbl)) ∧
      (recBad s r = false → rd s SIEVE_OP_STATUS.STAGED < 4096 → s.sieve.tbl.length < 131072 →
        (r.op = 1 → (∀ k e, svPending s r.key = some (k, e) → takes .sieveInsert 4 s.sieve.tbl) ∧
          (∀ tb k, svPending s r.key = none → svPlace s.sieve.tbl r.key = some (tb, k) → takes .sieveInsert 1 (tb.insert k e0)) ∧
          (svPending s r.key = none → svPlace s.sieve.tbl r.key = none → takes .sieveInsert 3 s.sieve.tbl)) ∧
        (r.op = 2 → (svPending s r.key = none → takes .sieveUpdate 5 s.sieve.tbl) ∧
          (∀ k e, svPending s r.key = some (k, e) →
            let gone := s.sieve.tbl.insert k { e with removed := true, removePending := true }
            (e.addPending = true → takes .sieveUpdate 1 (s.sieve.tbl.insert k { e with w5 := r.word 5, w6 := r.word 6 })) ∧
            (∀ tb m, e.addPending = false → svPlace gone r.key = some (tb, m) → takes .sieveUpdate 1 (tb.insert m e0)) ∧
            (e.addPending = false → svPlace gone r.key = none → takes .sieveUpdate 3 s.sieve.tbl))) ∧
        (r.op = 3 → (svPending s r.key = none → takes .sieveRemove 5 s.sieve.tbl) ∧
          (∀ k e, svPending s r.key = some (k, e) →
            (e.addPending = true → takes .sieveRemove 1 (s.sieve.tbl.erase k)) ∧
            (e.addPending = false → takes .sieveRemove 1 (s.sieve.tbl.insert k { e with removed := true, removePending := true })))) ∧
        (r.op = 4 → (svPending s r.key = none → ∃ t, exec .sieveLookup s = .next t ∧ rd t SIEVE_OP_RES.RESULT = 5 ∧
            t.sieve = { s.sieve with buf := rest } ∧ rd t SIEVE_STATUS.BATCH_REFUSED = rd s SIEVE_STATUS.BATCH_REFUSED) ∧
          (∀ k e, svPending s r.key = some (k, e) → ∃ t, exec .sieveLookup s = .next t ∧ rd t SIEVE_OP_RES.RESULT = 1 ∧
            rd t SIEVE_OP_RES.INDEX = k % 2 ^ 18 ∧ t.sieve = { s.sieve with buf := rest } ∧ rd t (SIEVE_OP.V 5) = e.w5 % 2 ^ 32 ∧
            rd t (SIEVE_OP.V 6) = e.w6 % 2 ^ 32 ∧ rd t SIEVE_OP_STATUS.STAGED = rd s SIEVE_OP_STATUS.STAGED)))) ∧
    (∀ r, s.sieve.buf = [r] → s.sieve.commits = [1] → rd s SIEVE_STATUS.REJ_NEXT < 16 → bitAt ret ((cur + 1) % 16) = true →
      ∀ e ∈ [(Instr.sieveInsert, 1), (.sieveUpdate, 2), (.sieveRemove, 3), (.sieveLookup, 4)], r.op = e.2 → ∃ t, exec e.1 s = .next t ∧
        rd t SIEVE_VER.CUR = (cur + 1) % 16 ∧ rd t SIEVE_COMMIT.RESULT = 1 ∧ rd t SIEVE_COMMIT.GO = 0 ∧ rd t SIEVE_VER.PENDING = 0 ∧
        rd t SIEVE_OP_STATUS.STAGED = 0 ∧ t.sieve.buf = [] ∧ t.sieve.commits = []) ∧
    (own = o → s.sieve.buf ≠ [] → s.sieve.commits = [] → ∃ t, exec (.sieveCommit src) s = .next t ∧ rd t SIEVE_COMMIT.GO = 1 ∧
      t.sieve = { s.sieve with commits := [s.sieve.buf.length] } ∧ onlyRegs [SIEVE_COMMIT.GO] { s with sieve := t.sieve } t) ∧
    (own = o → ∃ t, exec (.sieveAbort src) s = .next t ∧ t.sieve.buf = [] ∧ t.sieve.dirty = false ∧ rd t SIEVE_OP_STATUS.STAGED = 0 ∧
      rd t SIEVE_STATUS.BATCH_REFUSED = 0 ∧ rd t SIEVE_VER.PENDING = 0 ∧
      ∀ e ∈ t.sieve.tbl, e.2.addPending = false ∧ e.2.removePending = false) ∧
    (s.sieve.buf = [] → s.sieve.commits = [] → own = o →
      let nxt := (cur + 1) % 16
      (bitAt ret nxt = true → ∃ t, exec (.sieveCommit src) s = .next t ∧ rd t SIEVE_VER.CUR = nxt ∧ rd t SIEVE_COMMIT.RESULT = 1 ∧
        rd t SIEVE_OP_STATUS.STAGED = 0 ∧ rd t SIEVE_VER.PENDING = 0 ∧ bitAt (rd t SIEVE_VER.RETIRED) nxt = false ∧
        t.sieve.active = stagedRegs s ∧ t.sieve.tbl = s.sieve.tbl.map fun e => (e.1, { e.2 with
          addPending := false, addVer := (if e.2.addPending = true then nxt else e.2.addVer),
          removePending := false, removeVer := (if e.2.removePending = true then nxt else e.2.removeVer) })) ∧
      (bitAt ret nxt = false → ∃ t, exec (.sieveCommit src) s = .next t ∧ rd t SIEVE_COMMIT.RESULT = 2 ∧ up SIEVE_VER.REFUSED t ∧
        t.sieve = s.sieve ∧ onlyRegs [SIEVE_COMMIT.RESULT, SIEVE_COMMIT.GO, SIEVE_VER.REFUSED] s t) ∧
      (∃ t, exec (.sieveAbort src) s = .next t ∧ t.sieve = { s.sieve with tbl := s.sieve.tbl.filterMap abortEntry, dirty := false } ∧
        rd t SIEVE_OP_STATUS.STAGED = 0 ∧ rd t SIEVE_STATUS.BATCH_REFUSED = 0 ∧ rd t SIEVE_VER.PENDING = 0 ∧
        ((s.sieve.active.map (·.1)).Nodup → ∀ f : Fld, f.lsb < 32 → f.addr % 4 = 0 → svStaged f.addr = true → rd t f = rdAct s f))) ∧
    (own = o → ∀ b u, b < beds s →
      let kt := if u = true then SIEVE_BED_UP_CFG.KT b else SIEVE_BED_DN_CFG.KT b
      let pvid := if u = true then SIEVE_BED_UP_CFG.PVID b else SIEVE_BED_DN_CFG.PVID b
      let noMatch := if u = true then SIEVE_BED_UP_CFG.NOMATCH b else SIEVE_BED_DN_CFG.NOMATCH b
      let fail := if u = true then SIEVE_BED_UP_CFG.PARSEFAIL b else SIEVE_BED_DN_CFG.PARSEFAIL b
      ∃ t, exec (.sieveBedCfgWrite src b u v) s = .next t ∧ t.sieve = { s.sieve with dirty := true } ∧
        rd t kt = (let k := v.toNat / 2 ^ 29; if s.fuses.variant = 2 then 7 else if k = 6 then 0 else k) ∧
        rd t pvid = v.toNat % 2 ^ 12 ∧ rd t noMatch = v.toNat / 2 ^ 27 % 4 ∧ rd t fail = v.toNat / 2 ^ 25 % 4 ∧ rd t SIEVE_VER.PENDING = 1 ∧
        onlyRegs [kt, pvid, noMatch, fail, SIEVE_VER.PENDING, SIEVE_STATUS.USED, SIEVE_OP_STATUS.FREE] { s with sieve := t.sieve } t) ∧
    (∃ t, exec .sieveForceRelease s = .next t ∧ rd t SIEVE_LOCK.OWNER = 0 ∧ t.sieve.buf = [] ∧
      t.sieve.tbl = s.sieve.tbl.filterMap abortEntry ∧
      ((∀ e ∈ s.sieve.active, svStaged (e.1 / 32 * 4) = true) →
        rd t SIEVE_LOCK.DENIED = min (rd s SIEVE_LOCK.DENIED + s.sieve.buf.length) 0xFFFF ∧
        (s.sieve.commits ≠ [] → rd t SIEVE_COMMIT.RESULT = 3 ∧ rd t SIEVE_COMMIT.GO = 0)) ∧ t.sieve.commits = []) ∧
    (∀ w, w < 16 → ret < 2 ^ 16 →
      (w = cur ∨ bitAt ret w = true ∨ (∃ f ∈ s.sched.upIn, f.ver = w) ∨ (∃ f ∈ s.sched.dnIn, f.ver = w) →
        exec (.sieveVersionRetire w) s = .next { s with out := [] }) ∧
      (w ≠ cur → bitAt ret w = false → (∀ f ∈ s.sched.upIn, f.ver ≠ w) → (∀ f ∈ s.sched.dnIn, f.ver ≠ w) → ∃ t, exec (.sieveVersionRetire w) s = .next t ∧
        rd t SIEVE_VER.RETIRED = ret + 2 ^ w ∧ (∀ x ∈ t.sieve.tbl, ¬(x.2.removed = true ∧ x.2.removePending = false ∧ x.2.removeVer = w)) ∧
        (∀ x ∈ s.sieve.tbl, x.2.removed = false → x.2.addPending = true ∨ x.2.addVer ≠ w → x ∈ t.sieve.tbl)))

/-! ### The cipher engines and the key vault -/

/-- Key slots, loads and pods (R272, R330 to R345). A downstream pod that is short, has no EXT, no usable key or a false tag is dropped and
counted; a good one spends an invocation, marks the channel in the key's mask and hands its frames on; an upstream pod is encrypted, or goes
idle and counts when its key has become unusable; a slot sealed for its count serves the invocations that an engine has reserved; a load is
refused with a status, waits while another is under way, or waits for its distribution, whose success switches the key; sealing and erasing
act on the selected slot, and an erase cancels its load with status 6; a state read latches its counts; the seal log pops oldest first and
loses its oldest entry when full; a
tending key is loaded in its turn; a graft moves the engine's work to its spare where the spare holds its shadow's generation, and is
scrubbed once more where not.
Where these rules leave a corner open, the statement speaks of the
model's choice, log entry 24. -/
def Obligations.CipherSlotsAndPods : Prop :=
  ∀ (s : State) (n : Nat) (v : Word) (src : Src), src = .trowel n ∨ src = .pf 0 →
    let sel := rd s CIPHER_SLOT_SEL.SLOT
    let one (c : Fld) (t : State) := rd t c = min (rd s c + 1) 0xFFFF
    (∀ g p r, g < 32 → s.cipher.input.get g [] = p :: r →
      let w := beNat p.hdr
      let key := w / 2 ^ 50 % 2 ^ 14
      let x := slotAt s key
      let tend := decide (w / 2 ^ 64 % 16 = 3)
      let left := s.cipher.input.set g r []
      let resv := s.cipher.resv.get (key * 256 + g) 0
      let usable := x.decOk tend = true ∨ ((x.use = 0 ∨ x.use = 2) ∧ x.st = 2 ∧ x.cause = 2 ∧ 0 < resv)
      let drops (c : Fld) := ∃ t, exec (.podDecrypt g) s = .next t ∧ one c t ∧ onlyRegs [c] { s with cipher := { s.cipher with input := left } } t
      (p.body.length < 16 → drops (CIPHER_DNX.SHORT g)) ∧
      (16 ≤ p.body.length → p.extOk = false → drops (CIPHER_DNX.NO_EXT g)) ∧
      (16 ≤ p.body.length → p.extOk = true →
        (s.cipher.fenced.contains g = true ∨ ¬usable → drops (CIPHER_DN.NO_KEY g)) ∧
        (s.cipher.fenced.contains g = false → usable →
          let out := gcmDec x.key (ivOf (w / 2 ^ 68 % 4096) false p.k p.ext (w / 2 ^ 32 % 65536)) (p.hdr.take 8) p.body
          let block := min 1024 (invLimit s - x.count)
          let used := { x with mask := Nat.lor x.mask (2 ^ p.k), count := if resv = 0 then x.count + block else x.count }
          let left1 := if resv = 0 then block - 1 else resv - 1
          (resv = 0 → invLimit s ≤ x.count → ∃ t, exec (.podDecrypt g) s = .next t ∧ one (CIPHER_DN.NO_KEY g) t ∧
            slotAt t key = (if x.st = 1 then { x with st := 2, cause := 2 } else x) ∧ t.sieve = s.sieve ∧ t.join = s.join) ∧
          (out = none → 0 < resv ∨ x.count < invLimit s → ∃ t, exec (.podDecrypt g) s = .next t ∧ one (CIPHER_DN.AUTH_FAIL g) t ∧
            slotAt t key = used ∧ t.cipher.resv.get (key * 256 + g) 0 = left1 ∧ t.sieve = s.sieve ∧ t.join = s.join) ∧
          (∀ pt, out = some pt → tend = false → tileGone s p.k = true → 0 < resv ∨ x.count < invLimit s → ∃ t, exec (.podDecrypt g) s = .next t ∧
            slotAt t key = used ∧ t.sieve = s.sieve) ∧
          (∀ pt, out = some pt → tend = false → tileGone s p.k = false → beds s ≤ slotBed s key → 0 < resv ∨ x.count < invLimit s →
            ∃ t, exec (.podDecrypt g) s = .next t ∧ slotAt t key = used ∧ t.sieve = s.sieve) ∧
          (∀ pt, out = some pt → tend = false → tileGone s p.k = false → slotBed s key < beds s → tileBytes s p.k + pt.length ≤ 65536 →
            0 < resv ∨ x.count < invLimit s → ∃ t, exec (.podDecrypt g) s = .next t ∧ t.cipher.input = left ∧
              t.sieve = { s.sieve with frames := s.sieve.frames ++
                (podEntries pt.length pt).map fun l => { up := false, port := p.k, bed := slotBed s key, tile := p.k % 2, bytes := l } } ∧
              slotAt t key = used ∧ t.cipher.resv.get (key * 256 + g) 0 = left1 ∧
              onlyRegs [CIPHER_STATUS.LOADED, CIPHER_SEAL_STAT.SEALED] { s with cipher := t.cipher, sieve := t.sieve } t)))) ∧
    (∀ g, s.cipher.input.get g [] = [] → exec (.podDecrypt g) s = .next { s with out := [] }) ∧
    (∀ k, (∀ b ∈ s.burst.bursts, b.grant.ch ≠ k ∨ ∀ p ∈ b.pods, p.done = true) → exec (.podEncrypt k) s = .next { s with out := [] }) ∧
    (∀ (b : Burst) (bs : List Burst) (p : UpPod) (k : Nat), s.burst.bursts = b :: bs → b.grant.ch = k → b.pods = [p] → p.done = false →
      b.grant.cnt < 64 → p.ty ≠ 0 →
      let x := slotAt s p.key
      let c := CIPHER_UP.SEAL_LOST (b.grant.cnt / 2)
      let resv := s.cipher.resv.get (p.key * 256 + (32 + b.grant.cnt / 2)) 0
      let usable := x.encOk = true ∨ ((x.use = 1 ∨ x.use = 2) ∧ x.st = 2 ∧ x.cause = 2 ∧ 0 < resv)
      (grantExt s b.grant = none ∨ ¬usable ∨ upGone s b.grant.cnt = true → ∃ t u, exec (.podEncrypt k) s = .next t ∧
        rd u c = min (rd s c + p.frames) 0xFFFF ∧ onlyRegs [c] s u ∧
        t = { freeUpAll u (b.frames.take p.frames) with burst := { s.burst with
          bursts := { b with
            pods := [{ ty := 0, key := 0, index := 0, body := List.replicate (p.body.length + 16) 0, frames := 0, done := true }]
            frames := b.frames.drop p.frames } :: bs } }) ∧
      (∀ e, grantExt s b.grant = some e → usable → upGone s b.grant.cnt = false →
        (0 < resv ∨ x.count < invLimit s → ∃ t, exec (.podEncrypt k) s = .next t ∧
          slotAt t p.key = { x with mask := Nat.lor x.mask (2 ^ k)
                                    count := if resv = 0 then x.count + min 1024 (invLimit s - x.count) else x.count } ∧
          t.burst = { s.burst with bursts := { b with pods := [{ p with
            body := gcmEnc x.key (ivOf (burstTid s b.grant) true k e p.index)
              ((podHeader (burstTid s b.grant) p.ty p.key p.index (p.body.length + 16)).take 8) p.body, done := true }] } :: bs }) ∧
        (resv = 0 → invLimit s ≤ x.count → ∃ t, exec (.podEncrypt k) s = .next t ∧ slotAt t p.key = { x with st := 2, cause := 2 }))) ∧
    (exec (.cipherLoad (.pf 0) v) s = .next { s with out := [] }) ∧
    (rd s CIPHER_LOAD_CTRL.GO = 1 → exec (.cipherLoad (.trowel n) v) s = .next { s with out := [] }) ∧
    (rd s CIPHER_LOAD_CTRL.GO = 0 →
      let slot := v.toNat % 2 ^ 14
      let use := v.toNat / 2 ^ 16 % 4
      let wrapped := (List.range 10).flatMap fun i => beBytes 4 (rd s (CIPHER_LOAD_W.WRAPPED i))
      let tending := rd s JOIN_TEND_SLOTS.VALID = 1 ∧ (slotAt s slot).tending = true ∧ (slot = rd s JOIN_TEND_SLOTS.UP ∨ slot = rd s JOIN_TEND_SLOTS.DOWN)
      let regs := [CIPHER_LOAD_CTRL.SLOT, CIPHER_LOAD_CTRL.USE, CIPHER_LOAD_CTRL.STATUS, CIPHER_LOAD_CTRL.GO] ++
        (List.range 10).map CIPHER_LOAD_W.WRAPPED
      let ends (st : Nat) := ∃ t, exec (.cipherLoad (.trowel n) v) s = .next t ∧ rd t CIPHER_LOAD_CTRL.STATUS = st ∧
        rd t CIPHER_LOAD_CTRL.GO = 0 ∧ rd t CIPHER_LOAD_CTRL.SLOT = slot ∧ rd t CIPHER_LOAD_CTRL.USE = use ∧ t.cipher = s.cipher ∧
        onlyRegs regs s t
      (bitAt v.toNat 31 = false → ∃ t, exec (.cipherLoad (.trowel n) v) s = .next t ∧ rd t CIPHER_LOAD_CTRL.SLOT = slot ∧
        rd t CIPHER_LOAD_CTRL.USE = use ∧ onlyRegs [CIPHER_LOAD_CTRL.SLOT, CIPHER_LOAD_CTRL.USE] s t) ∧
      (bitAt v.toNat 31 = true → s.cipher.loads ≠ [] → ∃ t, exec (.cipherLoad (.trowel n) v) s = .next t ∧ rd t CIPHER_LOAD_CTRL.GO = 1 ∧
        t.cipher = { s.cipher with wait := s.cipher.wait ++ [{ slot := slot, use := use, wrapped := wrapped, msg := none }] } ∧
        onlyRegs [CIPHER_LOAD_CTRL.SLOT, CIPHER_LOAD_CTRL.USE, CIPHER_LOAD_CTRL.GO] { s with cipher := t.cipher } t) ∧
      (bitAt v.toNat 31 = true → s.cipher.loads = [] → s.cipher.wait = [] →
        (use = 3 → ends 3) ∧
        (use ≠ 3 → tending → ends 4) ∧
        (use ≠ 3 → ¬tending →
          (s.cipher.kek = none → ends 1) ∧
          (∀ kek, s.cipher.kek = some kek → (keyUnwrap kek wrapped = none → ends 2) ∧
            (∀ key, keyUnwrap kek wrapped = some key → ∃ t, exec (.cipherLoad (.trowel n) v) s = .next t ∧ rd t CIPHER_LOAD_CTRL.GO = 1 ∧
              t.cipher = { s.cipher with loads := [{ slot := slot, use := use, key := key, tending := false, msg := none }] } ∧
              onlyRegs regs { s with cipher := t.cipher } t))))) ∧
    (s.cipher.loads = [] → ∀ ok g u, exec (.cipherLoadComplete ok g u) s = .next { s with out := [] }) ∧
    (∀ (l : Load) (ls : List Load) (g : Nat) (u : Bool), s.cipher.loads = l :: ls → s.cipher.wait = [] → l.slot < 2 ^ 14 →
      let answered (t : State) := ∀ seq, l.msg = some seq → ∃ r q, t.join.answers = { ty := 0x0A, seq := seq, reply := some r } :: q
      (∃ t, exec (.cipherLoadComplete true g u) s = .next t ∧ rd t CIPHER_LOAD_CTRL.STATUS = 0 ∧
        rd t CIPHER_LOAD_CTRL.GO = 0 ∧
        t.cipher.loads = ls ∧ slotAt t l.slot = { st := 1, use := l.use, key := l.key, tending := l.tending } ∧
        (∀ m, m ≠ l.slot → slotAt t m = slotAt s m) ∧ (∀ e, e < 256 → t.cipher.resv.get (l.slot * 256 + e) 0 = 0) ∧ answered t ∧
        (l.tending = true → l.use = 0 → rd t JOIN_TEND_SLOTS.DOWN = l.slot) ∧
        (l.tending = true → l.use ≠ 0 → rd t JOIN_TEND_SLOTS.UP = l.slot ∧ rd t JOIN_TEND_SLOTS.VALID = 1)) ∧
      (∃ t e, exec (.cipherLoadComplete false g u) s = .next t ∧ rd t CIPHER_LOAD_CTRL.STATUS = 5 ∧
        rd t CIPHER_LOAD_CTRL.GO = 0 ∧ answered t ∧
        t.cipher = { s.cipher with loads := ls } ∧ t.rakeIn = s.rakeIn ++ [e] ∧ e.kind = 9 ∧ e.scope = .row g ∧ e.arg = b2n u)) ∧
    (∀ (l : Load) (q : LoadReq) (key : List Byte) (ok : Bool) (g : Nat) (u : Bool), s.cipher.loads = [l] → s.cipher.wait = [q] →
      l.tending = false → q.tend = none → checkLoad s q.slot q.use q.wrapped = .ok key → ∃ t, exec (.cipherLoadComplete ok g u) s = .next t ∧
        t.cipher.loads = [{ slot := q.slot, use := q.use, key := key, tending := false, msg := q.msg }] ∧ t.cipher.wait = [] ∧
        rd t CIPHER_LOAD_CTRL.GO = 1 ∧ rd t CIPHER_LOAD_CTRL.STATUS = (if ok = true then 0 else 5)) ∧
    (∀ (l : Load) (q : LoadReq) (key : List Byte) (ok : Bool) (g : Nat) (u : Bool), s.cipher.loads = [l] → s.cipher.wait = [q] →
      q.tend = some key → ∃ t, exec (.cipherLoadComplete ok g u) s = .next t ∧
        t.cipher.loads = [{ slot := q.slot, use := q.use, key := key, tending := true, msg := none }] ∧ t.cipher.wait = [] ∧
        rd t CIPHER_LOAD_CTRL.GO = 0 ∧ rd t CIPHER_LOAD_CTRL.STATUS = (if ok = true then 0 else 5)) ∧
    ((bitAt v.toNat 0 = true → (slotAt s sel).st = 1 → s.cipher.sealLog.length < 256 → ∃ t, exec (.cipherSeal src v) s = .next t ∧
        slotAt t sel = { slotAt s sel with st := 2, cause := 3 } ∧ t.cipher.sealLog = s.cipher.sealLog ++ [(sel, 3)] ∧
        t.cipher.resv = s.cipher.resv) ∧
      (bitAt v.toNat 0 = true → (slotAt s sel).st = 1 → 256 ≤ s.cipher.sealLog.length → ∃ t, exec (.cipherSeal src v) s = .next t ∧
        slotAt t sel = { slotAt s sel with st := 2, cause := 3 } ∧ t.cipher.sealLog = s.cipher.sealLog.tail ++ [(sel, 3)] ∧
        rd t CIPHER_SEAL_STAT.LOST = min (rd s CIPHER_SEAL_STAT.LOST + 1) (2 ^ CIPHER_SEAL_STAT.LOST.width - 1)) ∧
      (bitAt v.toNat 0 = false ∨ (slotAt s sel).st ≠ 1 → exec (.cipherSeal src v) s = .next { s with out := [] }) ∧
      (bitAt v.toNat 1 = true → (slotAt s sel).st ≠ 0 → s.cipher.wait = [] → ∃ t, exec (.cipherErase src v) s = .next t ∧ slotAt t sel = {} ∧
        (∀ m, m ≠ sel → slotAt t m = slotAt s m) ∧ (∀ e, e < 256 → t.cipher.resv.get (sel * 256 + e) 0 = 0) ∧
        t.cipher.loads = s.cipher.loads.filter (fun l => l.slot ≠ sel) ∧
        ((∃ l ∈ s.cipher.loads, l.slot = sel) → rd t CIPHER_LOAD_CTRL.STATUS = 6)) ∧
      (bitAt v.toNat 1 = false ∨ (slotAt s sel).st = 0 → exec (.cipherErase src v) s = .next { s with out := [] })) ∧
    (let x := slotAt s sel
      ∃ t, exec .cipherSlotStateRead s = .next t ∧
        t.readData = BitVec.ofNat 32 (x.st * 2 ^ 30 + b2n (s.cipher.loads.any fun l => l.slot = sel) * 2 ^ 29 + b2n x.tending * 2 ^ 28 + x.use * 2 ^ 26 + x.cause * 2 ^ 24) ∧
        rd t CIPHER_SLOT_INV_LO.INV_LO = x.count % 2 ^ 32 ∧ rd t CIPHER_SLOT_INV_HI.INV_HI = x.count / 2 ^ 32 % 2 ^ 16 ∧
        rd t CIPHER_SLOT_MASK_LO.MASK_LO = x.mask % 2 ^ 32 ∧ rd t CIPHER_SLOT_MASK_HI.MASK_HI = x.mask / 2 ^ 32 % 2 ^ 32 ∧
        t = { s with regs := t.regs, readData := t.readData, out := [] }) ∧
    (s.cipher.sealLog = [] → ∃ t, exec (.cipherSealPop (.pf 0)) s = .next t ∧ t = { s with readData := 0, out := [] }) ∧
    (∀ m c r, s.cipher.sealLog = (m, c) :: r →
      (exec (.cipherSealPop (.pf 0)) s = .next { s with
        cipher := { s.cipher with sealLog := r }, readData := BitVec.ofNat 32 (2 ^ 31 + c * 2 ^ 16 + m), out := [] }) ∧
      (∃ t, exec (.cipherSealPop (.trowel n)) s = .next t ∧ t.readData = BitVec.ofNat 32 (2 ^ 31 + c * 2 ^ 16 + m) ∧ t.cipher.sealLog = r)) ∧
    (∀ g (u : Bool),
      let place := if u = true then 32 + g else g
      (s.cipher.grafts.contains place = false → exec (.cipherGraftSwitchover g u) s = .next { s with out := [] }) ∧
      (u = true → emitting s (2 * g) = true ∨ emitting s (2 * g + 1) = true → exec (.cipherGraftSwitchover g u) s = .next { s with out := [] }) ∧
      (∀ x : Graft, s.cipher.grafts.contains place = true → (u = true → emitting s (2 * g) = false ∧ emitting s (2 * g + 1) = false) →
        s.rake.grafts.find? (fun x => x.ready && x.unit.cls = .cipher && x.serves = place) = some x → x.spare.cls = .cipher →
        (admits s x = true → x.unit.idx ≠ x.spare.idx → ∃ t, exec (.cipherGraftSwitchover g u) s = .next t ∧
          t.cipher.grafts = s.cipher.grafts.erase place ∧ t.rake.grafts = s.rake.grafts.filter (fun y => y.spare ≠ x.spare) ∧
          servesOf t x.spare = some place ∧ servesOf t x.unit = none) ∧
        (admits s x = false → ∃ t, exec (.cipherGraftSwitchover g u) s = .next t ∧ t.cipher = s.cipher ∧ t.regs = s.regs ∧
          t.rake.grafts = s.rake.grafts.map fun y => if y.spare = x.spare then
            { x with ready := false, tries := 0, busy := 0, gen := shadowGen s (poolOf x.spare) } else y)))

/-! ### The Rake -/

/-- Fault records and grafts (R407 to R419, R423, R425 to R427, R429, R430, R532). Of the events of one FAULT cycle the lowest source number
is taken first, what the units' own detectors report in it included; an event counts in its source's window, is reported at the window's opening and when N is reached, and shows in STICKY and ACTIVE, with one
source for kind 20 whatever its ARG (R459); events of a unit that is fenced or without power are ignored; a severe bank is grafted by the
first free spare or fenced, and a collapsed core is fenced whatever N says; a waiting record joins the main ring, the firmware ring of its
kind and the bed rings it belongs to; a pop reads the oldest record, from the side it is read or refused; the end of a level condition marks
its records; a scrub ends ready, runs again, or fences the spare, and a table bank is scrubbed in place and fenced after a second mismatch; a ready graft whose spare holds its shadow's generation switches over, and
else is scrubbed once more; a unit's return and an injection answer with their results, and a returned bank is grafted at once where its
scope is degraded. When a unit counts as powered down, that kind 20 stays active where another thermal state has set in, what scrubs of sleeping units
tell and what becomes of a fenced table bank are the model's, log entry 15, and that the reports of one FAULT cycle stand in a row in the
queue is log entry 42. -/
def Obligations.RakeSourcesRecordsAndGrafts : Prop :=
  ∀ (s : State) (v : Word) (n : Nat), s.rake.recQ.length < 255 → s.power.ask = none →
    let same (e : FaultEv) (x : Rec) : Bool := x.kind = e.kind && x.scope = e.scope && x.srcKey = (e.arg, e.loc)
    let isRec (x : Rec) (ty : Nat) (e : FaultEv) := x.ty = ty ∧ x.kind = e.kind ∧ x.u = now s ∧
      x.tvalid = decide (rd s TIME_STATUS.VALID = 1) ∧ x.scope = e.scope ∧ x.arg = e.arg ∧ x.cbr = false ∧ x.inj = e.inj
    let adds (t : State) (ty : Nat) (e : FaultEv) := ∃ x, t.rake.recQ = s.rake.recQ ++ [x] ∧ isRec x ty e
    let idle := ∀ k, k < chans s → rd s (FRM_STATUS.STATE k) = 0
    (∀ e x r, nextEv s.rakeIn = some e → s.rakeIn = x :: r → e ∈ s.rakeIn ∧ e.cycle = x.cycle ∧
      ∀ y ∈ s.rakeIn, y.cycle = x.cycle → e.source ≤ y.source) ∧
    (∀ x e, x.toEv s = some e → 2 ≤ mode s → idle →
      (moreEvents s = true → exec (.rakeFaultEvent (some x)) s = .next { s with rakeIn := s.rakeIn ++ [e], out := [] }) ∧
      (∀ d, moreEvents s = false → s.rakeIn = [d] → d.ext ≠ none → d.cycle = e.cycle →
        let first := if d.source ≤ e.source then d else e
        let second := if d.source ≤ e.source then e else d
        exec (.rakeFaultEvent (some x)) s = .next (sweepHunts (takeThis (takeThis { s with rakeIn := [d, e], out := [] } first) second)))) ∧
    (∀ (c : Option ExtFault) e0 l, 2 ≤ mode s → idle →
      (c = none ∧ nextEv s.rakeIn = some e0 ∧ l = s.rakeIn.erase e0) ∨
        (∃ x, c = some x ∧ x.toEv s = some e0 ∧ s.rakeIn = [] ∧ moreEvents s = false ∧ l = []) →
      e0.ext ≠ some true ∨ s.rake.inject = none → 1 ≤ e0.kind → e0.kind ≤ 21 →
      let e : FaultEv := { e0 with ext := none }
      let us := s.time.c / 1250
      let lim := rd s (RAKE_KIND.N e.kind)
      let mine (x : RSource) : Bool := x.kind = e.kind && x.scope = e.scope && (x.arg = e.arg || e.kind = 20) && x.loc = e.loc
      let old := s.rake.sources.find? mine
      let cnt := (old.map (·.count)).getD 0
      let start := (old.map (·.wstart)).getD 0
      let opens := cnt = 0 ∨ max 1 (rd s (RAKE_KIND.WINDOW e.kind)) ≤ us - start
      let count := if opens then 1 else min (cnt + 1) 255
      let severe := lim ≠ 0 ∧ lim ≤ count
      let src : RSource :=
        ⟨e.kind, e.scope, e.arg, e.loc, (if severe then 0 else count), (if opens then us else start), levelKind e.kind⟩
      (evIgnored s e = true → exec (.rakeFaultEvent c) s = .next { s with rakeIn := l, out := [] }) ∧
      (unitOf e = none → ∃ t, exec (.rakeFaultEvent c) s = .next t ∧ t.rakeIn = l ∧
        t.rake.sources = s.rake.sources.filter (fun x => !mine x) ++ [src] ∧
        rd t RAKE_STICKY.KINDS = Nat.lor (rd s RAKE_STICKY.KINDS) (2 ^ (e.kind - 1)) % 2 ^ 31 ∧
        (∀ j, j < 31 → bitAt (rd t RAKE_ACTIVE.KINDS) j = t.rake.sources.any fun x => x.active && x.kind - 1 = j) ∧
        (severe → adds t 2 e) ∧ (¬severe → opens → adds t 1 e) ∧ (¬severe → ¬opens → t.rake.recQ = s.rake.recQ) ∧
        (e.kind ≠ 21 → onlyRegs [RAKE_STICKY.KINDS, RAKE_ACTIVE.KINDS] { s with rake := t.rake, rakeIn := t.rakeIn } t) ∧
        (e.kind = 21 → poolIdle s e.loc = true ∨ s.rake.badShadow.contains e.loc = true ∨
            (∀ u ∈ poolUnits s e.loc, servesOf s u = none ∨ unitFenced s u = true) → t.rake.badShadow.contains e.loc = true)) ∧
      (∀ u i, evIgnored s e = false → unitOf e = some u → servesOf s u = some i → graftOf s u = none →
        (∀ g ∈ s.rake.grafts, g.unit ≠ u) →
        (e.kind = 10 → ∃ t, exec (.rakeFaultEvent c) s = .next t ∧ unitFenced t u = true) ∧
        (e.kind = 17 → lim = 1 → rd s RAKE_CTRL.ACT_EN = 1 → rd s (RAKE_KIND.ACTION 17) = 2 → s.rake.recQ.length < 250 → ∃ t,
          exec (.rakeFaultEvent c) s = .next t ∧ unitFenced t u = true ∧ t.rake.grafts = s.rake.grafts ∧
            (freeSpares s (poolOf u) = [] ∨ rd s (HL_BED.PARTNER_HS (u.idx / 34)) = 0 → ∃ x ∈ t.rake.recQ, isRec x 5 e)) ∧
        (e.kind = 5 → u.cls = .table → lim = 1 → rd s RAKE_CTRL.ACT_EN = 1 → rd s (RAKE_KIND.ACTION 5) = 1 → ∃ t g,
          exec (.rakeFaultEvent c) s = .next t ∧ t.rake.grafts = s.rake.grafts ++ [g] ∧ g.unit = u ∧ g.spare = u ∧ g.ready = false ∧
            u.idx ∈ t.rake.tableShadow) ∧
        (e.kind = 5 → u.cls = .bank → lim = 1 → rd s RAKE_CTRL.ACT_EN = 1 → rd s (RAKE_KIND.ACTION 5) = 1 →
          (∀ f fs, freeSpares s (poolOf u) = f :: fs → ∃ t g, exec (.rakeFaultEvent c) s = .next t ∧ adds t 2 e ∧
            t.rake.grafts = s.rake.grafts ++ [g] ∧ g.unit = u ∧ g.spare = { cls := .bank, idx := f } ∧ g.serves = i ∧ g.fenced = false ∧
            g.ready = false ∧ freeSpares t (poolOf u) = fs.filter (· ≠ f) ∧ rd t RAKE_STATUS.GRAFTING = 1) ∧
          (freeSpares s (poolOf u) = [] → ∃ t, exec (.rakeFaultEvent c) s = .next t ∧ unitFenced t u = true ∧ servesOf t u = none ∧
            t.rake.grafts = s.rake.grafts)))) ∧
    (idle → mode s < 2 ∨ s.rakeIn = [] → exec (.rakeFaultEvent none) s = .next { s with out := [] }) ∧
    (∀ x, idle → mode s < 2 ∨ x.toEv s = none ∧ s.rakeIn = [] → exec (.rakeFaultEvent (some x)) s = .next { s with out := [] }) ∧
    (s.rake.recQ = [] → exec .rakeRecordWrite s = .next { s with out := [] }) ∧
    (∀ r q, s.rake.recQ = r :: q → r.kind < 32 → s.rake.main.recs.length ≤ 1024 → s.rake.fw.recs.length < 256 →
      ∃ t, exec .rakeRecordWrite s = .next t ∧ t.rake.recQ = q ∧
        (let l := s.rake.main.recs ++ [{ r with seq := s.rake.main.next }]
         t.rake.main = { recs := (if s.rake.main.recs.length = 1024 then l.tail else l), next := (s.rake.main.next + 1) % 65536 }) ∧
        rd t RAKE_RING_STAT.COUNT = min 1024 (s.rake.main.recs.length + 1) ∧
        (s.rake.main.recs.length = 1024 → rd t RAKE_RING_STAT.OVERFLOW = min (rd s RAKE_RING_STAT.OVERFLOW + 1) 0xFFFF) ∧
        (rd s (RAKE_KIND.FW r.kind) = 0 → t.rake.fw = s.rake.fw) ∧
        (rd s (RAKE_KIND.FW r.kind) = 1 → t.rake.fw.recs = s.rake.fw.recs ++ [{ r with seq := s.rake.fw.next }]) ∧
        (r.scope = .dev → rd s (RAKE_KIND.TENANT r.kind) = 0 → t.rake.bed = s.rake.bed) ∧
        (∀ b, b < beds s → r.scope = .bed b ∨ (∃ g, r.scope = .row g ∧ g / 4 = b) ∨
            (r.scope = .dev ∧ rd s (RAKE_KIND.TENANT r.kind) = 1) → (s.rake.bed.get b {}).recs.length < 256 →
          (t.rake.bed.get b {}).recs = (s.rake.bed.get b {}).recs ++ [{ r with source := 0, loc := 0, seq := (s.rake.bed.get b {}).next }] ∧
          (r.scope ≠ .dev → ∀ j, j ≠ b → t.rake.bed.get j {} = s.rake.bed.get j {}))) ∧
    (∀ src, src = .pf 0 ∨ src = .trowel n →
      (s.rake.main.recs = [] → ∃ t, exec (.ringPop 0 src) s = .next t ∧ t.readData = 0 ∧ t.rake = s.rake) ∧
      (∀ r q, s.rake.main.recs = r :: q → ∃ t, exec (.ringPop 0 src) s = .next t ∧ t.readData = BitVec.ofNat 32 (r.words.getD 0 0) ∧
        (∀ i, i < 4 → rd t (RAKE_POP.V i) = r.words.getD i 0 % 2 ^ 32) ∧ rd t RAKE_RING_STAT.COUNT = q.length % 2 ^ 11 ∧
        t.rake = { s.rake with main := { s.rake.main with recs := q } }) ∧
      (∀ r q, s.rake.fw.recs = r :: q → ∃ t, exec (.ringPop 1 src) s = .next t ∧ t.readData = BitVec.ofNat 32 (r.words.getD 0 0) ∧
        (∀ i, i < 4 → rd t (RAKE_FW_POP.V i) = r.words.getD i 0 % 2 ^ 32) ∧ t.rake = { s.rake with fw := { s.rake.fw with recs := q } }) ∧
      (∀ b, b < beds s → exec (.ringPop (b + 2) src) s = .next { s with
        readData := (match (s.rake.bed.get b {}).recs with
          | [] => 0
          | r :: _ => BitVec.ofNat 32 (r.words.getD 0 0)), out := [] }) ∧
      (∀ b, beds s ≤ b → exec (.ringPop (b + 2) src) s = .next { s with out := [] })) ∧
    (∀ f ring, ring ≠ f + 2 → f + 1 < fns s → ∃ t, exec (.ringPop ring (.pf (f + 1))) s = .next t ∧ t.readData = 0 ∧ t.rake = s.rake ∧
      rd t (FN_STATUS.HOLES (f + 1)) = min (rd s (FN_STATUS.HOLES (f + 1)) + 1) 0xFFFF) ∧
    (∀ b, b < beds s →
      (b ∈ s.lane.resetting → exec (.ringPop (b + 2) (.pf (b + 1))) s = .next { s with readData := 0, out := [] }) ∧
      (b ∉ s.lane.resetting → (s.rake.bed.get b {}).recs = [] → ∃ t, exec (.ringPop (b + 2) (.pf (b + 1))) s = .next t ∧ t.readData = 0 ∧
        (t.rake.bed.get b {}).recs = []) ∧
      (∀ r q, b ∉ s.lane.resetting → (s.rake.bed.get b {}).recs = r :: q → ∃ t, exec (.ringPop (b + 2) (.pf (b + 1))) s = .next t ∧
        t.readData = BitVec.ofNat 32 (r.words.getD 0 0) ∧ (t.rake.bed.get b {}).recs = q)) ∧
    (s.rakeEnds = [] → exec .levelConditionEnd s = .next { s with out := [] }) ∧
    (∀ e r, s.rakeEnds = e :: r →
      let mine (x : FaultEv) := x.kind = e.kind ∧ x.scope = e.scope ∧ x.arg = e.arg ∧ x.loc = e.loc
      let ended (x : RSource) : Bool := x.kind = e.kind && x.scope = e.scope && x.arg = e.arg && x.loc = e.loc &&
        !(e.kind = 20 && s.rakeIn.any fun y => y.kind = 20)
      ((∃ x ∈ s.rakeIn, mine x) → exec .levelConditionEnd s = .next { s with out := [] }) ∧
      ((∀ x ∈ s.rakeIn, ¬mine x) → ∃ t, exec .levelConditionEnd s = .next t ∧ t.rakeEnds = r ∧
        t.rake.sources = (s.rake.sources.map fun x => if ended x then { x with active := false } else x) ∧
        t.rake.main.recs = (s.rake.main.recs.map fun x => if same e x = true then { x with cbr := true } else x) ∧
        t.rake.recQ = (s.rake.recQ.map fun x => if same e x = true then { x with cbr := true } else x) ∧
        onlyRegs [RAKE_ACTIVE.KINDS] { s with rake := t.rake, rakeEnds := t.rakeEnds } t)) ∧
    (∀ (g : Graft) (u : Nat), s.rake.grafts.find? (fun x => x.spare.code = u) = some g → g.spare.cls = g.unit.cls → g.unit.idx < 4096 →
      g.spare.idx < 4096 → g.unit.idx ≠ g.spare.idx →
      let gen := shadowGen s (poolOf g.spare)
      let put (h : Graft) := s.rake.grafts.map fun x => if x.spare = g.spare then h else x
      let rest := s.rake.grafts.filter fun x => x.spare ≠ g.spare
      let row := g.unit.cls = .parser ∨ g.unit.cls = .reshuf
      (g.ready = true ∨ unitDown s g.spare = true → idle → ∀ ok, exec (.scrubComplete u ok) s = .next { s with out := [] }) ∧
      (g.ready = false → exec (.bankGraftSwitchover u) s = .next { s with out := [] } ∧
        exec (.tileGraftSwitchover u) s = .next { s with out := [] }) ∧
      (g.ready = false → unitDown s g.spare = false → idle →
        let settled := g.gen = gen ∨ 10 ≤ g.busy
        let bad := s.rake.badShadow.contains (poolOf g.spare)
        (¬settled → ∀ ok, exec (.scrubComplete u ok) s = .next { s with
          rake := { s.rake with grafts := put { g with gen := gen, busy := g.busy + 1 } }, out := [] }) ∧
        (settled → bad = false → g.unit.cls = .bank ∨ row → ∃ t, exec (.scrubComplete u true) s = .next t ∧
          t.rake.grafts = put { g with ready := true, prep := true } ∧ unitGen t g.spare = gen) ∧
        (∀ ok, settled → ok = false ∨ bad = true → g.tries = 0 → exec (.scrubComplete u ok) s = .next { s with
          rake := { s.rake with grafts := put { g with tries := 1 } }, out := [] }) ∧
        (∀ ok, settled → ok = false ∨ bad = true → g.tries ≠ 0 → g.unit.cls = .bank →
          (freeSpares s (poolOf g.unit) = [] → ∃ t, exec (.scrubComplete u ok) s = .next t ∧
            t.rake.grafts = rest ∧ unitFenced t g.spare = true ∧ unitGen t g.spare = 0) ∧
          (∀ f fs, freeSpares s (poolOf g.unit) = f :: fs → f ≠ g.spare.idx → ∃ t h, exec (.scrubComplete u ok) s = .next t ∧
            t.rake.grafts = rest ++ [h] ∧ h.unit = g.unit ∧ h.spare = { cls := .bank, idx := f } ∧ h.serves = g.serves ∧
            unitFenced t g.spare = true))) ∧
      (g.ready = true →
        let moves (c : Instr) := ∃ t x l, exec c s = .next t ∧ t.rake.grafts = rest ∧ servesOf t g.spare = some g.serves ∧
          servesOf t g.unit = none ∧ t.rake.recQ = s.rake.recQ ++ x :: l ∧ isRec x 4 g.ev ∧ (g.fenced = true → l = []) ∧
          (g.fenced = false → unitFenced t g.unit = true) ∧ rd t RAKE_STATUS.GRAFTING = (if rest = [] then 0 else 1)
        let again (c : Instr) := exec c s = .next { s with rake := { s.rake with
          grafts := put { g with ready := false, tries := 0, busy := 0, gen := gen } }, out := [] }
        (g.unit.cls = .bank → (admits s g = true → moves (.bankGraftSwitchover u)) ∧ (admits s g = false → again (.bankGraftSwitchover u))) ∧
        (row → (admits s g = true → moves (.tileGraftSwitchover u)) ∧ (admits s g = false → again (.tileGraftSwitchover u))))) ∧
    (∀ u, (∀ g ∈ s.rake.grafts, g.spare.code ≠ u) →
      exec (.bankGraftSwitchover u) s = .next { s with out := [] } ∧ exec (.tileGraftSwitchover u) s = .next { s with out := [] } ∧
      (∀ x p ok, idle → unitOfCode u = some x → servesOf s x = some p → unitFenced s x = false →
        (domState (mode s) x.domain = 0 → exec (.scrubComplete u ok) s = .next { s with out := [] }) ∧
        (domState (mode s) x.domain ≠ 0 → exec (.scrubComplete u ok) s = .next { s with rake := { s.rake with
          woken := if ok = true then s.rake.woken.erase u else s.rake.woken.insert u (min 2 (s.rake.woken.get u 0 + 1)) }, out := [] }))) ∧
    (∀ (g : Graft) (u : Nat), s.rake.grafts.find? (fun x => x.spare.code = u) = some g → g.unit.cls = .table → g.spare = g.unit →
      g.ready = false → idle → 2 ≤ mode s → g.gen = shadowGen s (poolOf g.spare) →
      let bad := s.rake.badShadow.contains (poolOf g.spare)
      let rest := s.rake.grafts.filter fun x => x.spare ≠ g.spare
      (bad = false → ∃ t, exec (.scrubComplete u true) s = .next t ∧ t.rake.grafts = rest ∧
        t.rake.tableShadow = s.rake.tableShadow.erase g.unit.idx) ∧
      (∀ ok, ok = false ∨ bad = true → g.tries ≠ 0 → ∃ t, exec (.scrubComplete u ok) s = .next t ∧ t.rake.grafts = rest ∧
        unitFenced t g.unit = true ∧ g.unit.idx ∈ t.rake.tableShadow)) ∧
    (bitAt v.toNat 31 = false ∨ rd s RAKE_RETURN.GO = 1 → ∃ t, exec (.rakeReturn v) s = .next t ∧ rd t RAKE_RETURN.LOC = v.toNat % 2 ^ 20 ∧
      onlyRegs [RAKE_RETURN.LOC] s t) ∧
    (bitAt v.toNat 31 = true → rd s RAKE_RETURN.GO = 0 →
      let found := s.rake.fenced.find? fun f => Config.locCode f.unit.code % 2 ^ 20 = v.toNat % 2 ^ 20
      let ends (c : Nat) := ∃ t, exec (.rakeReturn v) s = .next t ∧ rd t RAKE_RETURN.RESULT = c ∧ rd t RAKE_RETURN.LOC = v.toNat % 2 ^ 20 ∧
        onlyRegs [RAKE_RETURN.RESULT, RAKE_RETURN.LOC] s t
      (found = none → ends 3) ∧
      (∀ f, found = some f → (unitBusy s f = true → ends 4) ∧
        (unitBusy s f = false → ∃ t, exec (.rakeReturn v) s = .next t ∧ rd t RAKE_RETURN.GO = 1 ∧
          t.rake = { s.rake with returning := some f }))) ∧
    (s.rake.returning = none → ∀ ok, exec (.rakeReturnComplete ok) s = .next { s with out := [] }) ∧
    (∀ f, s.rake.returning = some f →
      (∃ t, exec (.rakeReturnComplete false) s = .next t ∧ rd t RAKE_RETURN.RESULT = 2 ∧ rd t RAKE_RETURN.GO = 0 ∧
        t.rake = { s.rake with returning := none } ∧ onlyRegs [RAKE_RETURN.RESULT, RAKE_RETURN.GO] { s with rake := t.rake } t) ∧
      ((∀ w ∈ s.rake.unserved, poolOf w.unit ≠ poolOf f.unit) → ∃ t, exec (.rakeReturnComplete true) s = .next t ∧
        rd t RAKE_RETURN.RESULT = 1 ∧ rd t RAKE_RETURN.GO = 0 ∧
        t.rake.returning = none ∧ unitFenced t f.unit = false ∧ unitGen t f.unit = 0 ∧ adds t 8 f.ev) ∧
      (∀ w, s.rake.unserved.find? (fun w => poolOf w.unit = poolOf f.unit &&
          !(s.rake.grafts.any fun g => g.unit.cls = w.unit.cls && g.serves = w.serves)) = some w → f.unit.cls = .bank → w.unit.cls = .bank → ∃ t g, exec (.rakeReturnComplete true) s = .next t ∧
        rd t RAKE_RETURN.RESULT = 1 ∧ unitFenced t f.unit = false ∧ adds t 8 f.ev ∧ t.rake.grafts = s.rake.grafts ++ [g] ∧
        g.unit = w.unit ∧ g.spare = f.unit ∧ g.serves = w.serves ∧ g.fenced = true ∧ g.ready = false)) ∧
    (bitAt v.toNat 31 = false → ∃ t, exec (.rakeInject v) s = .next t ∧ rd t RAKE_INJECT.KIND = v.toNat % 32 ∧
      onlyRegs [RAKE_INJECT.DRY, RAKE_INJECT.COUNT, RAKE_INJECT.KIND] s t) ∧
    (bitAt v.toNat 31 = true →
      let k := v.toNat % 32
      let e := injectTarget s k
      let ends (c : Nat) := ∃ t, exec (.rakeInject v) s = .next t ∧ rd t RAKE_INJECT.RESULT = c ∧ t.rake = s.rake ∧
        onlyRegs [RAKE_INJECT.DRY, RAKE_INJECT.COUNT, RAKE_INJECT.KIND, RAKE_INJECT.RESULT] s t
      (k < 5 ∨ 9 < k → ends 2) ∧
      (5 ≤ k → k ≤ 9 →
        (injectOk s e = false → ends 3) ∧
        (injectOk s e = true → s.rake.inject ≠ none → ends 4) ∧
        (injectOk s e = true → s.rake.inject = none → ∃ t, exec (.rakeInject v) s = .next t ∧ rd t RAKE_INJECT.RESULT = 1 ∧
          t.rake = { s.rake with inject := some (e, max 1 (v.toNat / 2 ^ 16 % 256), bitAt v.toNat 30) })))

/-! ### Host lanes and ports -/

/-- Ports and lanes (R517 to R523, R526 to R528). A port's FEC words are counted as corrected or uncorrectable; a frame that it receives
passes the MAC's checks in their order, each refusal counted, and is then a pause, a handshake message or the Sieve's; a MODE write forms
the row's ports anew, or waits for a graft; a lane write that would loop back a lane in a graft is refused, and a lane disabled takes its
port down, and its lands carry what its loopback and test pattern say, precoded as it is set; equalizer taps are bounded; a locked lane, a
port whose lanes are locked, a lost link or a fault that begins or ends, and a bad error window each do what the rules say.
Where these rules leave a corner open, the statement speaks of the
model's choice, log entries 9, 12, 23 and 44. -/
def Obligations.PortsAndLanes : Prop :=
  ∀ (s : State) (v : Word) (p b l : Nat), p < ports s → b < beds s → l < 34 →
    let holds (n : Nat) (t : State) := t.lane = s.lane ∧ t.freeCtr = s.freeCtr + n
    let adapts (n : Nat) (t : State) := (rd s (HL_LANE_CTRL.ADAPT_FREEZE b l) = 1 → holds n t) ∧
      (rd s (HL_LANE_CTRL.ADAPT_FREEZE b l) ≠ 1 → ∃ e : List Nat, e.length = 34 ∧
        t.lane = { s.lane with eq := s.lane.eq.insert (34 * b + l) e } ∧ t.freeCtr = s.freeCtr + n + 34)
    (∀ (fr : List Byte) (ctl : Bool) (words others : List (List Nat)),
      let code : Bool := ctl || words.any fecFails
      let corr := (others ++ words).countP fecFixes
      let unc := (others ++ words).countP fecFails
      let body := fr.take (fr.length - 4)
      let fec := mirrored (HL_PORT_FEC.CORR p) ++ mirrored (HL_PORT_FEC.UNCORR p)
      let counts (c : Fld) := ∃ t, exec (.hostFrameReceive p fr ctl words others) s = .next t ∧ rd t c = min (rd s c + 1) (2 ^ c.width - 1) ∧
        rd t (HL_PORT_FEC.CORR p) = min (rd s (HL_PORT_FEC.CORR p) + corr) 0xFFFF ∧
        rd t (HL_PORT_FEC.UNCORR p) = min (rd s (HL_PORT_FEC.UNCORR p) + unc) 0xFFFF ∧ onlyRegs (mirrored c ++ fec) s t
      (portUpNow s p = false → exec (.hostFrameReceive p fr ctl words others) s = .next { s with out := [] }) ∧
      (portUpNow s p = true →
        (code = true → counts (HL_PORT_ERR.CODE p)) ∧
        (code = false → fcsOk fr = false → counts (HL_PORT_ERR.FCS p)) ∧
        (code = false → fcsOk fr = true → fr.length < 64 ∨ 9600 < fr.length → counts (HL_PORT_ERR.LEN p)) ∧
        (code = false → fcsOk fr = true → 64 ≤ fr.length → fr.length ≤ 9600 →
          (isPause fr = true → beAt body 14 2 = 1 → ∃ t, exec (.hostFrameReceive p fr ctl words others) s = .next t ∧
            t.sched.timer.get (16 * p + 8) 0 = beAt body 16 2 ∧
            rd t (SCHED_DN_PORT_STAT.LINK_PAUSED p) = (if beAt body 16 2 = 0 then 0 else 1) ∧ t.sieve = s.sieve ∧
            onlyRegs (SCHED_DN_PORT_STAT.LINK_PAUSED p :: fec) { s with sched := t.sched } t) ∧
          (isPause fr = true → beAt body 14 2 ≠ 1 → ∃ t, exec (.hostFrameReceive p fr ctl words others) s = .next t ∧
            (∀ q, q < 8 → t.sched.timer.get (16 * p + q) 0 =
              if bitAt (beAt body 16 2) q then beAt body (18 + 2 * q) 2 else s.sched.timer.get (16 * p + q) 0) ∧
            onlyRegs (SCHED_DN_PORT_STAT.PAUSED p :: fec) { s with sched := t.sched } t) ∧
          (isPause fr = false → isHandshake s fr = true →
            (beAt fr 18 1 ≠ 1 ∨ beAt fr 19 1 = 0 ∨ 8 ≤ beAt fr 19 1 → counts (HL_BED_MSG.BAD (p / 32))) ∧
            (beAt fr 18 1 = 1 → beAt fr 19 1 = 2 → ∃ t, exec (.hostFrameReceive p fr ctl words others) s = .next t ∧ onlyRegs fec s t) ∧
            (beAt fr 18 1 = 1 → beAt fr 19 1 ∈ [1, 3, 4, 5, 6, 7] → ∃ t, exec (.hostFrameReceive p fr ctl words others) s = .next t ∧
              t.lane = { s.lane with hsIn := s.lane.hsIn ++
                [{ port := p, ty := beAt fr 19 1, slot := beAt fr 22 1, spare := beAt fr 23 1, flags := beAt fr 24 1 }] } ∧
              onlyRegs fec { s with lane := t.lane } t)) ∧
          (isPause fr = false → isHandshake s fr = false → rd s SPR_CTRL.ENABLE = 0 ∨ sprMatch s p body = none →
            let odd := s.sched.tile.contains (p / 8)
            let f : SvIn := { up := true, port := p, bed := p / 32, tile := (if odd then 1 else 0), bytes := body }
            ∃ t, exec (.hostFrameReceive p fr ctl words others) s = .next t ∧
              t.sieve = { s.sieve with frames := s.sieve.frames ++ [f] } ∧
              t.sched = { s.sched with tile := (if odd then s.sched.tile.erase (p / 8) else p / 8 :: s.sched.tile) } ∧
              onlyRegs fec { s with sieve := t.sieve, sched := t.sched } t)))) ∧
    (let g := p / 8
     let m := v.toNat % 4
     (∀ x ∈ s.rake.grafts, x.unit.cls = .lane → x.serves / 8 ≠ g) →
      (m = rd s (HL_ROW.MODE g) → rowNarrow s g = false → ∃ t, exec (.hlRowModeWrite g v) s = .next t ∧ rd t (HL_ROW.AUTO_REFORM g) = v.toNat / 2 ^ 31 ∧
        onlyRegs [HL_ROW.AUTO_REFORM g] s t) ∧
      (m ≠ rd s (HL_ROW.MODE g) → lineUp s = false → ∃ t, exec (.hlRowModeWrite g v) s = .next t ∧ rd t (HL_ROW.MODE g) = m ∧
        onlyRegs [HL_ROW.AUTO_REFORM g, HL_ROW.MODE g] s t) ∧
      (m ≠ rd s (HL_ROW.MODE g) ∨ rowNarrow s g = true → lineUp s = true → s.lane.pos = [] → ∃ t, exec (.hlRowModeWrite g v) s = .next t ∧ rd t (HL_ROW.MODE g) = m ∧
        ∀ i, i < 8 → (i < 2 ^ m → rd t (HL_PORT.STATE (8 * g + i)) ≤ 1 ∧ rd t (HL_PORT.WIDTH (8 * g + i)) = 8 / 2 ^ m ∧
          rd t (HL_PORT.FIRST (8 * g + i)) = i * (8 / 2 ^ m)) ∧ (2 ^ m ≤ i → rd t (HL_PORT.STATE (8 * g + i)) = 3))) ∧
    (let g := p / 8
     ∀ x, s.rake.grafts = [x] → x.unit.cls = .lane → x.serves / 8 = g → v.toNat % 4 ≠ rd s (HL_ROW.MODE g) ∨ rowNarrow s g = true → ∃ t,
      exec (.hlRowModeWrite g v) s = .next t ∧ rd t (HL_ROW.PENDING g) = 1 ∧ rd t (HL_ROW.MODE g) = rd s (HL_ROW.MODE g) ∧
      t.lane = { s.lane with held := s.lane.held.insert g (v.toNat % 4) } ∧
      onlyRegs [HL_ROW.AUTO_REFORM g, HL_ROW.PENDING g] { s with lane := t.lane } t) ∧
    (let loop := v.toNat / 2 ^ 26 % 4
     let st := rd s (HL_LANE_STAT.STATE b l)
     let set (t : State) := exec (.hlLaneCtrlWrite b l v) s = .next t ∧ rd t (HL_LANE_CTRL.ENABLE b l) = v.toNat / 2 ^ 31 ∧
       rd t (HL_LANE_CTRL.SER_THR b l) = v.toNat % 2 ^ 20 ∧
       (∀ l', laneSymbols t b l l' = if v.toNat / 2 ^ 30 % 2 = 1 then precode 0 (l'.map grayPair) else l'.map grayPair) ∧
       (v.toNat / 2 ^ 30 % 2 = v.toNat / 2 ^ 29 % 2 → ∀ l', laneValues t b l (laneSymbols t b l l') = l'.map grayPair)
     let sends (t : State) := lineUp s = true → s.power.down = none → st ≠ 5 → laneTx t b l =
       if v.toNat / 2 ^ 31 = 0 then .idle else if loop = 3 then .looped else if loop ≠ 0 then .idle
       else if v.toNat / 2 ^ 24 % 4 ≠ 0 then .pattern (v.toNat / 2 ^ 24 % 4)
       else if st = 0 ∨ rd s (HL_LANE_STAT.TX_DOZE b l) = 1 then .idle else .pcs
     ((∀ i q, laneSlot s b l = some i → portOfSlot s b i ≠ some q) →
       (laneBusy s b l = true → loop ≠ rd s (HL_LANE_CTRL.LOOPBACK b l) → ∃ t, set t ∧ rd t (HL_LANE_STAT.LB_ERR b l) = 1 ∧
         rd t (HL_LANE_CTRL.LOOPBACK b l) = rd s (HL_LANE_CTRL.LOOPBACK b l)) ∧
       (laneBusy s b l = false → ∃ t, set t ∧ sends t ∧ rd t (HL_LANE_CTRL.LOOPBACK b l) = loop ∧
         rd t (HL_LANE_STAT.STATE b l) = (if v.toNat / 2 ^ 31 = 0 ∧ 1 ≤ st ∧ st ≤ 3 then 0 else st) ∧
         onlyRegs [HL_LANE_CTRL.ENABLE b l, HL_LANE_CTRL.TX_PRECODE b l, HL_LANE_CTRL.RX_PRECODE b l, HL_LANE_CTRL.ADAPT_FREEZE b l,
           HL_LANE_CTRL.LOOPBACK b l, HL_LANE_CTRL.PRBS_TX b l, HL_LANE_CTRL.PRBS_RX b l, HL_LANE_CTRL.SER_THR b l, HL_LANE_STAT.STATE b l]
           { s with rake := t.rake } t)) ∧
     (∀ i q, laneSlot s b l = some i → portOfSlot s b i = some q → ∃ t, set t ∧
       (v.toNat / 2 ^ 31 = 0 → rd t (HL_PORT.STATE q) = 0))) ∧
    (let tap (i : Nat) := (toSigned 8 (v.toNat / 2 ^ (8 * i) % 256)).natAbs
     let sum := tap 0 + tap 1 + tap 2 + tap 3
     (128 < sum → ∃ t, exec (.txeqWrite b l v) s = .next t ∧ rd t (HL_LANE_STAT.TXEQ_ERR b l) = 1 ∧ onlyRegs [HL_LANE_STAT.TXEQ_ERR b l] s t) ∧
     (sum ≤ 128 → ∃ t, exec (.txeqWrite b l v) s = .next t ∧ rd t (HL_LANE_TXEQ.C_M2 b l) = v.toNat / 2 ^ 24 ∧
       rd t (HL_LANE_TXEQ.C_M1 b l) = v.toNat / 2 ^ 16 % 256 ∧ rd t (HL_LANE_TXEQ.C_0 b l) = v.toNat / 2 ^ 8 % 256 ∧
       rd t (HL_LANE_TXEQ.C_P1 b l) = v.toNat % 256 ∧
       onlyRegs [HL_LANE_TXEQ.C_M2 b l, HL_LANE_TXEQ.C_M1 b l, HL_LANE_TXEQ.C_0 b l, HL_LANE_TXEQ.C_P1 b l] { s with rake := t.rake } t)) ∧
    (let st := rd s (HL_LANE_STAT.STATE b l)
     st = 1 → rd s (HL_LANE_CTRL.ENABLE b l) = 1 → lineUp s = true → ∃ t, exec (.laneLock b l) s = .next t ∧
      rd t (HL_LANE_STAT.STATE b l) = 2 ∧ adapts 1 t ∧
      onlyRegs [HL_LANE_STAT.STATE b l, HL_LANE_STAT.SNR b l] { s with lane := t.lane, freeCtr := t.freeCtr } t) ∧
    (rd s (HL_LANE_STAT.STATE b l) ≠ 1 ∨ rd s (HL_LANE_CTRL.ENABLE b l) = 0 ∨ lineUp s = false → exec (.laneLock b l) s = .next { s with out := [] }) ∧
    (rd s (HL_PORT.STATE p) ≠ 1 → exec (.portUp p) s = .next { s with out := [] }) ∧
    (rd s (HL_PORT.STATE p) = 1 →
      let locked (x : Nat) := rd s (HL_LANE_STAT.STATE (p / 32) x) = 2 ∨ rd s (HL_LANE_STAT.STATE (p / 32) x) = 4
      ((∀ x ∈ portLanes s p, locked x) → ∃ t,
        exec (.portUp p) s = .next t ∧ t.lane = { s.lane with fault := s.lane.fault.erase p } ∧
        (s.lane.fault.contains p = true → .faultSeq p false ∈ t.out) ∧
        (rd s (HL_PORT.RF p) = 1 → onlyRegs [] { s with lane := t.lane } t) ∧
        (rd s (HL_PORT.RF p) = 0 → rd t (HL_PORT.STATE p) = 2 ∧
          (∃ x, t.nqIn.get 0 [] = s.nqIn.get 0 [] ++ [x] ∧ x.ty = 3 ∧ x.arg = 256 * p + 1) ∧
          (rd s (SCHED_UP_PORT_USE.ASSERTED p) = 0 → onlyRegs [HL_PORT.STATE p] { s with nqIn := t.nqIn, lane := t.lane } t))) ∧
      ((∃ x ∈ portLanes s p, ¬locked x) → exec (.portUp p) s = .next { s with out := [] })) ∧
    (∀ why, rd s (HL_PORT.STATE p) = 3 → exec (.portLinkLoss p why) s = .next { s with out := [] }) ∧
    (let lost (t : State) := p ∈ t.lane.fault ∧ (p ∉ s.lane.fault → .faultSeq p true ∈ t.out)
     (rd s (HL_PORT.STATE p) ≠ 3 → ∃ t, exec (.portLinkLoss p 3) s = .next t ∧ rd t (HL_PORT.RF p) = 0 ∧ onlyRegs [HL_PORT.RF p] s t) ∧
     (rd s (HL_PORT.STATE p) < 2 → (∃ t, exec (.portLinkLoss p 2) s = .next t ∧ rd t (HL_PORT.RF p) = 1 ∧ onlyRegs [HL_PORT.RF p] s t) ∧
       ∀ why, why < 2 → (rd s (HL_PORT.RX_DOZING p) = 1 → exec (.portLinkLoss p why) s = .next { s with out := [] }) ∧
         (rd s (HL_PORT.RX_DOZING p) = 0 → ∃ t, exec (.portLinkLoss p why) s = .next t ∧ lost t ∧
           (∀ q, q ≠ p → (q ∈ t.lane.fault ↔ q ∈ s.lane.fault)) ∧
           onlyRegs [] { s with lane := { s.lane with fault := t.lane.fault } } t)) ∧
     (∀ why, why < 3 → portUpNow s p = true →
      (rd s (HL_PORT.RX_DOZING p) = 1 → why ≠ 2 → exec (.portLinkLoss p why) s = .next { s with out := [] }) ∧
      (rd s (HL_PORT.RX_DOZING p) = 0 ∨ why = 2 → ∃ t, exec (.portLinkLoss p why) s = .next t ∧ rd t (HL_PORT.STATE p) = 1 ∧
        (∀ q, q < 8 → dnQueue t p q = []) ∧ (why = 2 → rd t (HL_PORT.RF p) = 1) ∧ (why < 2 → lost t) ∧
        (why = 0 → ∀ x ∈ portLanes s p, rd s (HL_LANE_STAT.STATE (p / 32) x) = 2 → rd t (HL_LANE_STAT.STATE (p / 32) x) = 1) ∧
        (∃ x, t.nqIn.get 0 [] = s.nqIn.get 0 [] ++ [x] ∧ x.ty = 3 ∧ x.arg = 256 * p)))) ∧
    (∀ (n : Nat) (m : PrbsRx),
      let c := HL_LANE_ERR.PRBS_ERR b l
      ∃ t, exec (.laneSerWindow b l n m) s = .next t ∧ rd t (HL_LANE_ERR.SER_MS b l) = min n 0xFFFF ∧
        rd t c = (if rd s (HL_LANE_CTRL.PRBS_RX b l) = 0 then rd s c else min (rd s c + patternErrors (rd s (HL_LANE_CTRL.PRBS_RX b l)) m) 0xFFFF) ∧
        (m.syms = patternSyms (rd s (HL_LANE_CTRL.PRBS_RX b l)) m.syms.length m.start → rd t c = rd s c) ∧
        (n ≤ rd s (HL_LANE_CTRL.SER_THR b l) → t.rakeIn = s.rakeIn) ∧
        (rd s (HL_LANE_STAT.STATE b l) ≠ 4 → (∀ i q, laneSlot s b l = some i → portOfSlot s b i = some q → portUpNow s q = false) →
          t.rakeIn = s.rakeIn) ∧
        (rd s (HL_LANE_CTRL.LOOPBACK b l) ≠ 0 → t.rakeIn = s.rakeIn) ∧
        (rd s (HL_LANE_CTRL.SER_THR b l) < n → rd s (HL_LANE_CTRL.LOOPBACK b l) = 0 → rd s (HL_LANE_STAT.STATE b l) = 4 ∨
            (∃ i q, laneSlot s b l = some i ∧ portOfSlot s b i = some q ∧ portUpNow s q = true) →
          t.rakeIn = s.rakeIn ++ [{ kind := 17, scope := .bed b, arg := l, loc := l, cycle := s.time.c / 5 }]) ∧
        (rd s (HL_LANE_STAT.STATE b l) = 2 ∨ rd s (HL_LANE_STAT.STATE b l) = 4 → adapts 0 t) ∧
        (rd s (HL_LANE_STAT.STATE b l) ≠ 2 → rd s (HL_LANE_STAT.STATE b l) ≠ 4 → holds 0 t) ∧
        onlyRegs (HL_LANE_ERR.SER_MS b l :: mirrored c) { s with rakeIn := t.rakeIn, lane := t.lane, freeCtr := t.freeCtr } t)

/-- Handshakes, lane grafts and doze (R529 to R534, R537 to R539). HELLO goes out on the bed's UP ports and a partner's HELLO is recorded
until it expires; ACCEPT, the receiver's move with READY, and the partner's READY advance the graft of the named lane, both READY end it; ABORT and the
two timeouts end it with ABORT sent, the partner taken for incapable and the spare fenced; a FAULT_REPORT is a transmit fault of its lane;
and a port's transmitters and receivers doze and wake with their lanes.
Where these rules leave a corner open, the statement speaks of the
model's choice, log entries 15 and 23. -/
def Obligations.HandshakesGraftsAndDoze : Prop :=
  ∀ (s : State) (p : Nat), p < ports s →
    let b := p / 32
    let msg (t : State) (f : List Byte) (ty : Nat) := beAt f 0 8 = 0x55555555555555D5 ∧ beAt f 8 6 = 0x0180C2000002 ∧
      beAt f 20 2 = 0x8809 ∧ beAt f 22 1 = 0x0A ∧ beAt f 26 1 = 1 ∧ beAt f 27 1 = ty ∧ beAt f 28 2 = s.lane.seq.get b 0 % 65536 ∧
      t.lane.seq.get b 0 = (s.lane.seq.get b 0 + 1) % 65536
    let hs (t : State) (r ty : Nat) := ∃ f, t.out = [.frame r f] ∧ msg t f ty
    let awake (t : State) (q : Nat) := rd s (HL_PORT.TX_DOZING q) = 1 →
      rd t (HL_PORT.TX_DOZING q) = 0 ∧ ∀ l ∈ portLanes s q, rd t (HL_LANE_STAT.TX_DOZE (q / 32) l) = 0
    let heard (ty : Nat) := s.lane.hsIn.find? fun m => m.port = p && m.ty = ty
    let ofLane (x : Graft) (h : LaneGraft) := s.rake.grafts = [x] ∧ x.ready = true ∧ x.unit.cls = .lane ∧
      x.spare = { cls := .lane, idx := 34 * b + h.spare } ∧ h.spare < 34 ∧ h.slot < 32 ∧ x.serves = 32 * b + h.slot ∧ x.fenced = true ∧
      s.lane.held = [] ∧ s.mgmt.bedWait = []
    let closes (t : State) (x : Graft) (h : LaneGraft) :=
      let graft (t : State) := t.lane.graft.find x.spare.idx
      (admits s x = true → graft t = none ∧ t.rake.grafts = [] ∧
        lanePos t b h.slot = h.spare ∧ rd t (HL_LANE_STAT.STATE b h.spare) = 2 ∧ rd t (HL_LANE_STAT.SLOT b h.spare) = h.slot) ∧
      (admits s x = false → graft t = some { h with ours := true, theirs := true } ∧
        t.rake.grafts = [{ x with ready := false, tries := 0, busy := 0, gen := shadowGen s (poolOf x.spare) }])
    (rd s (HL_BED.HS_EN b) = 0 → exec (.helloSend b) s = .next { s with out := [] }) ∧
    (rd s (HL_BED.HS_EN b) = 1 → portUpNow s p = true → (∀ q, q / 32 = b → q ≠ p → portUpNow s q = false) → ∃ t,
      exec (.helloSend b) s = .next t ∧ hs t p 1 ∧ awake t p ∧
      (rd s (HL_PORT.TX_DOZING p) ≠ 1 → t = { s with lane := t.lane, freeCtr := t.freeCtr, out := t.out })) ∧
    (∃ t, exec (.partnerHsExpiry b) s = .next t ∧ rd t (HL_BED.PARTNER_HS b) = 0 ∧ onlyRegs [HL_BED.PARTNER_HS b] s t) ∧
    (∀ c ∈ [(Instr.hello p, 1), (.accept p, 3), (.ready p, 4), (.abort p, 5), (.faultReport p, 6), (.txDoze p, 7)], heard c.2 = none →
      exec c.1 s = .next { s with out := [] }) ∧
    (∀ m,
      let took := { s with lane := { s.lane with hsIn := s.lane.hsIn.erase m }, out := [] }
      (heard 1 = some m → ∃ t, exec (.hello p) s = .next t ∧ rd t (HL_BED.PARTNER_RXDOZE b) = m.flags / 2 % 2 ∧
        (m.flags % 2 = 1 → rd t (HL_BED.PARTNER_HS b) = 1) ∧ (m.flags % 2 = 0 → rd t (HL_BED.PARTNER_HS b) = rd s (HL_BED.PARTNER_HS b)) ∧
        onlyRegs [HL_BED.PARTNER_RXDOZE b, HL_BED.PARTNER_HS b] took t) ∧
      (∀ e, e < 34 →
        let q := 34 * b + e
        let graft (t : State) := t.lane.graft.find q
        (heard 3 = some m → m.spare = e → (∀ h, graft s = some h → h.slot = m.slot → exec (.accept p) s = .next { s with
            lane := { s.lane with hsIn := s.lane.hsIn.erase m, graft := s.lane.graft.insert q { h with accepted := true } }, out := [] }) ∧
          (∀ h, graft s = some h → h.slot ≠ m.slot → exec (.accept p) s = .next took) ∧
          (graft s = none → exec (.accept p) s = .next took)) ∧
        (heard 4 = some m → m.spare = e → (∀ h, graft s = some h → h.slot = m.slot → h.ours = false → exec (.ready p) s = .next { s with
            lane := { s.lane with hsIn := s.lane.hsIn.erase m, graft := s.lane.graft.insert q { h with theirs := true } }, out := [] }) ∧
          (graft s = none → exec (.ready p) s = .next took) ∧
          (∀ h, graft s = some h → h.slot ≠ m.slot → exec (.ready p) s = .next took) ∧
          (∀ h x, graft s = some h → h.slot = m.slot → h.ours = true → h.spare = e → ofLane x h → ∃ t, exec (.ready p) s = .next t ∧
            closes t x h))) ∧
      (heard 3 = some m → 34 ≤ m.spare → exec (.accept p) s = .next took) ∧
      (heard 4 = some m → 34 ≤ m.spare → exec (.ready p) s = .next took) ∧
      (heard 5 = some m → (∀ e h, e ∈ [32, 33] → s.lane.graft.find (34 * b + e) = some h → h.slot ≠ m.slot) → exec (.abort p) s = .next took) ∧
      (heard 6 = some m →
        let l := lanePos s b m.slot
        ∃ t, exec (.faultReport p) s = .next t ∧ rd t (HL_BED_MSG.FAULT_RPT b) = min (rd s (HL_BED_MSG.FAULT_RPT b) + 1) 255 ∧
          t.rakeIn = (if m.slot < 32 ∧ l < 34 ∧ rd s (HL_LANE_CTRL.LOOPBACK b l) = 0 then s.rakeIn ++ [{ kind := 17, scope := .bed b, arg := l, loc := l, cycle := s.time.c / 5 }] else s.rakeIn) ∧
          onlyRegs [HL_BED_MSG.FAULT_RPT b] { took with rakeIn := t.rakeIn } t) ∧
      (heard 7 = some m →
        (rd s (HL_BED.RX_DOZE_EN b) = 0 ∨ portUpNow s p = false → exec (.txDoze p) s = .next took) ∧
        (rd s (HL_BED.RX_DOZE_EN b) = 1 → portUpNow s p = true → ∃ t, exec (.txDoze p) s = .next t ∧ rd t (HL_PORT.RX_DOZING p) = 1 ∧
          ∀ l ∈ portLanes s p, rd t (HL_LANE_STAT.RX_DOZE b l) = 1 ∧
            rd t (HL_LANE_STAT.STATE b l) = if rd s (HL_LANE_STAT.STATE b l) = 2 then 3 else rd s (HL_LANE_STAT.STATE b l)))) ∧
    (∀ e, e < 34 →
     let q := 34 * b + e
     let graft (t : State) := t.lane.graft.find q
     (graft s = none → ∀ c ∈ [Instr.laneGraftSwitch q, .graftAcceptTimeout q, .graftReadyTimeout q], exec c s = .next { s with out := [] }) ∧
     (∀ h, graft s = some h →
      (h.accepted = false ∨ h.ours = true → exec (.laneGraftSwitch q) s = .next { s with out := [] }) ∧
      (h.accepted = true → h.ours = false → h.theirs = false → ∀ r, hsPort s b h.slot = some r → r / 32 = b → ∃ t,
        exec (.laneGraftSwitch q) s = .next t ∧ graft t = some { h with ours := true } ∧ hs t r 4 ∧
        awake t r ∧ (rd s (HL_PORT.TX_DOZING r) ≠ 1 → t = { s with lane := t.lane, out := t.out })) ∧
      (h.accepted = true → h.ours = false → h.theirs = false → hsPort s b h.slot = none →
        exec (.laneGraftSwitch q) s = .next { s with lane := { s.lane with graft := s.lane.graft.insert q { h with ours := true } }, out := [] }) ∧
      (∀ x, h.accepted = true → h.ours = false → h.theirs = true → h.spare = e → ofLane x h → ∃ t, exec (.laneGraftSwitch q) s = .next t ∧ closes t x h) ∧
      (h.accepted = true → exec (.graftAcceptTimeout q) s = .next { s with out := [] }) ∧
      (h.theirs = true → exec (.graftReadyTimeout q) s = .next { s with out := [] }) ∧
      (∀ x, s.rake.grafts = [x] → x.ready = true → x.unit.cls = .lane → x.unit.idx / 34 = b → x.spare = { cls := .lane, idx := q } →
        s.lane.held = [] → s.mgmt.bedWait = [] →
        let aborts (c : Instr) := ∃ t, exec c s = .next t ∧ graft t = none ∧ t.rake.grafts = [] ∧ rd t (HL_BED.PARTNER_HS b) = 0 ∧
          rd t (HL_BED_MSG.ABORTS b) = min (rd s (HL_BED_MSG.ABORTS b) + 1) 255 ∧ unitFenced t x.spare = true ∧
          ∀ r, hsPort s b h.slot = some r → r / 32 = b → ∃ f, .frame r f ∈ t.out ∧ msg t f 5 ∧
            beAt f 30 1 = h.slot % 256 ∧ beAt f 31 1 = h.spare % 256
        (h.accepted = false → aborts (.graftAcceptTimeout q)) ∧ (h.theirs = false → aborts (.graftReadyTimeout q)) ∧
        (∀ m, heard 5 = some m → m.slot = h.slot → slotGraft s b m.slot = some q → aborts (.abort p))))) ∧
    (dozeOk s p = true → rd s (HL_PORT.TX_DOZING p) = 0 → ∃ t, exec (.txDozeEnter p) s = .next t ∧ rd t (HL_PORT.TX_DOZING p) = 1 ∧ hs t p 7 ∧
      ∀ l ∈ portLanes s p, rd t (HL_LANE_STAT.TX_DOZE b l) = 1) ∧
    (dozeOk s p = false ∨ rd s (HL_PORT.TX_DOZING p) = 1 → exec (.txDozeEnter p) s = .next { s with out := [] }) ∧
    (dozeOk s p = true ∨ portUpNow s p = false ∨ rd s (HL_PORT.TX_DOZING p) = 0 → exec (.txDozeWake p) s = .next { s with out := [] }) ∧
    (dozeOk s p = false → portUpNow s p = true → rd s (HL_PORT.TX_DOZING p) = 1 → ∃ t, exec (.txDozeWake p) s = .next t ∧
      rd t (HL_PORT.TX_DOZING p) = 0 ∧ ∀ l ∈ portLanes s p, rd t (HL_LANE_STAT.TX_DOZE b l) = 0) ∧
    (rd s (HL_PORT.RX_DOZING p) = 0 → exec (.rxDozeWake p) s = .next { s with out := [] }) ∧
    (rd s (HL_PORT.RX_DOZING p) = 1 → ∃ t, exec (.rxDozeWake p) s = .next t ∧ rd t (HL_PORT.RX_DOZING p) = 0 ∧
      t.lane = { s.lane with waking := p :: s.lane.waking.erase p } ∧
      ∀ l ∈ portLanes s p, rd t (HL_LANE_STAT.RX_DOZE b l) = 0 ∧
        rd t (HL_LANE_STAT.STATE b l) = if rd s (HL_LANE_STAT.STATE b l) = 3 then 2 else rd s (HL_LANE_STAT.STATE b l)) ∧
    (portUpNow s p = true → s.lane.waking.contains p = true → ∃ t, exec (.rxDozeAlignTimeout p) s = .next t ∧ rd t (HL_PORT.STATE p) = 1 ∧
      ∀ q, q < 8 → dnQueue t p q = []) ∧
    (s.lane.waking.contains p = false ∨ portUpNow s p = false → exec (.rxDozeAlignTimeout p) s = .next { s with out := [] })
end

