-- ==== Sys2Proof/Laws/Kept.lean ====
section
/-!
SUPPORT. What the operations keep: the fuses and the queue of commands. `f_sig` says that operation f changes neither; `f_grow`,
for the few that a fuse command can reach, that fuses only go forward (R477).
-/

namespace Sys2Proof.Machine

open Sys2Proof

/-- What no command but a fuse command changes: the fuses and the queue. -/
def State.sig (s : State) : Fuses × List Instr := (s.fuses, s.pending)
theorem sig_def (s : State) : s.sig = (s.fuses, s.pending) := rfl
@[simp] theorem sig_fold (s : State) : (s.fuses, s.pending) = s.sig := Prod.ext rfl rfl
@[simp] theorem sig_ite (c : Prop) [Decidable c] (a b : State) : (if c then a else b).sig = if c then a.sig else b.sig := by
  split <;> rfl
theorem foldl_sig {β : Type} (g : State → β → State) (h : ∀ t b, (g t b).sig = t.sig) (l : List β) (s : State) :
    (l.foldl g s).sig = s.sig := by
  induction l generalizing s with
  | nil => rfl
  | cons b r ih => simp only [List.foldl_cons, ih, h]
@[simp] theorem sig_mk a0 a1 a2 a3 a4 a5 a6 a7 a8 a9 a10 a11 a12 a13 a14 a15 a16 a17 a18 a19 a20 a21 a22 a23 a24 a25 a26 a27 a28 :
    (State.mk a0 a1 a2 a3 a4 a5 a6 a7 a8 a9 a10 a11 a12 a13 a14 a15 a16 a17 a18 a19 a20 a21 a22 a23 a24 a25 a26 a27 a28).sig = (a1, a28) := Prod.ext rfl rfl
theorem foldr_sig {β : Type} (g : β → State → State) (h : ∀ b t, (g b t).sig = t.sig) (l : List β) (s : State) :
    (l.foldr g s).sig = s.sig := by
  induction l with
  | nil => rfl
  | cons b r ih => simp only [List.foldr_cons, ih, h]

@[simp] theorem wr_sig (s : State) (f : Fld) (v : Nat) : (wr s f v).sig = s.sig := by
  unfold wr; simp

@[simp] theorem bump1_sig (s : State) (f : Fld) (n : Nat) : (bump1 s f n).sig = s.sig := by
  unfold bump1; simp

@[simp] theorem bump_sig (s : State) (f : Fld) (n : Nat) : (bump s f n).sig = s.sig := by
  unfold bump; (repeat' split) <;> simp [foldl_sig, foldr_sig, *]

@[simp] theorem emit_sig (s : State) (o : Output) : (emit s o).sig = s.sig := by
  unfold emit; simp

@[simp] theorem endLevel_sig (s : State) (e : FaultEv) : (endLevel s e).sig = s.sig := by
  unfold endLevel; simp

@[simp] theorem followShadow_sig (s : State) (u : RUnit) : (followShadow s u).sig = s.sig := by
  unfold followShadow; (repeat' split) <;> simp_all [foldl_sig, foldr_sig]

@[simp] theorem fresh_sig (s : State) : (fresh s).sig = s.sig := by
  unfold fresh; simp

@[simp] theorem idleTick_sig (s : State) : (idleTick s).sig = s.sig := by
  unfold idleTick; simp

@[simp] theorem notify_sig (s : State) (f : Nat) (ty : Nat) (arg : Nat) : (notify s f ty arg).sig = s.sig := by
  unfold notify; simp

@[simp] theorem notifyAll_sig (s : State) (n : Nat) (ty : Nat) (arg : Nat) : (notifyAll s n ty arg).sig = s.sig := by
  fun_induction notifyAll <;> simp_all [foldl_sig, foldr_sig]

@[simp] theorem putCore_sig (s : State) (n : Nat) (k : Core) : (putCore s n k).sig = s.sig := by
  unfold putCore; simp

@[simp] theorem pulseCore_sig (s : State) (e : Nat) (n : Nat) : (pulseCore s e n).sig = s.sig := by
  unfold pulseCore; simp

@[simp] theorem pulseFrom_sig (s : State) (e : Nat) (n : Nat) : (pulseFrom s e n).sig = s.sig := by
  unfold pulseFrom; (repeat' split) <;> simp [foldl_sig, foldr_sig, *]

@[simp] theorem pulse_sig (s : State) (e : Nat) : (pulse s e).sig = s.sig := by
  unfold pulse; simp

@[simp] theorem pulseNamed_sig (s : State) (e : Nat) : (pulseNamed s e).sig = s.sig := by
  unfold pulseNamed; simp

@[simp] theorem raise_sig (s : State) (e : FaultEv) : (raise s e).sig = s.sig := by
  unfold raise; simp

@[simp] theorem setFlag_sig (s : State) (f : Fld) (b : Bool) : (setFlag s f b).sig = s.sig := by
  unfold setFlag; simp

@[simp] theorem setFree_sig (s : State) (pool : Nat) (l : List Nat) : (setFree s pool l).sig = s.sig := by
  unfold setFree; (repeat' split) <;> simp [foldl_sig, foldr_sig, *]

@[simp] theorem setGen_sig (s : State) (u : RUnit) (g : Nat) : (setGen s u g).sig = s.sig := by
  unfold setGen; simp

@[simp] theorem touchShadow_sig (s : State) (pool : Nat) : (touchShadow s pool).sig = s.sig := by
  unfold touchShadow; simp

@[simp] theorem useFree_sig (s : State) : (useFree s).sig = s.sig := by
  unfold useFree; simp

@[simp] theorem wrInt_sig (s : State) (f : Fld) (v : Int) : (wrInt s f v).sig = s.sig := by
  unfold wrInt; simp

@[simp] theorem writeFld_sig (v : Word) (s : State) (f : Fld) : (writeFld v s f).sig = s.sig := by
  unfold writeFld; (repeat' split) <;> simp [foldl_sig, foldr_sig, *]

@[simp] theorem writeFlds_sig (s : State) (fs : List Fld) (v : Word) : (writeFlds s fs v).sig = s.sig := by
  unfold writeFlds; (repeat' split) <;> simp [foldl_sig, foldr_sig, *]

@[simp] theorem putFn_sig (s : State) (f : Nat) (x : FnSt) : (putFn s f x).sig = s.sig := by
  unfold putFn; simp

@[simp] theorem aerSet_sig (s : State) (f : Nat) (e : AerErr) : (aerSet s f e).sig = s.sig := by
  unfold aerSet; (repeat' split) <;> simp_all [foldl_sig, foldr_sig]

@[simp] theorem fnClear_sig (s : State) (f : Nat) : (fnClear s f).sig = s.sig := by
  unfold fnClear; simp

@[simp] theorem hole_sig (s : State) (f : Nat) : (hole s f).sig = s.sig := by
  unfold hole; simp

@[simp] theorem forPf0_sig (src : Src) (s : State) (k : State → State) (hk : ∀ x0, (k x0).sig = x0.sig) : (forPf0 src s k).sig = s.sig := by
  unfold forPf0; (repeat' split) <;> simp [foldl_sig, foldr_sig, *]

@[simp] theorem mbxEnd_sig (s : State) (f : Nat) (st : Nat) : (mbxEnd s f st).sig = s.sig := by
  unfold mbxEnd; simp

@[simp] theorem showUart_sig (s : State) : (showUart s).sig = s.sig := by
  unfold showUart; simp

@[simp] theorem flashNext_sig (s : State) (l : List FlashCmd) : (flashNext s l).sig = s.sig := by
  induction l generalizing s with
  | nil => simp [flashNext]
  | cons c r ih =>
    unfold flashNext
    dsimp only
    split
    · simp
    · simp [ih]

@[simp] theorem flashCmdStore_sig (src : Src) (v : Word) (s : State) : (flashCmdStore src v s).sig = s.sig := by
  unfold flashCmdStore; simp

@[simp] theorem flashEnd_sig (s : State) (r : Nat) : (flashEnd s r).sig = s.sig := by
  unfold flashEnd; simp

@[simp] theorem setFlashBuf_sig (s : State) (l : List Byte) : (setFlashBuf s l).sig = s.sig := by
  unfold setFlashBuf; (repeat' split) <;> simp [foldl_sig, foldr_sig, *]

@[simp] theorem flashPut_sig (s : State) (a : Nat) (n : Nat) (f : Nat → Byte) : (flashPut s a n f).sig = s.sig := by
  unfold flashPut; simp

@[simp] theorem flashLate_sig (s : State) : (flashLate s).sig = s.sig := by
  unfold flashLate; (repeat' split) <;> simp [foldl_sig, foldr_sig, *]

@[simp] theorem flashReady_sig (s : State) : (flashReady s).sig = s.sig := by
  unfold flashReady; (repeat' split) <;> simp [foldl_sig, foldr_sig, *]

@[simp] theorem countAccess_sig (s : State) (n : Nat) (cause : Nat) : (countAccess s n cause).sig = s.sig := by
  unfold countAccess; simp

@[simp] theorem haltCore_sig (s : State) (n : Nat) (cause : Nat) : (haltCore s n cause).sig = s.sig := by
  unfold haltCore; simp

@[simp] theorem collapseCore_sig (s : State) (n : Nat) (cause : Nat) : (collapseCore s n cause).sig = s.sig := by
  unfold collapseCore; simp

@[simp] theorem applyOut_sig (s : State) (n : Nat) (k : Core) (o : CoreOut) : (applyOut s n k o).sig = s.sig := by
  unfold applyOut; (repeat' split) <;> simp [foldl_sig, foldr_sig, *]

@[simp] theorem onCore_sig (s : State) (n : Nat) (f : State → Core → State) (hf : ∀ x0 x1, (f x0 x1).sig = x0.sig) : (onCore s n f).sig = s.sig := by
  unfold onCore; dsimp only; (repeat' split) <;> simp_all [foldl_sig, foldr_sig]

@[simp] theorem runCore_sig (s : State) (n : Nat) (f : Core → CoreOut) : (runCore s n f).sig = s.sig := by
  unfold runCore; simp

@[simp] theorem setTree_sig (s : State) (d : List Byte) : (setTree s d).sig = s.sig := by
  unfold setTree; simp

@[simp] theorem applyTree_sig (s : State) (b : Nat) : (applyTree s b).sig = s.sig := by
  unfold applyTree; (repeat' split) <;> simp [foldl_sig, foldr_sig, *]

@[simp] theorem bootVerify_sig (b : Nat) (r : Nat) (s : State) : (bootVerify b r s).sig = s.sig := by
  unfold bootVerify; simp

@[simp] theorem startCore_sig (s : State) (n : Nat) : (startCore s n).sig = s.sig := by
  unfold startCore; simp

@[simp] theorem coreBegin_sig (n : Nat) (s : State) : (coreBegin n s).sig = s.sig := by
  unfold coreBegin; simp

@[simp] theorem liveEnd_sig (s : State) (r : Nat) : (liveEnd s r).sig = s.sig := by
  unfold liveEnd; simp

@[simp] theorem setBankResult_sig (s : State) (b : Nat) (r : Nat) : (setBankResult s b r).sig = s.sig := by
  unfold setBankResult; simp

@[simp] theorem showImage_sig (s : State) (b : Nat) : (showImage s b).sig = s.sig := by
  unfold showImage; simp

@[simp] theorem restartCore_sig (s : State) (n : Nat) : (restartCore s n).sig = s.sig := by
  unfold restartCore; simp

@[simp] theorem liveFrom_sig (s : State) (m : Nat) (n : Nat) : (liveFrom s m n).sig = s.sig := by
  fun_induction liveFrom <;> simp_all [foldl_sig, foldr_sig]

@[simp] theorem sendOps_sig (l : List FlashOp) (s : State) : (sendOps l s).sig = s.sig := by
  unfold sendOps; (repeat' split) <;> simp_all [foldl_sig, foldr_sig]

@[simp] theorem bootDir_sig (s : State) : (bootDir s).sig = s.sig := by
  first
    | (unfold bootDir; simp; done)
    | (unfold bootDir; (repeat' split) <;> simp_all [foldl_sig, foldr_sig]; done)
    | (unfold bootDir; dsimp only; (repeat' split) <;> simp [foldl_sig, foldr_sig, *])

@[simp] theorem readBank_sig (b : Nat) (r : Nat) (g : Nat → Nat) (s : State) : (readBank b r g s).sig = s.sig := by
  unfold readBank; (repeat' split) <;> simp_all [foldl_sig, foldr_sig]

@[simp] theorem liveGo_sig (b : Nat) (rdFail : Bool) (s : State) : (liveGo b rdFail s).sig = s.sig := by
  unfold liveGo; simp

@[simp] theorem liveNext_sig (s : State) : (liveNext s).sig = s.sig := by
  unfold liveNext; (repeat' split) <;> simp [foldl_sig, foldr_sig, *]

@[simp] theorem liveStore_sig (v : Word) (rdFail : Bool) (s : State) : (liveStore v rdFail s).sig = s.sig := by
  unfold liveStore; simp

@[simp] theorem svDown_sig (s : State) (k : Nat) (bed : Nat) (l : List Byte) : (svDown s k bed l).sig = s.sig := by
  unfold svDown; simp

@[simp] theorem podFrames_sig (s : State) (k : Nat) (bed : Nat) (pt : List Byte) : (podFrames s k bed pt).sig = s.sig := by
  unfold podFrames; (repeat' split) <;> simp [foldl_sig, foldr_sig, *]

@[simp] theorem svOpStore_sig (w : Nat) (v : Word) (s : State) : (svOpStore w v s).sig = s.sig := by
  unfold svOpStore; (repeat' split) <;> simp_all [foldl_sig, foldr_sig]

@[simp] theorem svShow_sig (s : State) : (svShow s).sig = s.sig := by
  unfold svShow; simp

@[simp] theorem svUp_sig (s : State) (p : Nat) (l : List Byte) : (svUp s p l).sig = s.sig := by
  unfold svUp; simp

@[simp] theorem chargeDn_sig (s : State) (p : Nat) (n : Nat) : (chargeDn s p n).sig = s.sig := by
  unfold chargeDn; simp

@[simp] theorem showAsserted_sig (s : State) (p : Nat) : (showAsserted s p).sig = s.sig := by
  unfold showAsserted; simp

@[simp] theorem pushGen_sig (s : State) (p : Nat) (l : List Byte) : (pushGen s p l).sig = s.sig := by
  unfold pushGen; simp

@[simp] theorem sendFlow_sig (s : State) (p : Nat) (rel : Nat) : (sendFlow s p rel).sig = s.sig := by
  unfold sendFlow; simp

@[simp] theorem checkPause_sig (s : State) (p : Nat) : (checkPause s p).sig = s.sig := by
  unfold checkPause; simp

@[simp] theorem chargeUp_sig (s : State) (p : Nat) (n : Nat) : (chargeUp s p n).sig = s.sig := by
  unfold chargeUp; simp

@[simp] theorem checkPauses_sig (s : State) : (checkPauses s).sig = s.sig := by
  unfold checkPauses; (repeat' split) <;> simp [foldl_sig, foldr_sig, *]

@[simp] theorem setArb_sig (s : State) (p : Nat) (a : Arb) : (setArb s p a).sig = s.sig := by
  unfold setArb; simp

@[simp] theorem setDnQueue_sig (s : State) (p : Nat) (q : Nat) (l : List DnFrame) : (setDnQueue s p q l).sig = s.sig := by
  unfold setDnQueue; simp

@[simp] theorem dropSprQueue_sig (s : State) (i : Nat) : (dropSprQueue s i).sig = s.sig := by
  unfold dropSprQueue; (repeat' split) <;> simp_all [foldl_sig, foldr_sig]

@[simp] theorem freeDn_sig (s : State) (p : Nat) (n : Nat) : (freeDn s p n).sig = s.sig := by
  unfold freeDn; simp

@[simp] theorem flushPort_sig (s : State) (p : Nat) : (flushPort s p).sig = s.sig := by
  unfold flushPort; simp

@[simp] theorem freeUp_sig (s : State) (p : Nat) (n : Nat) : (freeUp s p n).sig = s.sig := by
  unfold freeUp; simp

@[simp] theorem freeUpAll_sig (s : State) (l : List UpFrame) : (freeUpAll s l).sig = s.sig := by
  unfold freeUpAll; (repeat' split) <;> simp [foldl_sig, foldr_sig, *]

@[simp] theorem holdPort_sig (s : State) (p : Nat) : (holdPort s p).sig = s.sig := by
  unfold holdPort; simp

@[simp] theorem holdPorts_sig (s : State) : (holdPorts s).sig = s.sig := by
  unfold holdPorts; (repeat' split) <;> simp [foldl_sig, foldr_sig, *]

@[simp] theorem poolUpdate_sig (s : State) : (poolUpdate s).sig = s.sig := by
  unfold poolUpdate; simp

@[simp] theorem pushDn_sig (s : State) (p : Nat) (q : Nat) (f : DnFrame) : (pushDn s p q f).sig = s.sig := by
  unfold pushDn; simp

@[simp] theorem pushSpr_sig (s : State) (p : Nat) (bytes : List Byte) (t : SprTx) : (pushSpr s p bytes t).sig = s.sig := by
  unfold pushSpr; simp

@[simp] theorem stopSpr_sig (s : State) : (stopSpr s).sig = s.sig := by
  unfold stopSpr; (repeat' split) <;> simp_all [foldl_sig, foldr_sig]

@[simp] theorem wakeQueues_sig (s : State) (p : Nat) (mask : Nat) : (wakeQueues s p mask).sig = s.sig := by
  unfold wakeQueues; simp

@[simp] theorem applyGates_sig (g : Nat) (s : State) : (applyGates g s).sig = s.sig := by
  unfold applyGates; (repeat' split) <;> simp [foldl_sig, foldr_sig, *]

@[simp] theorem dropHeads_sig (n : Nat) (p : Nat) (q : Nat) (s : State) : (dropHeads n p q s).sig = s.sig := by
  induction n generalizing s with
  | zero => rfl
  | succ m ih =>
    unfold dropHeads
    split
    · rfl
    · dsimp only
      split
      · rfl
      · rw [ih, bump_sig]
        split <;> simp

@[simp] theorem dropOver_sig (s : State) (p : Nat) : (dropOver s p).sig = s.sig := by
  unfold dropOver; (repeat' split) <;> simp [foldl_sig, foldr_sig, *]

@[simp] theorem takeOver_sig (g : Nat) (s : State) : (takeOver g s).sig = s.sig := by
  unfold takeOver; (repeat' split) <;> simp [foldl_sig, foldr_sig, *]

@[simp] theorem gateEnable_sig (g : Nat) (on : Bool) (s : State) : (gateEnable g on s).sig = s.sig := by
  unfold gateEnable; (repeat' split) <;> simp [foldl_sig, foldr_sig, *]

@[simp] theorem gateTrigger_sig (s : State) (g : Nat) (u : Nat) : (gateTrigger s g u).sig = s.sig := by
  unfold gateTrigger; simp

@[simp] theorem gatesStep_sig (s : State) : (gatesStep s).sig = s.sig := by
  unfold gatesStep; (repeat' split) <;> simp [foldl_sig, foldr_sig, *]

@[simp] theorem loadPause_sig (s : State) (p : Nat) (q : Nat) (t : Nat) : (loadPause s p q t).sig = s.sig := by
  unfold loadPause; simp

@[simp] theorem putMeter_sig (s : State) (m : Nat) (x : Meter) : (putMeter s m x).sig = s.sig := by
  unfold putMeter; simp

@[simp] theorem meterFill_sig (s : State) (m : Nat) : (meterFill s m).sig = s.sig := by
  unfold meterFill; simp

@[simp] theorem pauseIn_sig (s : State) (p : Nat) (l : List Byte) : (pauseIn s p l).sig = s.sig := by
  unfold pauseIn; (repeat' split) <;> simp [foldl_sig, foldr_sig, *]

@[simp] theorem addAlloc_sig (s : State) (id : Nat) (owner : Nat) (key : Nat) : (addAlloc s id owner key).sig = s.sig := by
  unfold addAlloc; simp

@[simp] theorem setUpArb_sig (s : State) (slot : Nat) (q : Nat) (a : Arb) : (setUpArb s slot q a).sig = s.sig := by
  unfold setUpArb; simp

@[simp] theorem setFifo_sig (s : State) (slot : Nat) (q : Nat) (r : Nat) (l : List UpFrame) : (setFifo s slot q r l).sig = s.sig := by
  unfold setFifo; simp

@[simp] theorem unpopUp_sig (s : State) (f : UpFrame) : (unpopUp s f).sig = s.sig := by
  unfold unpopUp; simp

@[simp] theorem returnFrames_sig (s : State) (l : List UpFrame) : (returnFrames s l).sig = s.sig := by
  unfold returnFrames; (repeat' split) <;> simp [foldl_sig, foldr_sig, *]

@[simp] theorem emptySlot_sig (s : State) (slot : Nat) : (emptySlot s slot).sig = s.sig := by
  unfold emptySlot; simp

@[simp] theorem clearSlot_sig (s : State) (n : Nat) : (clearSlot s n).sig = s.sig := by
  unfold clearSlot; simp

@[simp] theorem applyRemove_sig (s : State) (n : Nat) : (applyRemove s n).sig = s.sig := by
  unfold applyRemove; simp

@[simp] theorem clearSlots_sig (s : State) : (clearSlots s).sig = s.sig := by
  unfold clearSlots; (repeat' split) <;> simp [foldl_sig, foldr_sig, *]

@[simp] theorem cutBurst_sig (s : State) (ch : Nat) : (cutBurst s ch).sig = s.sig := by
  unfold cutBurst; (repeat' split) <;> simp [foldl_sig, foldr_sig, *]

@[simp] theorem returnBurst_sig (s : State) (b : Burst) : (returnBurst s b).sig = s.sig := by
  unfold returnBurst; simp

@[simp] theorem discardGrants_sig (s : State) (k : Nat) : (discardGrants s k).sig = s.sig := by
  unfold discardGrants; (repeat' split) <;> simp [foldl_sig, foldr_sig, *]

@[simp] theorem pushUp_sig (s : State) (f : UpFrame) : (pushUp s f).sig = s.sig := by
  unfold pushUp; simp

@[simp] theorem putRx_sig (s : State) (k : Nat) (r : Rx) : (putRx s k r).sig = s.sig := by
  unfold putRx; simp

@[simp] theorem cutDoze_sig (s : State) (k : Nat) : (cutDoze s k).sig = s.sig := by
  unfold cutDoze; (repeat' split) <;> simp_all [foldl_sig, foldr_sig]

@[simp] theorem putLaser_sig (s : State) (tx : Bool) (e : Nat) (l : Laser) : (putLaser s tx e l).sig = s.sig := by
  unfold putLaser; (repeat' split) <;> simp [foldl_sig, foldr_sig, *]

@[simp] theorem darkLaser_sig (s : State) (tx : Bool) (e : Nat) : (darkLaser s tx e).sig = s.sig := by
  unfold darkLaser; simp

@[simp] theorem putHunt_sig (s : State) (k : Nat) (h : Hunt) : (putHunt s k h).sig = s.sig := by
  unfold putHunt; simp

@[simp] theorem dropExt_sig (s : State) (k : Nat) : (dropExt s k).sig = s.sig := by
  unfold dropExt; simp

@[simp] theorem forgetExt_sig (s : State) : (forgetExt s).sig = s.sig := by
  unfold forgetExt; (repeat' split) <;> simp [foldl_sig, foldr_sig, *]

@[simp] theorem lockFault_sig (s : State) (tx : Bool) (e : Nat) : (lockFault s tx e).sig = s.sig := by
  unfold lockFault; (repeat' split) <;> simp [foldl_sig, foldr_sig, *]

@[simp] theorem soaOff_sig (s : State) (e : Nat) : (soaOff s e).sig = s.sig := by
  unfold soaOff; (repeat' split) <;> simp [foldl_sig, foldr_sig, *]

@[simp] theorem tuneLaser_sig (s : State) (tx : Bool) (e : Nat) (ch : Nat) : (tuneLaser s tx e ch).sig = s.sig := by
  unfold tuneLaser; simp

@[simp] theorem startLasers_sig (s : State) : (startLasers s).sig = s.sig := by
  unfold startLasers; (repeat' split) <;> simp [foldl_sig, foldr_sig, *]

@[simp] theorem addOffset_sig (s : State) (d : Int) : (addOffset s d).sig = s.sig := by
  unfold addOffset; simp

@[simp] theorem clearRtd_sig (s : State) : (clearRtd s).sig = s.sig := by
  unfold clearRtd; (repeat' split) <;> simp [foldl_sig, foldr_sig, *]

@[simp] theorem commitRate_sig (s : State) (r : Int) : (commitRate s r).sig = s.sig := by
  unfold commitRate; simp

@[simp] theorem showDelay_sig (s : State) : (showDelay s).sig = s.sig := by
  unfold showDelay; simp

@[simp] theorem symmetricFit_sig (s : State) : (symmetricFit s).sig = s.sig := by
  unfold symmetricFit; simp

@[simp] theorem fitDelay_sig (s : State) (valid : Nat) : (fitDelay s valid).sig = s.sig := by
  unfold fitDelay; simp

@[simp] theorem meanRate_sig (s : State) : (meanRate s).2.sig = s.sig := by
  unfold meanRate; dsimp only; (repeat' split) <;> simp [foldl_sig, foldr_sig, *]

@[simp] theorem holdoverCommit_sig (s : State) (lof : Bool) : (holdoverCommit s lof).sig = s.sig := by
  unfold holdoverCommit; simp

@[simp] theorem measureRatio_sig (s : State) : (measureRatio s).sig = s.sig := by
  unfold measureRatio; (repeat' split) <;> simp_all [foldl_sig, foldr_sig]

@[simp] theorem noteStatus_sig (old : State) (new : State) : (noteStatus old new).sig = new.sig := by
  unfold noteStatus; simp

@[simp] theorem ppsDrop_sig (s : State) (x : Nat) : (ppsDrop s x).sig = s.sig := by
  unfold ppsDrop; (repeat' split) <;> simp_all [foldl_sig, foldr_sig]

@[simp] theorem recalEntry_sig (s : State) (i : Nat) (x : Int) : (recalEntry s i x).sig = s.sig := by
  unfold recalEntry; simp

@[simp] theorem recalAll_sig (s : State) : (recalAll s).sig = s.sig := by
  unfold recalAll
  dsimp only
  rw [foldl_sig _ fun t u => by cases txPath s u <;> simp, foldl_sig _ fun t k => by simp]

@[simp] theorem recalMaybe_sig (s : State) (i : Nat) (x : Int) : (recalMaybe s i x).sig = s.sig := by
  unfold recalMaybe; (repeat' split) <;> simp [foldl_sig, foldr_sig, *]

@[simp] theorem requestStep_sig (s : State) (d : Int) (set : Bool) : (requestStep s d set).sig = s.sig := by
  unfold requestStep; simp

@[simp] theorem shiftDelay_sig (s : State) (c : Nat) : (shiftDelay s c).sig = s.sig := by
  unfold shiftDelay; simp

@[simp] theorem stockTo_sig (s : State) (src : Nat) : (stockTo s src).sig = s.sig := by
  unfold stockTo; (repeat' split) <;> simp_all [foldl_sig, foldr_sig]

@[simp] theorem endDoze_sig (s : State) (p : Nat) : (endDoze s p).sig = s.sig := by
  unfold endDoze; (repeat' split) <;> simp [foldl_sig, foldr_sig, *]

@[simp] theorem notifyPort_sig (s : State) (p : Nat) (up : Bool) : (notifyPort s p up).sig = s.sig := by
  unfold notifyPort; simp

@[simp] theorem portLeave_sig (s : State) (p : Nat) (st : Nat) : (portLeave s p st).sig = s.sig := by
  unfold portLeave; simp

@[simp] theorem unformPort_sig (s : State) (p : Nat) : (unformPort s p).sig = s.sig := by
  unfold unformPort; simp

@[simp] theorem unformRow_sig (s : State) (g : Nat) : (unformRow s g).sig = s.sig := by
  unfold unformRow; (repeat' split) <;> simp [foldl_sig, foldr_sig, *]

@[simp] theorem trainLane_sig (s : State) (b : Nat) (l : Nat) : (trainLane s b l).sig = s.sig := by
  unfold trainLane; simp

@[simp] theorem tryTrain_sig (s : State) (p : Nat) : (tryTrain s p).sig = s.sig := by
  unfold tryTrain; (repeat' split) <;> simp [foldl_sig, foldr_sig, *]

@[simp] theorem reformPort_sig (s : State) (p : Nat) : (reformPort s p).sig = s.sig := by
  unfold reformPort; dsimp only; (repeat' split) <;> simp_all [foldl_sig, foldr_sig]

@[simp] theorem formPort_sig (s : State) (p : Nat) : (formPort s p).sig = s.sig := by
  unfold formPort; simp

@[simp] theorem formRow_sig (s : State) (g : Nat) : (formRow s g).sig = s.sig := by
  unfold formRow; (repeat' split) <;> simp [foldl_sig, foldr_sig, *]

@[simp] theorem applyMode_sig (s : State) (g : Nat) (m : Nat) : (applyMode s g m).sig = s.sig := by
  unfold applyMode; simp

@[simp] theorem setLanes_sig (s : State) (p : Nat) (f : Nat → Nat → Fld) (v : Nat) : (setLanes s p f v).sig = s.sig := by
  unfold setLanes; (repeat' split) <;> simp [foldl_sig, foldr_sig, *]

@[simp] theorem moveLanes_sig (s : State) (p a z : Nat) : (moveLanes s p a z).sig = s.sig := by
  unfold moveLanes; (repeat' split) <;> simp [foldl_sig, foldr_sig, *]

@[simp] theorem wakeTx_sig (s : State) (p : Nat) : (wakeTx s p).sig = s.sig := by
  unfold wakeTx; simp

@[simp] theorem adaptLane_sig (s : State) (b l : Nat) : (adaptLane s b l).sig = s.sig := by
  unfold adaptLane; dsimp only; split <;> rfl

@[simp] theorem laneFault_sig (s : State) (b l : Nat) : (laneFault s b l).sig = s.sig := by
  unfold laneFault; simp

@[simp] theorem emitHs_sig (s : State) (p : Nat) (ty : Nat) (slot : Nat) (spare : Nat) (flags : Nat) : (emitHs s p ty slot spare flags).sig = s.sig := by
  unfold emitHs; simp

@[simp] theorem formAll_sig (s : State) : (formAll s).sig = s.sig := by
  unfold formAll; (repeat' split) <;> simp [foldl_sig, foldr_sig, *]

@[simp] theorem putLaneGraft_sig (s : State) (b : Nat) (g : LaneGraft) : (putLaneGraft s b g).sig = s.sig := by
  unfold putLaneGraft; simp

@[simp] theorem releaseMode_sig (s : State) (g : Nat) : (releaseMode s g).sig = s.sig := by
  unfold releaseMode; (repeat' split) <;> simp [foldl_sig, foldr_sig, *]

@[simp] theorem sendHs_sig (s : State) (b : Nat) (ty : Nat) (slot : Nat) (spare : Nat) : (sendHs s b ty slot spare).sig = s.sig := by
  unfold sendHs; (repeat' split) <;> simp [foldl_sig, foldr_sig, *]

@[simp] theorem unformAll_sig (s : State) : (unformAll s).sig = s.sig := by
  unfold unformAll; (repeat' split) <;> simp [foldl_sig, foldr_sig, *]

@[simp] theorem clearPause_sig (s : State) (p : Nat) : (clearPause s p).sig = s.sig := by
  unfold clearPause; simp

@[simp] theorem idleLane_sig (b : Nat) (s : State) (l : Nat) : (idleLane b s l).sig = s.sig := by
  unfold idleLane; simp

@[simp] theorem startBed_sig (s : State) (b : Nat) : (startBed s b).sig = s.sig := by
  unfold startBed; (repeat' split) <;> simp [foldl_sig, foldr_sig, *]

@[simp] theorem askBed_sig (s : State) (b : Nat) : (askBed s b).sig = s.sig := by
  unfold askBed; simp

@[simp] theorem endBed_sig (s : State) (b : Nat) : (endBed s b).sig = s.sig := by
  unfold endBed; (repeat' split) <;> simp [foldl_sig, foldr_sig, *]

@[simp] theorem releaseBed_sig (s : State) (b : Nat) : (releaseBed s b).sig = s.sig := by
  unfold releaseBed; simp

@[simp] theorem clearVault_sig (s : State) : (clearVault s).sig = s.sig := by
  unfold clearVault; simp

@[simp] theorem loadRegs_sig (s : State) (r : LoadReq) : (loadRegs s r).sig = s.sig := by
  unfold loadRegs; (repeat' split) <;> simp_all [foldl_sig, foldr_sig]

@[simp] theorem queuePod_sig (s : State) (sealed : Bool) (msg : List Byte) (mark : Nat) : (queuePod s sealed msg mark).sig = s.sig := by
  unfold queuePod; simp

@[simp] theorem sendTend_sig (s : State) (sealed : Bool) (ty : Nat) (body : List Byte) (mark : Nat) : (sendTend s sealed ty body mark).sig = s.sig := by
  unfold sendTend; simp

@[simp] theorem keepAnswer_sig (s : State) (ty : Nat) (seq : Nat) (reply : Option (Nat × List Byte)) : (keepAnswer s ty seq reply).sig = s.sig := by
  unfold keepAnswer; simp

@[simp] theorem replyTo_sig (s : State) (ty : Nat) (seq : Nat) (result : Nat) (detail : Nat) (mark : Nat) : (replyTo s ty seq result detail mark).sig = s.sig := by
  unfold replyTo; simp

@[simp] theorem endLoad_sig (s : State) (l : Load) (status : Nat) : (endLoad s l status).sig = s.sig := by
  unfold endLoad; (repeat' split) <;> simp [foldl_sig, foldr_sig, *]

@[simp] theorem startLoad_sig (s : State) (r : LoadReq) : (startLoad s r).sig = s.sig := by
  unfold startLoad; dsimp only; (repeat' split) <;> simp [foldl_sig, foldr_sig, *]

@[simp] theorem drainLoads_sig (l : List LoadReq) (s : State) : (drainLoads l s).sig = s.sig := by
  fun_induction drainLoads <;> simp_all [foldl_sig, foldr_sig]

@[simp] theorem dropResv_sig (s : State) (n : Nat) : (dropResv s n).sig = s.sig := by
  unfold dropResv; simp

@[simp] theorem putSlot_sig (s : State) (n : Nat) (x : Slot) : (putSlot s n x).sig = s.sig := by
  unfold putSlot; simp

@[simp] theorem eraseSlot_sig (s : State) (n : Nat) : (eraseSlot s n).sig = s.sig := by
  unfold eraseSlot; (repeat' split) <;> simp [foldl_sig, foldr_sig, *]

@[simp] theorem logSeal_sig (s : State) (n : Nat) (cause : Nat) : (logSeal s n cause).sig = s.sig := by
  unfold logSeal; simp

@[simp] theorem sealSlot_sig (s : State) (n : Nat) (cause : Nat) : (sealSlot s n cause).sig = s.sig := by
  unfold sealSlot; simp

@[simp] theorem invoke_sig (s : State) (n : Nat) (eng : Nat) (k : Nat) : (invoke s n eng k).2.sig = s.sig := by
  unfold invoke; dsimp only; (repeat' split) <;> simp [foldl_sig, foldr_sig, *]

@[simp] theorem issueLoad_sig (s : State) (r : LoadReq) : (issueLoad s r).sig = s.sig := by
  unfold issueLoad; (repeat' split) <;> simp [foldl_sig, foldr_sig, *]

@[simp] theorem sealChannel_sig (s : State) (k : Nat) : (sealChannel s k).sig = s.sig := by
  unfold sealChannel; (repeat' split) <;> simp [foldl_sig, foldr_sig, *]

@[simp] theorem switchKey_sig (s : State) (l : Load) : (switchKey s l).sig = s.sig := by
  unfold switchKey; simp

@[simp] theorem shadowServes_sig (s : State) (i : Nat) : (shadowServes s i).sig = s.sig := by
  unfold shadowServes; (repeat' split) <;> simp_all [foldl_sig, foldr_sig]

@[simp] theorem isolate_sig (s : State) (u : RUnit) : (isolate s u).sig = s.sig := by
  unfold isolate; (repeat' split) <;> simp [foldl_sig, foldr_sig, *]

@[simp] theorem record_sig (s : State) (ty : Nat) (e : FaultEv) (u : Option RUnit) : (record s ty e u).sig = s.sig := by
  unfold record; simp

@[simp] theorem fenceUnit_sig (s : State) (u : RUnit) (serves : Nat) (e : FaultEv) : (fenceUnit s u serves e).sig = s.sig := by
  unfold fenceUnit; simp

@[simp] theorem unprepare_sig (s : State) (g : Graft) : (unprepare s g).sig = s.sig := by
  unfold unprepare; dsimp only; (repeat' split) <;> simp_all [foldl_sig, foldr_sig]

@[simp] theorem dropGraft_sig (s : State) (g : Graft) : (dropGraft s g).sig = s.sig := by
  unfold dropGraft; simp

@[simp] theorem showGrafting_sig (s : State) : (showGrafting s).sig = s.sig := by
  unfold showGrafting; (repeat' split) <;> simp [foldl_sig, foldr_sig, *]

@[simp] theorem afterLaneGraft_sig (s : State) (g : Graft) : (afterLaneGraft s g).sig = s.sig := by
  unfold afterLaneGraft; (repeat' split) <;> simp [foldl_sig, foldr_sig, *]

@[simp] theorem showDegraded_sig (s : State) : (showDegraded s).sig = s.sig := by
  unfold showDegraded; simp

@[simp] theorem losePlace_sig (s : State) (u : RUnit) (serves : Nat) (e : FaultEv) : (losePlace s u serves e).sig = s.sig := by
  unfold losePlace; dsimp only; (repeat' split) <;> simp_all [foldl_sig, foldr_sig]

@[simp] theorem fenceBare_sig (s : State) (u : RUnit) (serves : Nat) (e : FaultEv) (fenced : Bool) : (fenceBare s u serves e fenced).sig = s.sig := by
  unfold fenceBare; simp

@[simp] theorem graftWith_sig (s : State) (u : RUnit) (serves : Nat) (e : FaultEv) (fenced : Bool) (i : Nat) : (graftWith s u serves e fenced i).sig = s.sig := by
  unfold graftWith; (repeat' split) <;> simp_all [foldl_sig, foldr_sig]

@[simp] theorem startGraft_sig (s : State) (u : RUnit) (serves : Nat) (e : FaultEv) (fenced : Bool) : (startGraft s u serves e fenced).sig = s.sig := by
  unfold startGraft; (repeat' split) <;> simp [foldl_sig, foldr_sig, *]

@[simp] theorem abortGraft_sig (s : State) (g : Graft) (e : FaultEv) : (abortGraft s g e).sig = s.sig := by
  unfold abortGraft; simp

@[simp] theorem fenceOnly_sig (s : State) (u : RUnit) (serves : Nat) (e : FaultEv) : (fenceOnly s u serves e).sig = s.sig := by
  unfold fenceOnly; (repeat' split) <;> simp_all [foldl_sig, foldr_sig]

@[simp] theorem scrubTable_sig (s : State) (u : RUnit) (e : FaultEv) : (scrubTable s u e).sig = s.sig := by
  first
    | (unfold scrubTable; simp; done)
    | (unfold scrubTable; (repeat' split) <;> simp_all [foldl_sig, foldr_sig]; done)
    | (unfold scrubTable; dsimp only; (repeat' split) <;> simp [foldl_sig, foldr_sig, *])

@[simp] theorem actSevere_sig (s : State) (e : FaultEv) : (actSevere s e).sig = s.sig := by
  unfold actSevere; (repeat' split) <;> simp [foldl_sig, foldr_sig, *]

@[simp] theorem moveWork_sig (s : State) (g : Graft) : (moveWork s g).sig = s.sig := by
  unfold moveWork; (repeat' split) <;> simp [foldl_sig, foldr_sig, *]

@[simp] theorem admitGraft_sig (s : State) (g : Graft) : (admitGraft s g).sig = s.sig := by
  unfold admitGraft; dsimp only; (repeat' split) <;> simp [foldl_sig, foldr_sig, *]

@[simp] theorem loseTile_sig (s : State) (g : Nat) : (loseTile s g).sig = s.sig := by
  unfold loseTile; dsimp only; (repeat' split) <;> simp [foldl_sig, foldr_sig, *]

@[simp] theorem loseUp_sig (s : State) : (loseUp s).sig = s.sig := by
  unfold loseUp; (repeat' split) <;> simp_all [foldl_sig, foldr_sig]

@[simp] theorem loseDn_sig (s : State) : (loseDn s).sig = s.sig := by
  unfold loseDn; (repeat' split) <;> simp_all [foldl_sig, foldr_sig]

@[simp] theorem destroyFrame_sig (s : State) (e : FaultEv) : (destroyFrame s e).sig = s.sig := by
  unfold destroyFrame; (repeat' split) <;> simp_all [foldl_sig, foldr_sig]

@[simp] theorem putGraft_sig (s : State) (g : Graft) : (putGraft s g).sig = s.sig := by
  unfold putGraft; simp

@[simp] theorem rescrub_sig (s : State) (g : Graft) : (rescrub s g).sig = s.sig := by
  unfold rescrub; (repeat' split) <;> simp_all [foldl_sig, foldr_sig]

@[simp] theorem finishGraft_sig (s : State) (g : Graft) : (finishGraft s g).sig = s.sig := by
  unfold finishGraft; (repeat' split) <;> simp_all [foldl_sig, foldr_sig]

@[simp] theorem mendShadow_sig (s : State) (e : FaultEv) : (mendShadow s e).sig = s.sig := by
  unfold mendShadow; (repeat' split) <;> simp_all [foldl_sig, foldr_sig]

@[simp] theorem showActive_sig (s : State) : (showActive s).sig = s.sig := by
  unfold showActive; simp

@[simp] theorem stopGrafts_sig (p : Graft → Bool) (s : State) : (stopGrafts p s).sig = s.sig := by
  unfold stopGrafts; (repeat' split) <;> simp [foldl_sig, foldr_sig, *]

@[simp] theorem takeEvent_sig (s : State) (e : FaultEv) (dry : Bool) : (takeEvent s e dry).sig = s.sig := by
  unfold takeEvent; simp

@[simp] theorem fuseRegs_sig (s : State) : (fuseRegs s).sig = s.sig := by
  unfold fuseRegs; (repeat' split) <;> simp [foldl_sig, foldr_sig, *]

@[simp] theorem aonOnly_sig (s : State) : (aonOnly s).sig = s.sig := by
  unfold aonOnly; (repeat' split) <;> simp [foldl_sig, foldr_sig, *]

@[simp] theorem clearExt_sig (s : State) : (clearExt s).sig = s.sig := by
  unfold clearExt; (repeat' split) <;> simp [foldl_sig, foldr_sig, *]

@[simp] theorem retune_sig (s : State) (ch : Nat) : (retune s ch).sig = s.sig := by
  unfold retune; (repeat' split) <;> simp_all [foldl_sig, foldr_sig]

@[simp] theorem restoreTuning_sig (s : State) : (restoreTuning s).sig = s.sig := by
  unfold restoreTuning; simp

@[simp] theorem retimeGrants_sig (s : State) (w : Int) (v : Nat) : (retimeGrants s w v).sig = s.sig := by
  unfold retimeGrants; (repeat' split) <;> simp_all [foldl_sig, foldr_sig]

@[simp] theorem setEqd_sig (s : State) (v : Nat) : (setEqd s v).sig = s.sig := by
  unfold setEqd; simp

@[simp] theorem warmReset_sig (s : State) : (warmReset s).sig = s.sig := by
  unfold warmReset; dsimp only; (repeat' split) <;> simp_all [foldl_sig, foldr_sig]

@[simp] theorem coldReset_sig (s : State) : (coldReset s).sig = s.sig := by
  unfold coldReset; simp

@[simp] theorem showMode_sig (s : State) (m : Nat) : (showMode s m).sig = s.sig := by
  unfold showMode; (repeat' split) <;> simp [foldl_sig, foldr_sig, *]

@[simp] theorem holdPads_sig (was : State) (s : State) : (holdPads was s).sig = s.sig := by
  unfold holdPads; (repeat' split) <;> simp_all [foldl_sig, foldr_sig]

@[simp] theorem enterLoad_sig (s : State) (step : Nat) (cause : Nat) : (enterLoad s step cause).sig = s.sig := by
  unfold enterLoad; simp

@[simp] theorem wakeUp_sig (s : State) (cause : Nat) : (wakeUp s cause).sig = s.sig := by
  unfold wakeUp; simp

@[simp] theorem cutBursts_sig (s : State) : (cutBursts s).sig = s.sig := by
  first
    | (unfold cutBursts; simp; done)
    | (unfold cutBursts; (repeat' split) <;> simp_all [foldl_sig, foldr_sig]; done)
    | (unfold cutBursts; dsimp only; (repeat' split) <;> simp [foldl_sig, foldr_sig, *])

@[simp] theorem deviceReset_sig (s : State) (cause : Nat) : (deviceReset s cause).sig = s.sig := by
  unfold deviceReset; simp

@[simp] theorem enterDown_sig (s : State) (m : Nat) : (enterDown s m).sig = s.sig := by
  unfold enterDown; simp

@[simp] theorem admitWoken_sig (old : State) (s : State) : (admitWoken old s).sig = s.sig := by
  first
    | (unfold admitWoken; simp; done)
    | (unfold admitWoken; (repeat' split) <;> simp_all [foldl_sig, foldr_sig]; done)
    | (unfold admitWoken; dsimp only; (repeat' split) <;> simp [foldl_sig, foldr_sig, *])

@[simp] theorem setMode_sig (s : State) (m : Nat) : (setMode s m).sig = s.sig := by
  unfold setMode; (repeat' split) <;> simp_all [foldl_sig, foldr_sig]

@[simp] theorem enterHoldover_sig (s : State) (lof : Bool) : (enterHoldover s lof).sig = s.sig := by
  unfold enterHoldover; simp

@[simp] theorem forgetWins_sig (s : State) : (forgetWins s).sig = s.sig := by
  first
    | (unfold forgetWins; simp; done)
    | (unfold forgetWins; (repeat' split) <;> simp_all [foldl_sig, foldr_sig]; done)
    | (unfold forgetWins; dsimp only; (repeat' split) <;> simp [foldl_sig, foldr_sig, *])

@[simp] theorem joinListen_sig (s : State) : (joinListen s).sig = s.sig := by
  unfold joinListen; simp

@[simp] theorem joinEntry_sig (s : State) : (joinEntry s).sig = s.sig := by
  unfold joinEntry; simp

@[simp] theorem enterJoinCold_sig (s : State) (exit : Nat) : (enterJoinCold s exit).sig = s.sig := by
  unfold enterJoinCold; simp

@[simp] theorem enterJoinFirst_sig (s : State) : (enterJoinFirst s).sig = s.sig := by
  unfold enterJoinFirst; simp

@[simp] theorem enterJoinWarm_sig (s : State) : (enterJoinWarm s).sig = s.sig := by
  unfold enterJoinWarm; simp

@[simp] theorem enterService_sig (s : State) : (enterService s).sig = s.sig := by
  unfold enterService; simp

@[simp] theorem joinDiscover_sig (s : State) : (joinDiscover s).sig = s.sig := by
  unfold joinDiscover; simp

@[simp] theorem joinRestart_sig (s : State) (exit : Nat) : (joinRestart s exit).sig = s.sig := by
  unfold joinRestart; simp

@[simp] theorem leaveCold_sig (s : State) (exit : Nat) : (leaveCold s exit).sig = s.sig := by
  unfold leaveCold; simp

@[simp] theorem dozeCheck_sig (s : State) (k : Nat) : (dozeCheck s k).sig = s.sig := by
  unfold dozeCheck; simp

@[simp] theorem acquire_sig (s : State) (k : Nat) (g : DspSeg) : (acquire s k g).sig = s.sig := by
  unfold acquire; simp

@[simp] theorem acquirePar_sig (s : State) (k : Nat) (g : DspSeg) : (acquirePar s k g).sig = s.sig := by
  unfold acquirePar; (repeat' split) <;> simp_all [foldl_sig, foldr_sig]

@[simp] theorem showUfc_sig (s : State) : (showUfc s).sig = s.sig := by
  unfold showUfc; simp

@[simp] theorem joinLof_sig (s : State) : (joinLof s).sig = s.sig := by
  unfold joinLof; simp

@[simp] theorem listenCheck_sig (s : State) : (listenCheck s).sig = s.sig := by
  unfold listenCheck; simp

@[simp] theorem checkTree_sig (s : State) : (checkTree s).sig = s.sig := by
  unfold checkTree; simp

@[simp] theorem noteDevGrant_sig (s : State) (alloc : Nat) : (noteDevGrant s alloc).sig = s.sig := by
  unfold noteDevGrant; (repeat' split) <;> simp_all [foldl_sig, foldr_sig]

@[simp] theorem decideGrant_sig (s : State) (g : Grant) (raw : Nat) : (decideGrant s g raw).sig = s.sig := by
  unfold decideGrant; (repeat' split) <;> simp [foldl_sig, foldr_sig, *]

@[simp] theorem openGrant_sig (s : State) (k : Nat) (fc : Nat) (alloc : Nat) (start : Nat) (raw : Nat) (w : Win) : (openGrant s k fc alloc start raw w).sig = s.sig := by
  unfold openGrant; simp

@[simp] theorem decideEntry_sig (k : Nat) (fc : Nat) (s0 : State) (e : Nat) : (decideEntry k fc s0 e).sig = s0.sig := by
  unfold decideEntry; dsimp only; (repeat' split) <;> simp_all [foldl_sig, foldr_sig]

@[simp] theorem setHunt_sig (s : State) (k : Nat) (st : Nat) : (setHunt s k st).sig = s.sig := by
  unfold setHunt; simp

@[simp] theorem regress_sig (s : State) (k : Nat) : (regress s k).sig = s.sig := by
  unfold regress; simp

@[simp] theorem jumpExt_sig (s : State) (k : Nat) (fc : Nat) (p48 : Nat) : (jumpExt s k fc p48).sig = s.sig := by
  unfold jumpExt; simp

@[simp] theorem giveExt_sig (s : State) (eref : Nat) (k : Nat) : (giveExt s eref k).sig = s.sig := by
  unfold giveExt; dsimp only; (repeat' split) <;> simp_all [foldl_sig, foldr_sig]

@[simp] theorem superframe_sig (s : State) (k : Nat) : (superframe s k).sig = s.sig := by
  unfold superframe; simp

@[simp] theorem tribPage_sig (s : State) (c : Nat) (page : Nat) : (tribPage s c page).sig = s.sig := by
  unfold tribPage; (repeat' split) <;> simp_all [foldl_sig, foldr_sig]

@[simp] theorem headerPage_sig (s : State) (k : Nat) (h : Nat) (c : Nat) : (headerPage s k h c).sig = s.sig := by
  first
    | (unfold headerPage; simp; done)
    | (unfold headerPage; (repeat' split) <;> simp_all [foldl_sig, foldr_sig]; done)
    | (unfold headerPage; dsimp only; (repeat' split) <;> simp [foldl_sig, foldr_sig, *])

@[simp] theorem trellisFrame_sig (s : State) (k : Nat) (hdr : Option Nat) : (trellisFrame s k hdr).sig = s.sig := by
  unfold trellisFrame; (repeat' split) <;> simp [foldl_sig, foldr_sig, *]

@[simp] theorem recordStart_sig (s : State) (k : Nat) : (recordStart s k).sig = s.sig := by
  unfold recordStart; simp

@[simp] theorem stockBack_sig (s : State) : (stockBack s).sig = s.sig := by
  unfold stockBack; (repeat' split) <;> simp [foldl_sig, foldr_sig, *]

@[simp] theorem recordSkew_sig (s : State) (k : Nat) : (recordSkew s k).sig = s.sig := by
  unfold recordSkew; simp

@[simp] theorem treeHeader_sig (s : State) (k : Nat) (h : Nat) : (treeHeader s k h).sig = s.sig := by
  unfold treeHeader; simp

@[simp] theorem readMap_sig (s : State) (k : Nat) (fc : Nat) (g : DecSeg) : (readMap s k fc g).sig = s.sig := by
  unfold readMap; (repeat' split) <;> simp [foldl_sig, foldr_sig, *]

@[simp] theorem pushArea_sig (s : State) (k : Nat) (g : DecSeg) (off : Nat) : (pushArea s k g off).sig = s.sig := by
  unfold pushArea; simp

@[simp] theorem wakeAll_sig (s : State) (fc : Nat) : (wakeAll s fc).sig = s.sig := by
  first
    | (unfold wakeAll; simp; done)
    | (unfold wakeAll; (repeat' split) <;> simp_all [foldl_sig, foldr_sig]; done)
    | (unfold wakeAll; dsimp only; (repeat' split) <;> simp [foldl_sig, foldr_sig, *])

@[simp] theorem readFrame_sig (s : State) (k : Nat) (g : DecSeg) (good : Bool) (was : Bool) : (readFrame s k g good was).sig = s.sig := by
  unfold readFrame; (repeat' split) <;> simp [foldl_sig, foldr_sig, *]

@[simp] theorem moveTiming_sig (s : State) (k : Nat) (fb : Bool) : (moveTiming s k fb).sig = s.sig := by
  unfold moveTiming; simp

@[simp] theorem firstTiming_sig (s : State) : (firstTiming s).sig = s.sig := by
  unfold firstTiming; (repeat' split) <;> simp [foldl_sig, foldr_sig, *]

@[simp] theorem enterSync_sig (s : State) (k : Nat) (g : DecSeg) : (enterSync s k g).sig = s.sig := by
  unfold enterSync; (repeat' split) <;> simp [foldl_sig, foldr_sig, *]

@[simp] theorem examine_sig (s : State) (k : Nat) (g : DecSeg) (loss : Bool) : (examine s k g loss).sig = s.sig := by
  unfold examine; simp

@[simp] theorem presyncFrame_sig (s : State) (k : Nat) (g : DecSeg) : (presyncFrame s k g).sig = s.sig := by
  unfold presyncFrame; simp

@[simp] theorem stepExt_sig (s : State) (k : Nat) : (stepExt s k).sig = s.sig := by
  unfold stepExt; simp

@[simp] theorem syncFrame_sig (s : State) (k : Nat) (g : DecSeg) : (syncFrame s k g).sig = s.sig := by
  unfold syncFrame; simp

@[simp] theorem huntStep_sig (s : State) (k : Nat) (g : DecSeg) : (huntStep s k g).sig = s.sig := by
  unfold huntStep; simp

@[simp] theorem resetHunt_sig (s : State) (k : Nat) : (resetHunt s k).sig = s.sig := by
  unfold resetHunt; simp

@[simp] theorem sweepHunts_sig (s : State) : (sweepHunts s).sig = s.sig := by
  unfold sweepHunts; (repeat' split) <;> simp [foldl_sig, foldr_sig, *]

@[simp] theorem retireLaser_sig (s : State) (tx : Bool) (e : Nat) (f : State → State) (hf : ∀ x0, (f x0).sig = x0.sig) : (retireLaser s tx e f).sig = s.sig := by
  unfold retireLaser; (repeat' split) <;> simp [foldl_sig, foldr_sig, *]

@[simp] theorem laserMeasure_sig (s : State) (m : LaserMeas) : (laserMeasure s m).sig = s.sig := by
  unfold laserMeasure
  lift_lets
  intro l0 x s0 l
  have h : s0.sig = s.sig := by
    show State.sig (match servedCh s m.tx m.e with | some k => _ | none => _) = _
    (repeat' split) <;> first | rfl | simp | (rw [foldl_sig _ fun t i => by split <;> simp]; simp)
  dsimp only
  clear_value s0
  (repeat' split) <;> simp [h]

@[simp] theorem loadRef_sig (s : State) (eref : Nat) : (loadRef s eref).sig = s.sig := by
  unfold loadRef; (repeat' split) <;> simp [foldl_sig, foldr_sig, *]

@[simp] theorem losCondition_sig (s : State) : (losCondition s).sig = s.sig := by
  unfold losCondition; simp

@[simp] theorem loseChannel_sig (s : State) (k : Nat) : (loseChannel s k).sig = s.sig := by
  unfold loseChannel; simp

@[simp] theorem switchTo_sig (s : State) (c : Nat) : (switchTo s c).sig = s.sig := by
  unfold switchTo; (repeat' split) <;> simp [foldl_sig, foldr_sig, *]

@[simp] theorem resend_sig (s : State) (a : Answer) : (resend s a).sig = s.sig := by
  unfold resend; (repeat' split) <;> simp [foldl_sig, foldr_sig, *]

@[simp] theorem takeMsg_sig (s : State) (m : Msg) (key : Nat) : (takeMsg s m key).sig = s.sig := by
  unfold takeMsg; (repeat' split) <;> simp [foldl_sig, foldr_sig, *]

@[simp] theorem takeList_sig (n : Nat) (tid : Nat) (key : Nat) (fc : Nat) (sealed : Bool) (l : List Byte) (s : State) : (takeList n tid key fc sealed l s).sig = s.sig := by
  fun_induction takeList <;> simp_all [foldl_sig, foldr_sig]

@[simp] theorem tendPod_sig (s : State) (tid : Nat) (key : Nat) (fc : Nat) (sealed : Bool) (l : List Byte) : (tendPod s tid key fc sealed l).sig = s.sig := by
  unfold tendPod; simp

@[simp] theorem quietLane_sig (s : State) (b : Nat) (l : Nat) : (quietLane s b l).sig = s.sig := by
  unfold quietLane; (repeat' split) <;> simp_all [foldl_sig, foldr_sig]

@[simp] theorem startDown_sig (s : State) (m : Nat) : (startDown s m).sig = s.sig := by
  unfold startDown; (repeat' split) <;> simp [foldl_sig, foldr_sig, *]

@[simp] theorem gaspDone_sig (s : State) : (gaspDone s).sig = s.sig := by
  unfold gaspDone; (repeat' split) <;> simp [foldl_sig, foldr_sig, *]

theorem nextIndex_sig (s : State) (g : Grant) {i : Nat} {t : State} (h : nextIndex s g = some (i, t)) : t.sig = s.sig := by
  unfold nextIndex at h
  dsimp only at h
  split at h
  · cases h
  · cases h; simp
@[simp] theorem fillTend_sig (g : Grant) (l : List TendPod) (space : Nat) (s : State) : (fillTend g l space s).1.sig = s.sig := by
  induction l generalizing s space with
  | nil => rfl
  | cons t r ih =>
    unfold fillTend
    dsimp only
    split
    · split
      · exact ih _ _
      · split
        · rfl
        · split
          · exact ih _ _
          · next i s1 h => exact (ih _ _).trans (nextIndex_sig _ _ h)
    · split
      · rfl
      · exact ih _ _

@[simp] theorem popUp_sig (s : State) (slot : Nat) (q : Nat) (r : Nat) : (popUp s slot q r).sig = s.sig := by
  unfold popUp; (repeat' split) <;> simp [foldl_sig, foldr_sig, *]

@[simp] theorem close_sig (x : Fill) : x.close.s.sig = x.s.sig := by
  unfold Fill.close; split <;> rfl

@[simp] theorem fillFrames_sig (n : Nat) (g : Grant) (slot : Nat) (x : Fill) : (fillFrames n g slot x).s.sig = x.s.sig := by
  induction n generalizing x with
  | zero => exact close_sig x
  | succ m ih =>
    unfold fillFrames
    dsimp only
    split
    · exact close_sig x
    · split
      · exact close_sig x
      · split
        · split
          · simp [ih]
          · simp [ih]
        · split
          · exact close_sig x
          · next i t h => simp [ih, nextIndex_sig _ _ h]

@[simp] theorem fillGrant_sig (s : State) (g : Grant) (slot : Option Nat) : (fillGrant s g slot).1.sig = s.sig := by
  unfold fillGrant
  dsimp only
  (repeat' split) <;> simp

@[simp] theorem assemble_sig (s : State) (g : Grant) : (assemble s g).sig = s.sig := by
  unfold assemble; simp

@[simp] theorem encryptPod_sig (s : State) (g : Grant) (p : UpPod) : (encryptPod s g p).2.sig = s.sig := by
  unfold encryptPod; dsimp only; (repeat' split) <;> simp_all [foldl_sig, foldr_sig]

@[simp] theorem encryptPods_sig (n : Nat) (g : Grant) (l : List UpPod) (s : State) : (encryptPods n g l s).2.sig = s.sig := by
  induction l generalizing s n with
  | nil => rfl
  | cons p r ih =>
    unfold encryptPods
    split
    · exact ih n s
    · split
      · rfl
      · simp [ih]

@[simp] theorem allocAddStore_sig (v : Word) (s : State) : (allocAddStore v s).sig = s.sig := by
  unfold allocAddStore; simp

@[simp] theorem allocKeyStore_sig (n : Nat) (v : Word) (s : State) : (allocKeyStore n v s).sig = s.sig := by
  unfold allocKeyStore; simp

@[simp] theorem assembleNext_sig (s : State) : (assembleNext s).sig = s.sig := by
  unfold assembleNext; (repeat' split) <;> simp [foldl_sig, foldr_sig, *]

@[simp] theorem collide_sig (s : State) : (collide s).sig = s.sig := by
  unfold collide; simp

@[simp] theorem nextVisit_sig (s : State) (ch : Nat) : (nextVisit s ch).sig = s.sig := by
  unfold nextVisit; (repeat' split) <;> simp [foldl_sig, foldr_sig, *]

@[simp] theorem endBurst_sig (k : Nat) (s : State) : (endBurst k s).sig = s.sig := by
  unfold endBurst; dsimp only; (repeat' split) <;> simp [foldl_sig, foldr_sig, *]

@[simp] theorem eqdTaken_sig (s : State) : (eqdTaken s).sig = s.sig := by
  unfold eqdTaken; (repeat' split) <;> simp_all [foldl_sig, foldr_sig]

@[simp] theorem removeApply_sig (n : Nat) (s : State) : (removeApply n s).sig = s.sig := by
  unfold removeApply; simp

@[simp] theorem removeSlot_sig (s : State) (n : Nat) : (removeSlot s n).sig = s.sig := by
  unfold removeSlot; (repeat' split) <;> simp [foldl_sig, foldr_sig, *]

@[simp] theorem sentWin_sig (s : State) (g : Grant) : (sentWin s g).sig = s.sig := by
  unfold sentWin; (repeat' split) <;> simp_all [foldl_sig, foldr_sig]

@[simp] theorem transmit_sig (k : Nat) (s : State) : (transmit k s).sig = s.sig := by
  unfold transmit; dsimp only; (repeat' split) <;> simp [foldl_sig, foldr_sig, *]

@[simp] theorem acceptTid_sig (m : Msg) (s : State) : (acceptTid m s).sig = s.sig := by
  unfold acceptTid; simp

@[simp] theorem activate_sig (m : Msg) (s : State) : (activate m s).sig = s.sig := by
  unfold activate; simp

@[simp] theorem afterRanging_sig (s : State) : (afterRanging s).sig = s.sig := by
  unfold afterRanging; simp

@[simp] theorem settle_sig (s : State) (w : Nat) : (settle s w).sig = s.sig := by
  unfold settle; (repeat' split) <;> simp [foldl_sig, foldr_sig, *]

@[simp] theorem announce_sig (m : Msg) (s : State) : (announce m s).sig = s.sig := by
  unfold announce; simp

@[simp] theorem tendLoad_sig (s : State) (slot : Nat) (use : Nat) (key : List Byte) : (tendLoad s slot use key).sig = s.sig := by
  unfold tendLoad; simp

@[simp] theorem answerOffer_sig (m : Msg) (s : State) (down : Nat) (up : Nat) (hePub : List Byte) (h1 : List Byte) (z : List Byte) (d : Nat) : (answerOffer m s down up hePub h1 z d).sig = s.sig := by
  unfold answerOffer; simp

@[simp] theorem assignAlloc_sig (m : Msg) (s : State) : (assignAlloc m s).sig = s.sig := by
  unfold assignAlloc; simp

@[simp] theorem assignTid_sig (m : Msg) (s : State) : (assignTid m s).sig = s.sig := by
  unfold assignTid; simp

@[simp] theorem sendRekey_sig (s : State) (r : Rekey) : (sendRekey s r).sig = s.sig := by
  unfold sendRekey; simp

@[simp] theorem beginRekey_sig (s : State) (slot : Nat) (cause : Nat) : (beginRekey s slot cause).sig = s.sig := by
  unfold beginRekey; simp

@[simp] theorem dcResult_sig (m : Msg) (s : State) : (dcResult m s).sig = s.sig := by
  unfold dcResult; (repeat' split) <;> simp [foldl_sig, foldr_sig, *]

@[simp] theorem deactivate_sig (m : Msg) (s : State) : (deactivate m s).sig = s.sig := by
  unfold deactivate; simp

@[simp] theorem discOutcome_sig (m : Msg) (s : State) : (discOutcome m s).sig = s.sig := by
  unfold discOutcome; (repeat' split) <;> simp [foldl_sig, foldr_sig, *]

@[simp] theorem enableClear_sig (s : State) : (enableClear s).sig = s.sig := by
  unfold enableClear; simp

@[simp] theorem endHold_sig (s : State) : (endHold s).sig = s.sig := by
  unfold endHold; simp

@[simp] theorem frameRef_sig (m : Msg) (s : State) : (frameRef m s).sig = s.sig := by
  unfold frameRef; simp

@[simp] theorem keyConfirm_sig (m : Msg) (s : State) : (keyConfirm m s).sig = s.sig := by
  unfold keyConfirm; simp

@[simp] theorem keyLoad_sig (m : Msg) (s : State) : (keyLoad m s).sig = s.sig := by
  unfold keyLoad; simp

@[simp] theorem keyOffer_sig (m : Msg) (s : State) : (keyOffer m s).sig = s.sig := by
  unfold keyOffer; dsimp only; (repeat' split) <;> simp_all [foldl_sig, foldr_sig]

theorem takeOf_sig (s : State) (ty : Nat) {m : Msg} {t : State} (h : takeOf s ty = some (m, t)) : t.sig = s.sig := by
  unfold takeOf at h
  split at h
  · cases h
  · cases h; simp
@[simp] theorem onMsg_sig (ty : Nat) (f : Msg → State → State) (s : State) (hf : ∀ x0 x1, (f x0 x1).sig = x1.sig) : (onMsg ty f s).sig = s.sig := by
  unfold onMsg
  split
  · rfl
  · next m t h => rw [hf, takeOf_sig s ty h]

@[simp] theorem rangePlan_sig (m : Msg) (s : State) : (rangePlan m s).sig = s.sig := by
  unfold rangePlan; dsimp only; (repeat' split) <;> simp_all [foldl_sig, foldr_sig]

@[simp] theorem rangeResult_sig (m : Msg) (s : State) : (rangeResult m s).sig = s.sig := by
  unfold rangeResult; simp

@[simp] theorem rekeyRepeat_sig (slot : Nat) (s : State) : (rekeyRepeat slot s).sig = s.sig := by
  unfold rekeyRepeat; (repeat' split) <;> simp [foldl_sig, foldr_sig, *]

@[simp] theorem removeAlloc_sig (m : Msg) (s : State) : (removeAlloc m s).sig = s.sig := by
  unfold removeAlloc; (repeat' split) <;> simp [foldl_sig, foldr_sig, *]

@[simp] theorem stateTimeout_sig (st : Nat) (exit : Nat) (s : State) : (stateTimeout st exit s).sig = s.sig := by
  unfold stateTimeout; simp

@[simp] theorem switchLate_sig (s : State) : (switchLate s).sig = s.sig := by
  unfold switchLate; (repeat' split) <;> simp [foldl_sig, foldr_sig, *]

@[simp] theorem switchTree_sig (m : Msg) (s : State) : (switchTree m s).sig = s.sig := by
  unfold switchTree; simp

@[simp] theorem tendUpReset_sig (s : State) : (tendUpReset s).sig = s.sig := by
  unfold tendUpReset; simp

@[simp] theorem tribQuery_sig (m : Msg) (s : State) : (tribQuery m s).sig = s.sig := by
  unfold tribQuery; simp

@[simp] theorem adjStore_sig (v : Word) (s : State) : (adjStore v s).sig = s.sig := by
  unfold adjStore; simp

@[simp] theorem startConv_sig (s : State) (g : Nat) : (startConv s g).sig = s.sig := by
  unfold startConv; simp

@[simp] theorem autoConv_sig (s : State) : (autoConv s).sig = s.sig := by
  unfold autoConv; (repeat' split) <;> simp [foldl_sig, foldr_sig, *]

@[simp] theorem convDone_sig (g : Nat) (vals : List Int) (s : State) : (convDone g vals s).sig = s.sig := by
  unfold convDone; dsimp only; (repeat' split) <;> simp_all [foldl_sig, foldr_sig]

@[simp] theorem putSet_sig (s : State) (u : Nat) : (putSet s u).sig = s.sig := by
  unfold putSet; simp

@[simp] theorem servoRate_sig (s : State) (e : Int) (prop : Bool) : (servoRate s e prop).sig = s.sig := by
  unfold servoRate; simp

@[simp] theorem putStep_sig (s : State) (d : Int) : (putStep s d).sig = s.sig := by
  unfold putStep; simp

@[simp] theorem correct_sig (s : State) (e : Int) : (correct s e).sig = s.sig := by
  unfold correct; simp

@[simp] theorem holdoverSecond_sig (s : State) : (holdoverSecond s).sig = s.sig := by
  unfold holdoverSecond; simp

@[simp] theorem latchShot_sig (s : State) (f : Nat) : (latchShot s f).sig = s.sig := by
  unfold latchShot; simp

@[simp] theorem latchTime_sig (s : State) : (latchTime s).sig = s.sig := by
  unfold latchTime; simp

@[simp] theorem messagesLost_sig (s : State) : (messagesLost s).sig = s.sig := by
  unfold messagesLost; simp

@[simp] theorem ppsCapture_sig (x : Nat) (p : Nat) (s : State) : (ppsCapture x p s).sig = s.sig := by
  unfold ppsCapture; simp

@[simp] theorem ppsFall_sig (x : Nat) (s : State) : (ppsFall x s).sig = s.sig := by
  unfold ppsFall; (repeat' split) <;> simp_all [foldl_sig, foldr_sig]

@[simp] theorem ppsStart_sig (s : State) (x : Nat) (target : Nat) : (ppsStart s x target).sig = s.sig := by
  unfold ppsStart; simp

@[simp] theorem rateStore_sig (v : Word) (s : State) : (rateStore v s).sig = s.sig := by
  unfold rateStore; simp

@[simp] theorem readFs_sig (s : State) : (readFs s).sig = s.sig := by
  unfold readFs; (repeat' split) <;> simp [foldl_sig, foldr_sig, *]

@[simp] theorem readNow_sig (src : Src) (s : State) : (readNow src s).sig = s.sig := by
  unfold readNow; (repeat' split) <;> simp [foldl_sig, foldr_sig, *]

@[simp] theorem servoCycle_sig (s : State) : (servoCycle s).sig = s.sig := by
  unfold servoCycle; dsimp only; (repeat' split) <;> simp [foldl_sig, foldr_sig, *]

@[simp] theorem takeBack_sig (s : State) (e : Int) : (takeBack s e).sig = s.sig := by
  unfold takeBack; simp

@[simp] theorem takeError_sig (s : State) (e : Int) : (takeError s e).sig = s.sig := by
  unfold takeError; simp

@[simp] theorem takeUtc_sig (s : State) (b : List Byte) : (takeUtc s b).sig = s.sig := by
  unfold takeUtc; simp

@[simp] theorem timeInfo_sig (m : Msg) (s : State) : (timeInfo m s).sig = s.sig := by
  unfold timeInfo; (repeat' split) <;> simp [foldl_sig, foldr_sig, *]

@[simp] theorem trigAct_sig (n : Nat) (meas : List LaserMeas) (jumped : Bool) (s : State) : (trigAct n meas jumped s).sig = s.sig := by
  unfold trigAct; (repeat' split) <;> simp [foldl_sig, foldr_sig, *]

@[simp] theorem trigMove_sig (s : State) (n : Nat) (ns : Nat) : (trigMove s n ns).sig = s.sig := by
  unfold trigMove; simp

@[simp] theorem trigNext_sig (n : Nat) (jumped : Bool) (s : State) : (trigNext n jumped s).sig = s.sig := by
  unfold trigNext; simp

@[simp] theorem trigFire_sig (n : Nat) (meas : List LaserMeas) (s : State) : (trigFire n meas s).sig = s.sig := by
  unfold trigFire; simp

@[simp] theorem abortNow_sig (s : State) : (abortNow s).sig = s.sig := by
  unfold abortNow; simp

@[simp] theorem svDeliver_sig (s : State) (f : SvIn) (w5 : Nat) (w6 : Nat) (v : Nat) : (svDeliver s f w5 w6 v).sig = s.sig := by
  unfold svDeliver; simp

@[simp] theorem svDefault_sig (s : State) (f : SvIn) (act : Nat) (v : Nat) : (svDefault s f act v).sig = s.sig := by
  unfold svDefault; simp

@[simp] theorem classify_sig (f : SvIn) (s : State) : (classify f s).sig = s.sig := by
  unfold classify; dsimp only; (repeat' split) <;> simp_all [foldl_sig, foldr_sig]

@[simp] theorem classifyNext_sig (s : State) : (classifyNext s).sig = s.sig := by
  unfold classifyNext; (repeat' split) <;> simp [foldl_sig, foldr_sig, *]

@[simp] theorem touchTiles_sig (s : State) : (touchTiles s).sig = s.sig := by
  unfold touchTiles; (repeat' split) <;> simp [foldl_sig, foldr_sig, *]

@[simp] theorem commitNow_sig (s : State) : (commitNow s).sig = s.sig := by
  unfold commitNow; simp

@[simp] theorem commitDue_sig (s : State) : (commitDue s).sig = s.sig := by
  unfold commitDue; (repeat' split) <;> simp_all [foldl_sig, foldr_sig]

@[simp] theorem setTbl_sig (s : State) (t : Table SvEntry) : (setTbl s t).sig = s.sig := by
  unfold setTbl; simp

@[simp] theorem recInsert_sig (r : SvRec) (s : State) : (recInsert r s).2.2.sig = s.sig := by
  unfold recInsert; (repeat' split) <;> simp [foldl_sig, foldr_sig, *]

@[simp] theorem recUpdate_sig (r : SvRec) (s : State) : (recUpdate r s).2.2.sig = s.sig := by
  unfold recUpdate; (repeat' split) <;> simp [foldl_sig, foldr_sig, *]

@[simp] theorem recRemove_sig (r : SvRec) (s : State) : (recRemove r s).2.2.sig = s.sig := by
  unfold recRemove; (repeat' split) <;> simp [foldl_sig, foldr_sig, *]

@[simp] theorem recLookup_sig (r : SvRec) (s : State) : (recLookup r s).2.2.sig = s.sig := by
  unfold recLookup; (repeat' split) <;> simp [foldl_sig, foldr_sig, *]

@[simp] theorem recEnd_sig (r : SvRec) (x : Nat × Option Nat × State) : (recEnd r x).sig = x.2.2.sig := by
  unfold recEnd; dsimp only; (repeat' split) <;> simp

@[simp] theorem recApply_sig (r : SvRec) (s : State) : (recApply r s).sig = s.sig := by
  unfold recApply
  rw [svShow_sig, recEnd_sig]
  (repeat' split) <;> simp

@[simp] theorem recTake_sig (r : SvRec) (rest : List SvRec) (s : State) : (recTake r rest s).sig = s.sig := by
  unfold recTake; (repeat' split) <;> simp_all [foldl_sig, foldr_sig]

@[simp] theorem recAll_sig (s : State) : (recAll s).sig = s.sig := by
  unfold recAll
  refine foldl_sig _ (fun t _ => ?_) _ _
  split <;> simp

@[simp] theorem recNext_sig (op : Nat) (s : State) : (recNext op s).sig = s.sig := by
  unfold recNext; (repeat' split) <;> simp [foldl_sig, foldr_sig, *]

@[simp] theorem retire_sig (v : Nat) (s : State) : (retire v s).sig = s.sig := by
  unfold retire; simp

@[simp] theorem svDeny_sig (s : State) : (svDeny s).sig = s.sig := by
  unfold svDeny; simp

@[simp] theorem svAbort_sig (o : Nat) (s : State) : (svAbort o s).sig = s.sig := by
  unfold svAbort; simp

@[simp] theorem svAcquire_sig (o : Nat) (s : State) : (svAcquire o s).sig = s.sig := by
  unfold svAcquire; simp

@[simp] theorem svStagedStore_sig (o : Nat) (fs : List Fld) (v : Word) (s : State) : (svStagedStore o fs v s).sig = s.sig := by
  unfold svStagedStore; simp

@[simp] theorem svCfgStore_sig (o : Nat) (b : Nat) (up : Bool) (v : Word) (s : State) : (svCfgStore o b up v s).sig = s.sig := by
  unfold svCfgStore; simp

@[simp] theorem svCommit_sig (o : Nat) (s : State) : (svCommit o s).sig = s.sig := by
  unfold svCommit; simp

@[simp] theorem svForce_sig (s : State) : (svForce s).sig = s.sig := by
  unfold svForce; simp

@[simp] theorem svRelease_sig (o : Nat) (s : State) : (svRelease o s).sig = s.sig := by
  unfold svRelease; simp

@[simp] theorem svSubmit_sig (o : Nat) (words : List Nat) (s : State) : (svSubmit o words s).sig = s.sig := by
  unfold svSubmit; simp

@[simp] theorem svWord7_sig (o : Nat) (v : Word) (s : State) : (svWord7 o v s).sig = s.sig := by
  unfold svWord7; simp

@[simp] theorem mvEnter_sig (s : State) (n : Nat) (st : Nat) : (mvEnter s n st).sig = s.sig := by
  unfold mvEnter; simp

@[simp] theorem mvStart_sig (c : Nat) (n : Nat) (s : State) : (mvStart c n s).sig = s.sig := by
  unfold mvStart; simp

@[simp] theorem mvStop_sig (n : Nat) (s : State) : (mvStop n s).sig = s.sig := by
  unfold mvStop; (repeat' split) <;> simp [foldl_sig, foldr_sig, *]

@[simp] theorem mvRefuse_sig (s : State) (n : Nat) : (mvRefuse s n).sig = s.sig := by
  unfold mvRefuse; simp

@[simp] theorem mvCtrlStore_sig (src : Src) (n : Nat) (start : Bool) (stop : Bool) (s : State) : (mvCtrlStore src n start stop s).sig = s.sig := by
  unfold mvCtrlStore; simp

@[simp] theorem mvRing_sig (n : Nat) (s : State) : (mvRing n s).sig = s.sig := by
  unfold mvRing; (repeat' split) <;> simp [foldl_sig, foldr_sig, *]

@[simp] theorem mvDbStore_sig (src : Src) (n : Nat) (s : State) : (mvDbStore src n s).sig = s.sig := by
  unfold mvDbStore; simp

@[simp] theorem bedAsk_sig (src : Src) (b : Nat) (s : State) : (bedAsk src b s).sig = s.sig := by
  unfold bedAsk; (repeat' split) <;> simp [foldl_sig, foldr_sig, *]

@[simp] theorem copyWords_sig (s : State) (a : Nat → Fld) (b : Nat → Fld) (n : Nat) : (copyWords s a b n).sig = s.sig := by
  unfold copyWords; (repeat' split) <;> simp [foldl_sig, foldr_sig, *]

@[simp] theorem featCommit_sig (f : Nat) (s : State) : (featCommit f s).sig = s.sig := by
  unfold featCommit; (repeat' split) <;> simp [foldl_sig, foldr_sig, *]

@[simp] theorem pf0Clear_sig (s : State) : (pf0Clear s).sig = s.sig := by
  unfold pf0Clear; (repeat' split) <;> simp [foldl_sig, foldr_sig, *]

@[simp] theorem fnReset_sig (s : State) (f : Nat) : (fnReset s f).sig = s.sig := by
  unfold fnReset; simp

@[simp] theorem linkUp_sig (speed : Nat) (width : Nat) (s : State) : (linkUp speed width s).sig = s.sig := by
  unfold linkUp; simp

@[simp] theorem mbxLate_sig (f : Nat) (s : State) : (mbxLate f s).sig = s.sig := by
  unfold mbxLate; simp

@[simp] theorem mbxStore_sig (f : Nat) (v : Word) (s : State) : (mbxStore f v s).sig = s.sig := by
  unfold mbxStore; simp

@[simp] theorem mbxfStore_sig (f : Nat) (v : Word) (s : State) : (mbxfStore f v s).sig = s.sig := by
  unfold mbxfStore; simp

@[simp] theorem mgmtBedStore_sig (b : Nat) (v : Word) (s : State) : (mgmtBedStore b v s).sig = s.sig := by
  unfold mgmtBedStore; simp

@[simp] theorem nqCfgStore_sig (f : Nat) (v : Word) (s : State) : (nqCfgStore f v s).sig = s.sig := by
  unfold nqCfgStore; simp

@[simp] theorem nqRaise_sig (s : State) (f : Nat) : (nqRaise s f).sig = s.sig := by
  unfold nqRaise; simp

@[simp] theorem nqCoal_sig (f : Nat) (s : State) : (nqCoal f s).sig = s.sig := by
  unfold nqCoal; simp

@[simp] theorem nqFail_sig (f : Nat) (s : State) : (nqFail f s).sig = s.sig := by
  unfold nqFail; simp

@[simp] theorem nqPut_sig (s : State) (f : Nat) (e : NqEv) : (nqPut s f e).sig = s.sig := by
  unfold nqPut; simp

@[simp] theorem nqOwed_sig (s : State) (f : Nat) : (nqOwed s f).sig = s.sig := by
  unfold nqOwed; simp

@[simp] theorem nqHeadStore_sig (f : Nat) (v : Word) (s : State) : (nqHeadStore f v s).sig = s.sig := by
  unfold nqHeadStore; simp

@[simp] theorem seeHost_sig (s : State) (f : Nat) (h : HostCfg) : (seeHost s f h).sig = s.sig := by
  unfold seeHost; simp

@[simp] theorem nqNext_sig (f : Nat) (h : HostCfg) (s : State) : (nqNext f h s).sig = s.sig := by
  unfold nqNext; (repeat' split) <;> simp [foldl_sig, foldr_sig, *]

@[simp] theorem perstFall_sig (s : State) : (perstFall s).sig = s.sig := by
  unfold perstFall; (repeat' split) <;> simp [foldl_sig, foldr_sig, *]

@[simp] theorem uartByte_sig (s : State) (x : Option Byte) : (uartByte s x).sig = s.sig := by
  unfold uartByte; (repeat' split) <;> simp_all [foldl_sig, foldr_sig]

@[simp] theorem uartIn_sig (l : UartLine) (stop : Bool) (s : State) : (uartIn l stop s).sig = s.sig := by
  unfold uartIn; (repeat' split) <;> simp_all [foldl_sig, foldr_sig]

@[simp] theorem uartRead_sig (src : Src) (s : State) : (uartRead src s).2.sig = s.sig := by
  unfold uartRead; dsimp only; (repeat' split) <;> simp_all [foldl_sig, foldr_sig]

@[simp] theorem uartSent_sig (s : State) : (uartSent s).sig = s.sig := by
  unfold uartSent; (repeat' split) <;> simp [foldl_sig, foldr_sig, *]

@[simp] theorem uartStore_sig (v : Word) (s : State) : (uartStore v s).sig = s.sig := by
  unfold uartStore; simp

@[simp] theorem aonOn_sig (s : State) : (aonOn s).sig = s.sig := by
  unfold aonOn; simp

@[simp] theorem aonReset_sig (s0 : State) : (aonReset s0).sig = s0.sig := by
  unfold aonReset; simp

@[simp] theorem supplyNote_sig (old : State) (new : State) : (supplyNote old new).sig = new.sig := by
  unfold supplyNote; simp

@[simp] theorem avsAck_sig (r : Nat) (s : State) : (avsAck r s).sig = s.sig := by
  unfold avsAck; simp

@[simp] theorem corePmb_sig (s : State) (cmd : Nat) (arg : Nat) : (corePmb s cmd arg).sig = s.sig := by
  unfold corePmb; (repeat' split) <;> simp_all [foldl_sig, foldr_sig]

@[simp] theorem sendRequest_sig (s : State) (mv : Nat) : (sendRequest s mv).sig = s.sig := by
  unfold sendRequest; (repeat' split) <;> simp_all [foldl_sig, foldr_sig]

@[simp] theorem avsCompute_sig (t : Nat) (s : State) : (avsCompute t s).sig = s.sig := by
  unfold avsCompute; dsimp only; (repeat' split) <;> simp [foldl_sig, foldr_sig, *]

@[simp] theorem avsLate_sig (s : State) : (avsLate s).sig = s.sig := by
  unfold avsLate; (repeat' split) <;> simp [foldl_sig, foldr_sig, *]

@[simp] theorem pmbFail_sig (s : State) (f : Fld) (again : State → State) (hagain : ∀ x0, (again x0).sig = x0.sig) : (pmbFail s f again).sig = s.sig := by
  unfold pmbFail; (repeat' split) <;> simp_all [foldl_sig, foldr_sig]

@[simp] theorem readPoll_sig (s : State) : (readPoll s).sig = s.sig := by
  unfold readPoll; (repeat' split) <;> simp_all [foldl_sig, foldr_sig]

@[simp] theorem avsPoll_sig (reply : PmbReply) (s : State) : (avsPoll reply s).sig = s.sig := by
  unfold avsPoll; (repeat' split) <;> simp [foldl_sig, foldr_sig, *]

@[simp] theorem clockShow_sig (s : State) (clk : Nat) (ok : Bool) : (clockShow s clk ok).sig = s.sig := by
  unfold clockShow; (repeat' split) <;> simp [foldl_sig, foldr_sig, *]

@[simp] theorem clockBad_sig (clk : Nat) (s : State) : (clockBad clk s).sig = s.sig := by
  unfold clockBad; simp

@[simp] theorem clockGood_sig (clk : Nat) (s : State) : (clockGood clk s).sig = s.sig := by
  unfold clockGood; simp

@[simp] theorem clockLate_sig (clk : Nat) (s : State) : (clockLate clk s).sig = s.sig := by
  unfold clockLate; simp

@[simp] theorem clockWindow_sig (clk : Nat) (count : Nat) (s : State) : (clockWindow clk count s).sig = s.sig := by
  unfold clockWindow; simp

@[simp] theorem domStore_sig (d : Nat) (v : Word) (s : State) : (domStore d v s).sig = s.sig := by
  unfold domStore; simp

@[simp] theorem settleDown_sig (s : State) : (settleDown s).sig = s.sig := by
  unfold settleDown; (repeat' split) <;> simp [foldl_sig, foldr_sig, *]

@[simp] theorem downEnd_sig (s : State) : (downEnd s).sig = s.sig := by
  unfold downEnd; (repeat' split) <;> simp [foldl_sig, foldr_sig, *]

@[simp] theorem fireWake_sig (cause : Nat) (s : State) : (fireWake cause s).sig = s.sig := by
  unfold fireWake; simp

@[simp] theorem gaspLate_sig (s : State) : (gaspLate s).sig = s.sig := by
  unfold gaspLate; simp

@[simp] theorem goodFall_sig (s : State) : (goodFall s).sig = s.sig := by
  unfold goodFall; simp

@[simp] theorem goodLate_sig (s : State) : (goodLate s).sig = s.sig := by
  unfold goodLate; simp

@[simp] theorem goodRise_sig (s : State) : (goodRise s).sig = s.sig := by
  unfold goodRise; simp

@[simp] theorem holdLate_sig (s : State) : (holdLate s).sig = s.sig := by
  unfold holdLate; simp

@[simp] theorem lowerGain_sig (s : State) : (lowerGain s).sig = s.sig := by
  unfold lowerGain; simp

@[simp] theorem saveLedger_sig (s : State) : (saveLedger s).sig = s.sig := by
  unfold saveLedger; (repeat' split) <;> simp_all [foldl_sig, foldr_sig]

@[simp] theorem modeAsk_sig (s : State) (m : Nat) : (modeAsk s m).sig = s.sig := by
  unfold modeAsk; simp

@[simp] theorem judgeAsk_sig (s : State) : (judgeAsk s).sig = s.sig := by
  first
    | (unfold judgeAsk; simp; done)
    | (unfold judgeAsk; (repeat' split) <;> simp_all [foldl_sig, foldr_sig]; done)
    | (unfold judgeAsk; dsimp only; (repeat' split) <;> simp [foldl_sig, foldr_sig, *])

@[simp] theorem modeGo_sig (s : State) (m : Nat) : (modeGo s m).sig = s.sig := by
  first
    | (unfold modeGo; simp; done)
    | (unfold modeGo; (repeat' split) <;> simp_all [foldl_sig, foldr_sig]; done)
    | (unfold modeGo; dsimp only; (repeat' split) <;> simp [foldl_sig, foldr_sig, *])

@[simp] theorem modeCtrlStore_sig (v : Word) (s : State) : (modeCtrlStore v s).sig = s.sig := by
  unfold modeCtrlStore; simp

@[simp] theorem resetLow_sig (s : State) : (resetLow s).sig = s.sig := by
  unfold resetLow; simp

@[simp] theorem sendTherm_sig (s : State) : (sendTherm s).sig = s.sig := by
  unfold sendTherm; simp

@[simp] theorem sentryCycle_sig (pa : List Int) (pb : List Int) (temp : List Int) (s : State) : (sentryCycle pa pb temp s).sig = s.sig := by
  unfold sentryCycle; simp

@[simp] theorem setTherm_sig (s : State) (st : Nat) : (setTherm s st).sig = s.sig := by
  unfold setTherm; simp

@[simp] theorem wakeXfer_sig (addr : Nat) (s : State) : (wakeXfer addr s).sig = s.sig := by
  unfold wakeXfer; (repeat' split) <;> simp_all [foldl_sig, foldr_sig]

@[simp] theorem sideGet_sig (addr : Nat) (n : Nat) (s : State) : (sideGet addr n s).sig = s.sig := by
  unfold sideGet; simp

@[simp] theorem sidePut_sig (addr : Nat) (l : List Byte) (s : State) : (sidePut addr l s).sig = s.sig := by
  unfold sidePut; (repeat' split) <;> simp [foldl_sig, foldr_sig, *]

@[simp] theorem supplyLong_sig (s : State) : (supplyLong s).sig = s.sig := by
  unfold supplyLong; simp

@[simp] theorem supplyReset_sig (mv : Nat) (s : State) : (supplyReset mv s).sig = s.sig := by
  unfold supplyReset; simp

@[simp] theorem supplySense_sig (mv : Nat) (s : State) : (supplySense mv s).sig = s.sig := by
  unfold supplySense; simp

@[simp] theorem thermFast_sig (mean : Nat) (i1 : Nat) (s : State) : (thermFast mean i1 s).sig = s.sig := by
  unfold thermFast; simp

@[simp] theorem thermReset_sig (tj : Int) (s : State) : (thermReset tj s).sig = s.sig := by
  unfold thermReset; simp

@[simp] theorem railPmb_sig (s : State) (r : Nat) (cmds : List Nat) : (railPmb s r cmds).sig = s.sig := by
  first
    | (unfold railPmb; simp; done)
    | (unfold railPmb; (repeat' split) <;> simp_all [foldl_sig, foldr_sig]; done)
    | (unfold railPmb; dsimp only; (repeat' split) <;> simp [foldl_sig, foldr_sig, *])

@[simp] theorem samplePower_sig (s : State) : (samplePower s).sig = s.sig := by
  first
    | (unfold samplePower; simp; done)
    | (unfold samplePower; (repeat' split) <;> simp_all [foldl_sig, foldr_sig]; done)
    | (unfold samplePower; dsimp only; (repeat' split) <;> simp [foldl_sig, foldr_sig, *])

@[simp] theorem thermSecond_sig (p1 : Nat) (i1 : Nat) (s : State) : (thermSecond p1 i1 s).sig = s.sig := by
  unfold thermSecond; (repeat' split) <;> simp [foldl_sig, foldr_sig, *]

@[simp] theorem wearWrite_sig (use : List WearUse) (s : State) : (wearWrite use s).sig = s.sig := by
  unfold wearWrite; (repeat' split) <;> simp [foldl_sig, foldr_sig, *]

@[simp] theorem abortLane_sig (s : State) (b : Nat) : (abortLane s b).sig = s.sig := by
  unfold abortLane; (repeat' split) <;> simp [foldl_sig, foldr_sig, *]

theorem takeHs_sig (s : State) (p ty : Nat) {m : HsMsg} {t : State} (h : takeHs s p ty = some (m, t)) : t.sig = s.sig := by
  unfold takeHs at h
  split at h
  · cases h
  · cases h; simp
@[simp] theorem abortIn_sig (p : Nat) (s : State) : (abortIn p s).sig = s.sig := by
  unfold abortIn
  split
  · rfl
  · next m t h =>
    have h' := takeHs_sig s p _ h
    first
      | (simp [h']; done)
      | ((repeat' split) <;> simp [h']; done)
      | (dsimp only; (repeat' split) <;> simp [foldl_sig, h'])

@[simp] theorem acceptIn_sig (p : Nat) (s : State) : (acceptIn p s).sig = s.sig := by
  unfold acceptIn
  split
  · rfl
  · next m t h =>
    have h' := takeHs_sig s p _ h
    first
      | (simp [h']; done)
      | ((repeat' split) <;> simp [h']; done)
      | (dsimp only; (repeat' split) <;> simp [foldl_sig, h'])

@[simp] theorem acceptTimeout_sig (b : Nat) (s : State) : (acceptTimeout b s).sig = s.sig := by
  unfold acceptTimeout; (repeat' split) <;> simp [foldl_sig, foldr_sig, *]

@[simp] theorem dozeEnter_sig (p : Nat) (s : State) : (dozeEnter p s).sig = s.sig := by
  unfold dozeEnter; simp

@[simp] theorem dozeWake_sig (p : Nat) (s : State) : (dozeWake p s).sig = s.sig := by
  unfold dozeWake; simp

@[simp] theorem endLaneGraft_sig (s : State) (b : Nat) : (endLaneGraft s b).sig = s.sig := by
  unfold endLaneGraft; (repeat' split) <;> simp [foldl_sig, foldr_sig, *]

@[simp] theorem faultReportIn_sig (p : Nat) (s : State) : (faultReportIn p s).sig = s.sig := by
  unfold faultReportIn
  split
  · rfl
  · next m t h =>
    have h' := takeHs_sig s p _ h
    first
      | (simp [h']; done)
      | ((repeat' split) <;> simp [h']; done)
      | (dsimp only; (repeat' split) <;> simp [foldl_sig, h'])

@[simp] theorem helloOn_sig (s : State) (p : Nat) : (helloOn s p).sig = s.sig := by
  unfold helloOn; simp

@[simp] theorem helloAll_sig (b : Nat) (s : State) : (helloAll b s).sig = s.sig := by
  unfold helloAll; (repeat' split) <;> simp [foldl_sig, foldr_sig, *]

@[simp] theorem helloIn_sig (p : Nat) (s : State) : (helloIn p s).sig = s.sig := by
  unfold helloIn
  split
  · rfl
  · next m t h =>
    have h' := takeHs_sig s p _ h
    first
      | (simp [h']; done)
      | ((repeat' split) <;> simp [h']; done)
      | (dsimp only; (repeat' split) <;> simp [foldl_sig, h'])

@[simp] theorem hsExpiry_sig (b : Nat) (s : State) : (hsExpiry b s).sig = s.sig := by
  unfold hsExpiry; simp

@[simp] theorem lanePort_sig (s : State) (b : Nat) (l : Nat) : (lanePort s b l).sig = s.sig := by
  unfold lanePort; (repeat' split) <;> simp [foldl_sig, foldr_sig, *]

@[simp] theorem laneCtrlWrite_sig (b : Nat) (l : Nat) (v : Word) (s : State) : (laneCtrlWrite b l v s).sig = s.sig := by
  unfold laneCtrlWrite; simp

@[simp] theorem laneSwitch_sig (b : Nat) (s : State) : (laneSwitch b s).sig = s.sig := by
  unfold laneSwitch; (repeat' split) <;> simp [foldl_sig, foldr_sig, *]

@[simp] theorem dropLink_sig (s : State) (p : Nat) (why : Nat) : (dropLink s p why).sig = s.sig := by
  first
    | (unfold dropLink; simp; done)
    | (unfold dropLink; (repeat' split) <;> simp_all [foldl_sig, foldr_sig]; done)
    | (unfold dropLink; dsimp only; (repeat' split) <;> simp [foldl_sig, foldr_sig, *])

@[simp] theorem localFault_sig (s : State) (p : Nat) (on : Bool) : (localFault s p on).sig = s.sig := by
  first
    | (unfold localFault; simp; done)
    | (unfold localFault; (repeat' split) <;> simp_all [foldl_sig, foldr_sig]; done)
    | (unfold localFault; dsimp only; (repeat' split) <;> simp [foldl_sig, foldr_sig, *])

@[simp] theorem linkLoss_sig (p : Nat) (why : Nat) (s : State) : (linkLoss p why s).sig = s.sig := by
  unfold linkLoss; (repeat' split) <;> simp [foldl_sig, foldr_sig, *]

@[simp] theorem lockLane_sig (b : Nat) (l : Nat) (s : State) : (lockLane b l s).sig = s.sig := by
  unfold lockLane; simp

@[simp] theorem readyIn_sig (p : Nat) (s : State) : (readyIn p s).sig = s.sig := by
  unfold readyIn
  split
  · rfl
  · next m t h =>
    have h' := takeHs_sig s p _ h
    first
      | (simp [h']; done)
      | ((repeat' split) <;> simp [h']; done)
      | (dsimp only; (repeat' split) <;> simp [foldl_sig, h'])

@[simp] theorem readyTimeout_sig (b : Nat) (s : State) : (readyTimeout b s).sig = s.sig := by
  unfold readyTimeout; (repeat' split) <;> simp [foldl_sig, foldr_sig, *]

@[simp] theorem rowModeWrite_sig (g : Nat) (v : Word) (s : State) : (rowModeWrite g v s).sig = s.sig := by
  unfold rowModeWrite; simp

@[simp] theorem rxAlignTimeout_sig (p : Nat) (s : State) : (rxAlignTimeout p s).sig = s.sig := by
  unfold rxAlignTimeout; simp

@[simp] theorem rxDozeEnd_sig (p : Nat) (s : State) : (rxDozeEnd p s).sig = s.sig := by
  unfold rxDozeEnd; simp

@[simp] theorem serWindow_sig (b : Nat) (l : Nat) (n : Nat) (prbs : PrbsRx) (s : State) : (serWindow b l n prbs s).sig = s.sig := by
  unfold serWindow; simp

@[simp] theorem txDozeIn_sig (p : Nat) (s : State) : (txDozeIn p s).sig = s.sig := by
  unfold txDozeIn
  split
  · rfl
  · next m t h =>
    have h' := takeHs_sig s p _ h
    first
      | (simp [h']; done)
      | ((repeat' split) <;> simp [h']; done)
      | (dsimp only; (repeat' split) <;> simp [foldl_sig, h'])

@[simp] theorem txeqStore_sig (b : Nat) (l : Nat) (v : Word) (s : State) : (txeqStore b l v s).sig = s.sig := by
  unfold txeqStore; simp

@[simp] theorem upPort_sig (p : Nat) (s : State) : (upPort p s).sig = s.sig := by
  unfold upPort; simp

@[simp] theorem commitRamp_sig (s : State) : (commitRamp s).sig = s.sig := by
  unfold commitRamp; simp

@[simp] theorem dozeRestore_sig (k : Nat) (s : State) : (dozeRestore k s).sig = s.sig := by
  unfold dozeRestore; simp

@[simp] theorem enableLasers_sig (s : State) (tx : Bool) (on : Bool) (k : Nat) : (enableLasers s tx on k).sig = s.sig := by
  unfold enableLasers; (repeat' split) <;> simp [foldl_sig, foldr_sig, *]

@[simp] theorem holdoffEnd_sig (s : State) : (holdoffEnd s).sig = s.sig := by
  unfold holdoffEnd; simp

@[simp] theorem laserSettle_sig (tx : Bool) (e : Nat) (s : State) : (laserSettle tx e s).sig = s.sig := by
  unfold laserSettle; simp

@[simp] theorem lockTimeout_sig (tx : Bool) (e : Nat) (s : State) : (lockTimeout tx e s).sig = s.sig := by
  unfold lockTimeout; simp

@[simp] theorem losSet_sig (c : Nat) (on : Bool) (s : State) : (losSet c on s).sig = s.sig := by
  unfold losSet; simp

@[simp] theorem lostRetry_sig (tx : Bool) (e : Nat) (s : State) : (lostRetry tx e s).sig = s.sig := by
  unfold lostRetry; simp

@[simp] theorem lrxCtrlWrite_sig (k : Nat) (v : Word) (s : State) : (lrxCtrlWrite k v s).sig = s.sig := by
  unfold lrxCtrlWrite; simp

@[simp] theorem ltxCtrlWrite_sig (k : Nat) (v : Word) (s : State) : (ltxCtrlWrite k v s).sig = s.sig := by
  unfold ltxCtrlWrite; simp

@[simp] theorem protSwitch_sig (s : State) : (protSwitch s).sig = s.sig := by
  unfold protSwitch; (repeat' split) <;> simp [foldl_sig, foldr_sig, *]

@[simp] theorem rxMove_sig (k : Nat) (s : State) : (rxMove k s).sig = s.sig := by
  unfold rxMove; (repeat' split) <;> simp [foldl_sig, foldr_sig, *]

@[simp] theorem soaLimitStore_sig (v : Word) (s : State) : (soaLimitStore v s).sig = s.sig := by
  unfold soaLimitStore; simp

@[simp] theorem takeSegment_sig (k : Nat) (seg : RxSeg) (s : State) : (takeSegment k seg s).sig = s.sig := by
  unfold takeSegment
  cases seg.par <;> simp

@[simp] theorem timingChange_sig (s : State) : (timingChange s).sig = s.sig := by
  unfold timingChange; (repeat' split) <;> simp [foldl_sig, foldr_sig, *]

@[simp] theorem txMove_sig (k : Nat) (s : State) : (txMove k s).sig = s.sig := by
  unfold txMove; (repeat' split) <;> simp [foldl_sig, foldr_sig, *]

@[simp] theorem tribFrame_sig (f : TrellisFrame) (s : State) (t : Nat) : (tribFrame f s t).sig = s.sig := by
  unfold tribFrame; simp

@[simp] theorem emitTrellis_sig (s : State) : (emitTrellis s).sig = s.sig := by
  unfold emitTrellis; (repeat' split) <;> simp [foldl_sig, foldr_sig, *]

@[simp] theorem extLoRead_sig (k : Nat) (s : State) : (extLoRead k s).2.sig = s.sig := by
  unfold extLoRead; (repeat' split) <;> simp [foldl_sig, foldr_sig, *]

@[simp] theorem extRefStore_sig (v : Word) (s : State) : (extRefStore v s).sig = s.sig := by
  unfold extRefStore; simp

@[simp] theorem huntNext_sig (k : Nat) (s : State) : (huntNext k s).sig = s.sig := by
  unfold huntNext; dsimp only; (repeat' split) <;> simp_all [foldl_sig, foldr_sig]

@[simp] theorem pageStore_sig (p : Nat) (trib : Bool) (i : Nat) (v : Word) (s : State) : (pageStore p trib i v s).sig = s.sig := by
  unfold pageStore; simp

@[simp] theorem routePod_sig (s : State) (k : Nat) (ty : Nat) (tid : Nat) (key : Nat) (index : Nat) (hdr : List Byte) (body : List Byte) (a : PodArea) : (routePod s k ty tid key index hdr body a).sig = s.sig := by
  unfold routePod; simp

@[simp] theorem takePod_sig (k : Nat) (s : State) : (takePod k s).sig = s.sig := by
  unfold takePod; dsimp only; (repeat' split) <;> simp [foldl_sig, foldr_sig, *]

@[simp] theorem beginLaneGraft_sig (s : State) (g : Graft) : (beginLaneGraft s g).sig = s.sig := by
  unfold beginLaneGraft; simp

@[simp] theorem prepare_sig (s : State) (g : Graft) : (prepare s g).sig = s.sig := by
  unfold prepare; (repeat' split) <;> simp [foldl_sig, foldr_sig, *]

@[simp] theorem scrubbed_sig (s : State) (g : Graft) : (scrubbed s g).sig = s.sig := by
  unfold scrubbed; (repeat' split) <;> simp_all [foldl_sig, foldr_sig]

@[simp] theorem endScrub_sig (s : State) (g : Graft) (ok : Bool) : (endScrub s g ok).sig = s.sig := by
  unfold endScrub; simp

@[simp] theorem injectGo_sig (v : Word) (s : State) : (injectGo v s).sig = s.sig := by
  unfold injectGo; simp

@[simp] theorem latchPop_sig (s : State) (V : Nat → Fld) (w : List Nat) : (latchPop s V w).sig = s.sig := by
  unfold latchPop; (repeat' split) <;> simp [foldl_sig, foldr_sig, *]

@[simp] theorem matchInject_sig (s : State) (e : FaultEv) (claimed : Bool) : (matchInject s e claimed).2.2.sig = s.sig := by
  unfold matchInject; (repeat' split) <;> simp [foldl_sig, foldr_sig, *]

@[simp] theorem peekRing_sig (s : State) (b : Nat) : (peekRing s b).sig = s.sig := by
  unfold peekRing; (repeat' split) <;> simp_all [foldl_sig, foldr_sig]

@[simp] theorem popRing_sig (s : State) (ring : Nat) : (popRing s ring).sig = s.sig := by
  unfold popRing; (repeat' split) <;> simp [foldl_sig, foldr_sig, *]

@[simp] theorem pushBed_sig (r : Rec) (s : State) (b : Nat) : (pushBed r s b).sig = s.sig := by
  unfold pushBed; simp

@[simp] theorem pushFw_sig (s : State) (r : Rec) : (pushFw s r).sig = s.sig := by
  unfold pushFw; simp

@[simp] theorem pushMain_sig (s : State) (r : Rec) : (pushMain s r).sig = s.sig := by
  unfold pushMain; simp

@[simp] theorem unfence_sig (s : State) (f : Fenced) : (unfence s f).sig = s.sig := by
  unfold unfence; (repeat' split) <;> simp [foldl_sig, foldr_sig, *]

@[simp] theorem returnEnd_sig (ok : Bool) (s : State) : (returnEnd ok s).sig = s.sig := by
  unfold returnEnd; dsimp only; (repeat' split) <;> simp_all [foldl_sig, foldr_sig]

@[simp] theorem returnGo_sig (v : Word) (s : State) : (returnGo v s).sig = s.sig := by
  unfold returnGo; (repeat' split) <;> simp [foldl_sig, foldr_sig, *]

@[simp] theorem wakeScrub_sig (s : State) (c : Nat) (ok : Bool) : (wakeScrub s c ok).sig = s.sig := by
  unfold wakeScrub; (repeat' split) <;> simp_all [foldl_sig, foldr_sig]

@[simp] theorem scrubEnd_sig (u : Nat) (ok : Bool) (s : State) : (scrubEnd u ok s).sig = s.sig := by
  unfold scrubEnd; (repeat' split) <;> simp [foldl_sig, foldr_sig, *]

@[simp] theorem strayPop_sig (ring : Nat) (src : Src) (s : State) : (strayPop ring src s).sig = s.sig := by
  unfold strayPop; (repeat' split) <;> simp_all [foldl_sig, foldr_sig]

@[simp] theorem switchOver_sig (u : Nat) (p : UCls → Bool) (s : State) : (switchOver u p s).sig = s.sig := by
  unfold switchOver; (repeat' split) <;> simp [foldl_sig, foldr_sig, *]

@[simp] theorem takeEnd_sig (s : State) : (takeEnd s).sig = s.sig := by
  unfold takeEnd; (repeat' split) <;> simp [foldl_sig, foldr_sig, *]

@[simp] theorem takeThis_sig (s : State) (e : FaultEv) : (takeThis s e).sig = s.sig := by
  first
    | (unfold takeThis; simp; done)
    | (unfold takeThis; (repeat' split) <;> simp_all [foldl_sig, foldr_sig]; done)
    | (unfold takeThis; dsimp only; (repeat' split) <;> simp [foldl_sig, foldr_sig, *])

@[simp] theorem takeFault_sig (ext : Option ExtFault) (s : State) : (takeFault ext s).sig = s.sig := by
  unfold takeFault; (repeat' split) <;> simp [foldl_sig, foldr_sig, *]

@[simp] theorem writeRecord_sig (s : State) : (writeRecord s).sig = s.sig := by
  unfold writeRecord; (repeat' split) <;> simp [foldl_sig, foldr_sig, *]

@[simp] theorem setClients_sig (s : State) (t : Table Client) : (setClients s t).sig = s.sig := by
  unfold setClients; simp

@[simp] theorem showClient_sig (s : State) (x : Client) : (showClient s x).sig = s.sig := by
  unfold showClient; (repeat' split) <;> simp [foldl_sig, foldr_sig, *]

@[simp] theorem sprResult_sig (s : State) (r : Nat) (i : Option Nat) : (sprResult s r i).sig = s.sig := by
  unfold sprResult; (repeat' split) <;> simp [foldl_sig, foldr_sig, *]

@[simp] theorem sprShow_sig (s : State) (g : Nat) : (sprShow s g).sig = s.sig := by
  unfold sprShow; simp

@[simp] theorem revive_sig (s : State) (x : Client) : (revive s x).sig = s.sig := by
  first
    | (unfold revive; simp; done)
    | (unfold revive; (repeat' split) <;> simp_all [foldl_sig, foldr_sig]; done)
    | (unfold revive; dsimp only; (repeat' split) <;> simp [foldl_sig, foldr_sig, *])

@[simp] theorem sprUpsert_sig (x : Client) (s : State) : (sprUpsert x s).sig = s.sig := by
  unfold sprUpsert; dsimp only; (repeat' split) <;> simp [foldl_sig, foldr_sig, *]

@[simp] theorem sprRun_sig (op : Nat) (s : State) : (sprRun op s).sig = s.sig := by
  unfold sprRun; dsimp only; (repeat' split) <;> simp_all [foldl_sig, foldr_sig]

@[simp] theorem sprCmdStore_sig (v : Word) (s : State) : (sprCmdStore v s).sig = s.sig := by
  unfold sprCmdStore; simp

@[simp] theorem sprDepart_sig (s : State) (p : Nat) (l : List Byte) (t : SprTx) : (sprDepart s p l t).2.sig = s.sig := by
  unfold sprDepart; (repeat' split) <;> simp [foldl_sig, foldr_sig, *]

@[simp] theorem sprFrame_sig (s : State) (p : Nat) (d : SprTo) (event : Bool) (msg : List Byte) : (sprFrame s p d event msg).2.2.sig = s.sig := by
  unfold sprFrame; (repeat' split) <;> simp [foldl_sig, foldr_sig, *]

@[simp] theorem sprSend_sig (s : State) (p : Nat) (d : SprTo) (msg : List Byte) : (sprSend s p d msg).sig = s.sig := by
  unfold sprSend; simp

@[simp] theorem sprTake_sig (s : State) (p : Nat) (l : List Byte) (u : Nat) (h : PtpHead) : (sprTake s p l u h).sig = s.sig := by
  unfold sprTake; simp

@[simp] theorem syncSend_sig (s : State) (p : Nat) (d : SprTo) (two : Bool) (seq : Nat) (log : Nat) : (syncSend s p d two seq log).sig = s.sig := by
  unfold syncSend; simp

@[simp] theorem admitDn_sig (f : DnIn) (s : State) : (admitDn f s).sig = s.sig := by
  unfold admitDn; simp

@[simp] theorem admitDnNext_sig (s : State) : (admitDnNext s).sig = s.sig := by
  unfold admitDnNext; (repeat' split) <;> simp [foldl_sig, foldr_sig, *]

@[simp] theorem meterPass_sig (f : UpIn) (s : State) : (meterPass f s).1.sig = s.sig := by
  unfold meterPass; dsimp only; (repeat' split) <;> simp [foldl_sig, foldr_sig, *]

@[simp] theorem enterQueue_sig (f : UpIn) (wait : Option Nat) (s : State) : (enterQueue f wait s).sig = s.sig := by
  unfold enterQueue; simp

@[simp] theorem admitUp_sig (f : UpIn) (s : State) : (admitUp f s).sig = s.sig := by
  unfold admitUp; dsimp only; (repeat' split) <;> simp [foldl_sig, foldr_sig, *]

@[simp] theorem admitUpNext_sig (s : State) : (admitUpNext s).sig = s.sig := by
  unfold admitUpNext; (repeat' split) <;> simp [foldl_sig, foldr_sig, *]

@[simp] theorem endFrame_sig (s : State) (p : Nat) : (endFrame s p).sig = s.sig := by
  unfold endFrame; (repeat' split) <;> simp [foldl_sig, foldr_sig, *]

@[simp] theorem startFrame_sig (s : State) (p : Nat) (q : Nat) (cells : Nat) (l : List Byte) : (startFrame s p q cells l).sig = s.sig := by
  unfold startFrame; simp

@[simp] theorem serveQueue_sig (s : State) (p : Nat) (q : Nat) (w : Bool) : (serveQueue s p q w).sig = s.sig := by
  unfold serveQueue; (repeat' split) <;> simp [foldl_sig, foldr_sig, *]

@[simp] theorem boundary_sig (p : Nat) (s : State) : (boundary p s).sig = s.sig := by
  unfold boundary; dsimp only; (repeat' split) <;> simp_all [foldl_sig, foldr_sig]

@[simp] theorem changeover_sig (g : Nat) (s : State) : (changeover g s).sig = s.sig := by
  unfold changeover; (repeat' split) <;> simp [foldl_sig, foldr_sig, *]

@[simp] theorem fcStore_sig (p : Nat) (v : Word) (s : State) : (fcStore p v s).sig = s.sig := by
  unfold fcStore; simp

@[simp] theorem gateStore_sig (g : Nat) (l : Nat) (reg : Nat) (v : Word) (s : State) : (gateStore g l reg v s).sig = s.sig := by
  unfold gateStore; simp

@[simp] theorem ledger_sig (s : State) : (ledger s).sig = s.sig := by
  unfold ledger; (repeat' split) <;> simp [foldl_sig, foldr_sig, *]

@[simp] theorem meterStore_sig (m : Nat) (which : Nat) (v : Word) (s : State) : (meterStore m which v s).sig = s.sig := by
  unfold meterStore; simp

@[simp] theorem meterSweep_sig (m : Nat) (s : State) : (meterSweep m s).sig = s.sig := by
  unfold meterSweep; simp

@[simp] theorem pauseAgain_sig (p : Nat) (s : State) : (pauseAgain p s).sig = s.sig := by
  unfold pauseAgain; simp

@[simp] theorem shaperDue_sig (s : State) : (shaperDue s).sig = s.sig := by
  unfold shaperDue; simp

@[simp] theorem timerEnd_sig (p : Nat) (q : Nat) (s : State) : (timerEnd p q s).sig = s.sig := by
  unfold timerEnd; simp

@[simp] theorem ackTlv_sig (y0 : PtpIn) (y1 : PtpHead) (y2 : List Byte) (s : State) : (ackTlv y0 y1 y2 s).sig = s.sig := by
  unfold ackTlv; (repeat' split) <;> simp_all [foldl_sig, foldr_sig]

@[simp] theorem fwUpsert_sig (s : State) (x : Client) : (fwUpsert s x).sig = s.sig := by
  unfold fwUpsert; simp

@[simp] theorem sigReply_sig (s : State) (q : PtpIn) (h : PtpHead) (ty : Nat) (data : List Byte) : (sigReply s q h ty data).sig = s.sig := by
  unfold sigReply; simp

@[simp] theorem cancelTlv_sig (q : PtpIn) (h : PtpHead) (d : List Byte) (s : State) : (cancelTlv q h d s).sig = s.sig := by
  unfold cancelTlv; dsimp only; (repeat' split) <;> simp_all [foldl_sig, foldr_sig]

@[simp] theorem creditUp_sig (i : Nat) (s : State) : (creditUp i s).sig = s.sig := by
  unfold creditUp; (repeat' split) <;> simp [foldl_sig, foldr_sig, *]

@[simp] theorem delayResp_sig (s : State) (p : Nat) (d : SprTo) (l : List Byte) (off : Nat) (u : Nat) : (delayResp s p d l off u).sig = s.sig := by
  unfold delayResp; simp

@[simp] theorem expire_sig (i : Nat) (s : State) : (expire i s).sig = s.sig := by
  unfold expire; (repeat' split) <;> simp [foldl_sig, foldr_sig, *]

@[simp] theorem followNext_sig (s : State) : (followNext s).sig = s.sig := by
  unfold followNext; (repeat' split) <;> simp [foldl_sig, foldr_sig, *]

@[simp] theorem grantTlv_sig (s : State) (q : PtpIn) (h : PtpHead) (d : List Byte) (mt : Nat) (log : Nat) (dur : Nat) : (grantTlv s q h d mt log dur).sig = s.sig := by
  unfold grantTlv; simp

@[simp] theorem leapClear_sig (s : State) : (leapClear s).sig = s.sig := by
  unfold leapClear; (repeat' split) <;> simp [foldl_sig, foldr_sig, *]

@[simp] theorem serveReq_sig (q : PtpIn) (s : State) : (serveReq q s).sig = s.sig := by
  unfold serveReq; dsimp only; (repeat' split) <;> simp [foldl_sig, foldr_sig, *]

@[simp] theorem reqNext_sig (s : State) : (reqNext s).sig = s.sig := by
  unfold reqNext; (repeat' split) <;> simp [foldl_sig, foldr_sig, *]

@[simp] theorem requestTlv_sig (q : PtpIn) (h : PtpHead) (d : List Byte) (s : State) : (requestTlv q h d s).sig = s.sig := by
  unfold requestTlv; dsimp only; (repeat' split) <;> simp_all [foldl_sig, foldr_sig]

@[simp] theorem sendAnnounce_sig (mc : Bool) (i : Nat) (s : State) : (sendAnnounce mc i s).sig = s.sig := by
  unfold sendAnnounce; (repeat' split) <;> simp [foldl_sig, foldr_sig, *]

@[simp] theorem sendSync_sig (mc : Bool) (i : Nat) (s : State) : (sendSync mc i s).sig = s.sig := by
  unfold sendSync; (repeat' split) <;> simp [foldl_sig, foldr_sig, *]

@[simp] theorem sigFront_sig (n : Nat) (s : State) : (sigFront n s).1.sig = s.sig := by
  induction n generalizing s with
  | zero => rfl
  | succ m ih =>
    unfold sigFront
    split
    · rfl
    · dsimp only
      split
      · simp [ih]
      · rfl

@[simp] theorem sigStep_sig (ty : Nat) (f : PtpIn → PtpHead → List Byte → State → State) (s : State) (hf : ∀ x0 x1 x2 x3, (f x0 x1 x2 x3).sig = x3.sig) : (sigStep ty f s).sig = s.sig := by
  unfold sigStep; dsimp only; (repeat' split) <;> simp_all [foldl_sig, foldr_sig]

@[simp] theorem sprOp_sig (op : Nat) (v : Word) (s : State) : (sprOp op v s).sig = s.sig := by
  unfold sprOp; simp

@[simp] theorem sprPortStore_sig (p : Nat) (v : Word) (s : State) : (sprPortStore p v s).sig = s.sig := by
  unfold sprPortStore; simp

@[simp] theorem cipherLoadStore_sig (v : Word) (s : State) : (cipherLoadStore v s).sig = s.sig := by
  unfold cipherLoadStore; simp

@[simp] theorem cipherMove_sig (g : Nat) (up : Bool) (s : State) : (cipherMove g up s).sig = s.sig := by
  unfold cipherMove; dsimp only; (repeat' split) <;> simp_all [foldl_sig, foldr_sig]

@[simp] theorem cipherWordStore_sig (i : Nat) (v : Word) (s : State) : (cipherWordStore i v s).sig = s.sig := by
  unfold cipherWordStore; simp

@[simp] theorem decryptPod_sig (g : Nat) (p : DnPod) (s : State) : (decryptPod g p s).sig = s.sig := by
  unfold decryptPod; dsimp only; (repeat' split) <;> simp [foldl_sig, foldr_sig, *]

@[simp] theorem decryptNext_sig (g : Nat) (s : State) : (decryptNext g s).sig = s.sig := by
  unfold decryptNext; (repeat' split) <;> simp [foldl_sig, foldr_sig, *]

@[simp] theorem encryptNext_sig (k : Nat) (s : State) : (encryptNext k s).sig = s.sig := by
  unfold encryptNext; dsimp only; (repeat' split) <;> simp_all [foldl_sig, foldr_sig]

@[simp] theorem forFirmware_sig (src : Src) (s : State) (k : State → State) (hk : ∀ x0, (k x0).sig = x0.sig) : (forFirmware src s k).sig = s.sig := by
  unfold forFirmware; (repeat' split) <;> simp [foldl_sig, foldr_sig, *]

@[simp] theorem loadEnd_sig (ok : Bool) (g : Nat) (up : Bool) (s : State) : (loadEnd ok g up s).sig = s.sig := by
  unfold loadEnd; (repeat' split) <;> simp [foldl_sig, foldr_sig, *]

@[simp] theorem rekeyLost_sig (s : State) : (rekeyLost s).sig = s.sig := by
  unfold rekeyLost; (repeat' split) <;> simp [foldl_sig, foldr_sig, *]

@[simp] theorem sealPop_sig (fw : Bool) (s : State) : (sealPop fw s).2.sig = s.sig := by
  unfold sealPop; (repeat' split) <;> simp [foldl_sig, foldr_sig, *]

@[simp] theorem slotErase_sig (v : Word) (s : State) : (slotErase v s).sig = s.sig := by
  unfold slotErase; simp

@[simp] theorem slotSeal_sig (v : Word) (s : State) : (slotSeal v s).sig = s.sig := by
  unfold slotSeal; simp

@[simp] theorem slotStateRead_sig (s : State) : (slotStateRead s).2.sig = s.sig := by
  unfold slotStateRead; simp

@[simp] theorem clearHalt_sig (n : Nat) (t : State) : (clearHalt n t).sig = t.sig := by
  unfold clearHalt; simp

@[simp] theorem evtStore_sig (v : Word) (s : State) : (evtStore v s).sig = s.sig := by
  unfold evtStore; simp

@[simp] theorem memAccess_sig (write : Bool) (v : Word) (t : State) : (memAccess write v t).2.sig = t.sig := by
  unfold memAccess; dsimp only; (repeat' split) <;> simp [foldl_sig, foldr_sig, *]

@[simp] theorem setHalt_sig (n : Nat) (t : State) : (setHalt n t).sig = t.sig := by
  unfold setHalt; simp

@[simp] theorem fecTake_sig (s : State) (p : Nat) (ws : List (List Nat)) : (fecTake s p ws).sig = s.sig := by
  unfold fecTake; simp

@[simp] theorem hsTake_sig (s : State) (p : Nat) (l : List Byte) : (hsTake s p l).sig = s.sig := by
  unfold hsTake; simp

@[simp] theorem macTake_sig (s : State) (p : Nat) (l : List Byte) (code : Bool) : (macTake s p l code).sig = s.sig := by
  unfold macTake; dsimp only; (repeat' split) <;> simp [foldl_sig, foldr_sig, *]

@[simp] theorem allocLoStore_sig (n : Nat) (v : Word) (s : State) : (allocLoStore n v s).sig = s.sig := by
  unfold allocLoStore; simp

@[simp] theorem fnStore_sig (f : Nat) (o : Nat) (fs : List Fld) (v : Word) (s : State) : (fnStore f o fs v s).sig = s.sig := by
  unfold fnStore; simp

@[simp] theorem writeBed_sig (b : Nat) (w : Nat) (v : Word) (s : State) : (writeBed b w v s).sig = s.sig := by
  unfold writeBed; (repeat' split) <;> simp [foldl_sig, foldr_sig, *]

@[simp] theorem holeOf_sig (src : Src) (s : State) : (holeOf src s).sig = s.sig := by
  unfold holeOf; (repeat' split) <;> simp [foldl_sig, foldr_sig, *]

@[simp] theorem storeMode_sig (a : Nat) (fs : List Fld) (v : Word) (s : State) : (storeMode a fs v s).sig = s.sig := by
  unfold storeMode; (repeat' split) <;> simp [foldl_sig, foldr_sig, *]

@[simp] theorem storeTrig_sig (n : Nat) (o : Nat) (fs : List Fld) (v : Word) (s : State) : (storeTrig n o fs v s).sig = s.sig := by
  unfold storeTrig; simp

@[simp] theorem sprDataStore_sig (w : Nat) (v : Word) (s : State) : (sprDataStore w v s).sig = s.sig := by
  unfold sprDataStore; (repeat' split) <;> simp_all [foldl_sig, foldr_sig]

@[simp] theorem storeTime_sig (a : Nat) (fs : List Fld) (v : Word) (s : State) : (storeTime a fs v s).sig = s.sig := by
  unfold storeTime; (repeat' split) <;> simp [foldl_sig, foldr_sig, *]

@[simp] theorem storeLine_sig (a : Nat) (fs : List Fld) (v : Word) (s : State) : (storeLine a fs v s).sig = s.sig := by
  unfold storeLine; (repeat' split) <;> simp [foldl_sig, foldr_sig, *]

@[simp] theorem joinStore_sig (v : Word) (s : State) : (joinStore v s).sig = s.sig := by
  unfold joinStore; simp

@[simp] theorem svLockStore_sig (o : Nat) (v : Word) (s : State) : (svLockStore o v s).sig = s.sig := by
  unfold svLockStore; simp

@[simp] theorem storeSieve_sig (o : Nat) (a : Nat) (fs : List Fld) (v : Word) (s : State) : (storeSieve o a fs v s).sig = s.sig := by
  unfold storeSieve; (repeat' split) <;> simp [foldl_sig, foldr_sig, *]

@[simp] theorem gateCtrlStore_sig (g : Nat) (v : Word) (s : State) : (gateCtrlStore g v s).sig = s.sig := by
  unfold gateCtrlStore; simp

@[simp] theorem storeSched_sig (a : Nat) (fs : List Fld) (v : Word) (s : State) : (storeSched a fs v s).sig = s.sig := by
  unfold storeSched; (repeat' split) <;> simp [foldl_sig, foldr_sig, *]

@[simp] theorem storeCipher_sig (src : Src) (a : Nat) (fs : List Fld) (v : Word) (s : State) : (storeCipher src a fs v s).sig = s.sig := by
  unfold storeCipher; (repeat' split) <;> simp [foldl_sig, foldr_sig, *]

@[simp] theorem coreCtrlStore_sig (n : Nat) (v : Word) (s : State) : (coreCtrlStore n v s).sig = s.sig := by
  unfold coreCtrlStore; simp

@[simp] theorem storeTrowel_sig (a : Nat) (fs : List Fld) (v : Word) (s : State) : (storeTrowel a fs v s).sig = s.sig := by
  unfold storeTrowel; (repeat' split) <;> simp [foldl_sig, foldr_sig, *]

@[simp] theorem storeMvCh_sig (src : Src) (n : Nat) (o : Nat) (fs : List Fld) (v : Word) (s : State) : (storeMvCh src n o fs v s).sig = s.sig := by
  unfold storeMvCh; simp

@[simp] theorem storeMover_sig (src : Src) (a : Nat) (fs : List Fld) (v : Word) (s : State) : (storeMover src a fs v s).sig = s.sig := by
  unfold storeMover; simp

@[simp] theorem storeRake_sig (a : Nat) (fs : List Fld) (v : Word) (s : State) : (storeRake a fs v s).sig = s.sig := by
  unfold storeRake; (repeat' split) <;> simp [foldl_sig, foldr_sig, *]

@[simp] theorem storeHost_sig (a : Nat) (fs : List Fld) (v : Word) (s : State) : (storeHost a fs v s).sig = s.sig := by
  unfold storeHost; (repeat' split) <;> simp [foldl_sig, foldr_sig, *]

@[simp] theorem storeTrellis_sig (a : Nat) (fs : List Fld) (v : Word) (s : State) : (storeTrellis a fs v s).sig = s.sig := by
  unfold storeTrellis; simp

@[simp] theorem railStore_sig (r : Nat) (v : Word) (s : State) : (railStore r v s).sig = s.sig := by
  unfold railStore; simp

@[simp] theorem clearRc_sig (s : State) (fs : List Fld) : (clearRc s fs).sig = s.sig := by
  unfold clearRc; (repeat' split) <;> simp [foldl_sig, foldr_sig, *]

@[simp] theorem fetchReg_sig (src : Src) (a : Nat) (fs : List Fld) (s : State) : (fetchReg src a fs s).2.sig = s.sig := by
  unfold fetchReg; (repeat' split) <;> simp [foldl_sig, foldr_sig, *]

@[simp] theorem holeTake_sig (f : Nat) (off : Nat) (write : Bool) (s : State) : (holeTake f off write s).sig = s.sig := by
  unfold holeTake; simp

@[simp] theorem readBedt_sig (b : Nat) (w : Nat) (s : State) : (readBedt b w s).2.sig = s.sig := by
  unfold readBedt; (repeat' split) <;> simp [foldl_sig, foldr_sig, *]

@[simp] theorem readFn_sig (f : Nat) (o : Nat) (fs : List Fld) (s : State) : (readFn f o fs s).2.sig = s.sig := by
  unfold readFn; (repeat' split) <;> simp [foldl_sig, foldr_sig, *]

@[simp] theorem readBed_sig (b : Nat) (w : Nat) (s : State) : (readBed b w s).2.sig = s.sig := by
  unfold readBed; (repeat' split) <;> simp [foldl_sig, foldr_sig, *]

@[simp] theorem readMain_sig (src : Src) (a : Nat) (s : State) : (readMain src a s).2.sig = s.sig := by
  unfold readMain; (repeat' split) <;> simp [foldl_sig, foldr_sig, *]

@[simp] theorem readAt_sig (src : Src) (off : Nat) (s : State) : (readAt src off s).2.sig = s.sig := by
  unfold readAt; dsimp only; (repeat' split) <;> simp [foldl_sig, foldr_sig, *]

@[simp] theorem readInto_sig (src : Src) (off : Nat) (s : State) : (readInto src off s).sig = s.sig := by
  unfold readInto; simp

@[simp] theorem bootRails_sig (off : Nat) (l : List Byte) (s : State) : (bootRails off l s).sig = s.sig := by
  unfold bootRails; (repeat' split) <;> simp [foldl_sig, foldr_sig, *]

@[simp] theorem bootCommit_sig (s : State) : (bootCommit s).sig = s.sig := by
  unfold bootCommit; simp

@[simp] theorem bootCores_sig (s : State) : (bootCores s).sig = s.sig := by
  unfold bootCores; (repeat' split) <;> simp [foldl_sig, foldr_sig, *]

@[simp] theorem moverLoads_sig (b : Nat) (s : State) : (moverLoads b s).sig = s.sig := by
  unfold moverLoads; (repeat' split) <;> simp_all [foldl_sig, foldr_sig]

@[simp] theorem bootRecord_sig (s : State) (l : List Byte) : (bootRecord s l).sig = s.sig := by
  unfold bootRecord; simp

@[simp] theorem bootRecords_sig (n : Nat) (y0 : List (List Byte)) (y1 : State) : (bootRecords n y0 y1).sig = y1.sig := by
  induction y0 generalizing n y1 with
  | nil => rfl
  | cons l r ih => unfold bootRecords; simp [ih]

@[simp] theorem bootLoad_sig (b : Nat) (s : State) : (bootLoad b s).sig = s.sig := by
  unfold bootLoad; (repeat' split) <;> simp_all [foldl_sig, foldr_sig]

@[simp] theorem testFail_sig (s : State) (c : Nat) : (testFail s c).sig = s.sig := by
  unfold testFail; (repeat' split) <;> simp [foldl_sig, foldr_sig, *]

@[simp] theorem bootTime_sig (ns : Nat) (s : State) : (bootTime ns s).sig = s.sig := by
  unfold bootTime; (repeat' split) <;> simp_all [foldl_sig, foldr_sig]

@[simp] theorem crcFails_sig (n : Nat) (s : State) : (crcFails n s).sig = s.sig := by
  unfold crcFails; (repeat' split) <;> simp_all [foldl_sig, foldr_sig]

@[simp] theorem devRead_sig (src : Src) (o : Nat) (s : State) : (devRead src o s).2.sig = s.sig := by
  unfold devRead; (repeat' split) <;> simp [foldl_sig, foldr_sig, *]

@[simp] theorem devReads_sig (src : Src) (n : Nat) (o : Nat) (s : State) : (devReads src n o s).2.sig = s.sig := by
  induction n generalizing s o with
  | zero => rfl
  | succ m ih => unfold devReads; simp [ih]

@[simp] theorem hostFail_sig (host : Bool) (s : State) : (hostFail host s).sig = s.sig := by
  unfold hostFail; (repeat' split) <;> simp_all [foldl_sig, foldr_sig]

@[simp] theorem mvFail_sig (n : Nat) (cause : Nat) (s : State) : (mvFail n cause s).sig = s.sig := by
  unfold mvFail; simp

@[simp] theorem mvEvent_sig (n : Nat) (d : List Nat) (s : State) : (mvEvent n d s).sig = s.sig := by
  unfold mvEvent; (repeat' split) <;> simp [foldl_sig, foldr_sig, *]

@[simp] theorem mvFollow_sig (n : Nat) (link : Nat) (s : State) : (mvFollow n link s).sig = s.sig := by
  unfold mvFollow; simp

@[simp] theorem mvComplete_sig (h : List HostSeg) (s : State) : (mvComplete h s).sig = s.sig := by
  unfold mvComplete; (repeat' split) <;> simp [foldl_sig, foldr_sig, *]

@[simp] theorem mvError_sig (s : State) : (mvError s).sig = s.sig := by
  unfold mvError; (repeat' split) <;> simp [foldl_sig, foldr_sig, *]

@[simp] theorem mvFetch_sig (h : List HostSeg) (src : Src) (a : Nat) (n : Nat) (s : State) : (mvFetch h src a n s).2.sig = s.sig := by
  unfold mvFetch; (repeat' split) <;> simp [foldl_sig, foldr_sig, *]

@[simp] theorem mvKeep_sig (crc : Nat) (recs : List (List Byte)) (s : State) : (mvKeep crc recs s).sig = s.sig := by
  unfold mvKeep; (repeat' split) <;> simp [foldl_sig, foldr_sig, *]

@[simp] theorem mvRun_sig (n : Nat) (d : List Nat) (cut : Bool) (s : State) : (mvRun n d cut s).sig = s.sig := by
  unfold mvRun; simp

@[simp] theorem mvSettle_sig (h : List HostSeg) (n : Nat) (s : State) : (mvSettle h n s).sig = s.sig := by
  unfold mvSettle; simp

@[simp] theorem assistRead_sig (o : Nat) (s : State) : (assistRead o s).2.sig = s.sig := by
  unfold assistRead; (repeat' split) <;> simp [foldl_sig, foldr_sig, *]

@[simp] theorem p384Go_sig (c : Nat) (s : State) : (p384Go c s).sig = s.sig := by
  unfold p384Go; simp

@[simp] theorem assistWrite_sig (o : Nat) (v : Nat) (s : State) : (assistWrite o v s).sig = s.sig := by
  unfold assistWrite; simp

@[simp] theorem coreOn_sig (n : Nat) (f : Core → Core) (s : State) : (coreOn n f s).sig = s.sig := by
  unfold coreOn; simp

@[simp] theorem onAccess_sig (op : Nat) (w : Nat) (n : Nat) (d : Nat) (a : Nat) (m : Nat) (load : Bool) (s : State) (go : State → Core → Nat → Option Nat → State) (hgo : ∀ x0 x1 x2 x3, (go x0 x1 x2 x3).sig = x0.sig) : (onAccess op w n d a m load s go).sig = s.sig := by
  unfold onAccess
  refine onCore_sig _ _ _ fun t k => ?_
  (repeat' split) <;> simp [hgo]

@[simp] theorem loadPart_sig (n : Nat) (a : Nat) (w : Nat) (s : State) : (loadPart n a w s).2.sig = s.sig := by
  unfold loadPart; (repeat' split) <;> simp [foldl_sig, foldr_sig, *]

@[simp] theorem loadOp_sig (op : Nat) (w : Nat) (ext : Nat → Nat) (n : Nat) (d : Nat) (a : Nat) (m : Nat) (s : State) : (loadOp op w ext n d a m s).sig = s.sig := by
  unfold loadOp; simp

@[simp] theorem loadWords_sig (n : Nat) (y0 : List Nat) (y1 : State) : (loadWords n y0 y1).2.sig = y1.sig := by
  induction y0 generalizing y1 with
  | nil => rfl
  | cons a r ih => unfold loadWords; simp [ih]

@[simp] theorem p384Ask_sig (n : Nat) (c : Nat) (s : State) : (p384Ask n c s).sig = s.sig := by
  unfold p384Ask; simp

@[simp] theorem p384End_sig (r : Nat) (o : Nat) (l : List Byte) (s : State) : (p384End r o l s).sig = s.sig := by
  unfold p384End; simp

@[simp] theorem p384Ecdh_sig (s : State) : (p384Ecdh s).sig = s.sig := by
  unfold p384Ecdh; (repeat' split) <;> simp [foldl_sig, foldr_sig, *]

@[simp] theorem p384Complete_sig (s : State) : (p384Complete s).sig = s.sig := by
  unfold p384Complete; (repeat' split) <;> simp [foldl_sig, foldr_sig, *]

@[simp] theorem putMem_sig (n : Nat) (a : Nat) (l : List Byte) (s : State) : (putMem n a l s).sig = s.sig := by
  unfold putMem; simp


/-- From s to t the fuses only went forward, and the queue is as it was. -/
def Grow (s t : State) : Prop := fusesFrom s.fuses t.fuses ∧ t.pending = s.pending

theorem fusesFrom_refl (a : Fuses) : fusesFrom a a := ⟨rfl, rfl, rfl, rfl, rfl, rfl, rfl, rfl, le_refl _, fun _ h => h⟩

theorem fusesFrom_trans {a b c : Fuses} (h : fusesFrom a b) (g : fusesFrom b c) : fusesFrom a c := by
  obtain ⟨h1, h2, h3, h4, h5, h6, h7, h8, h9, h10⟩ := h
  obtain ⟨g1, g2, g3, g4, g5, g6, g7, g8, g9, g10⟩ := g
  exact ⟨g1.trans h1, g2.trans h2, g3.trans h3, g4.trans h4, g5.trans h5, g6.trans h6, g7.trans h7, g8.trans h8,
    le_trans h9 g9, fun k hk => g10 k (h10 k hk)⟩

theorem grow_of_sig {s t : State} (h : t.sig = s.sig) : Grow s t := by
  simp only [State.sig, Prod.mk.injEq] at h
  exact ⟨h.1 ▸ fusesFrom_refl _, h.2⟩

theorem Grow.trans {s t u : State} (h : Grow s t) (g : Grow t u) : Grow s u :=
  ⟨fusesFrom_trans h.1 g.1, g.2.trans h.2⟩

theorem grow_congr {s t u : State} (h : Grow s t) (g : u.sig = t.sig) : Grow s u := h.trans (grow_of_sig g)

theorem grow_from {s t u : State} (h : t.sig = s.sig) (g : Grow t u) : Grow s u := (grow_of_sig h).trans g

theorem foldl_grow {β : Type} (g : State → β → State) (h : ∀ t b, Grow t (g t b)) (l : List β) (s : State) :
    Grow s (l.foldl g s) := by
  induction l generalizing s with
  | nil => exact grow_of_sig rfl
  | cons b r ih => exact (h s b).trans (ih _)

theorem bitAt_testBit (x k : Nat) : bitAt x k = x.testBit k := by
  simp only [bitAt, Nat.testBit_eq_decide_div_mod_eq]

theorem bitAt_lor (a b k : Nat) (h : bitAt a k = true) : bitAt (Nat.lor a b) k = true := by
  rw [bitAt_testBit] at h ⊢
  show (a ||| b).testBit k = true
  simp [h]

theorem fuseUp_grow (ok : Bool) (s : State) : Grow s (fuseUp ok s) := by
  unfold fuseUp
  dsimp only
  split
  · exact grow_of_sig (by simp)
  · next h =>
    refine Grow.trans (Grow.trans ?_ (grow_of_sig (wr_sig _ _ _))) (grow_of_sig (wr_sig _ _ _))
    refine ⟨⟨rfl, rfl, rfl, rfl, rfl, rfl, rfl, rfl, ?_, fun _ h => h⟩, rfl⟩
    simp only [not_or, not_le] at h
    show s.fuses.floor ≤ ite _ _ _
    split <;> omega

theorem fuseOff_grow (k : Nat) (ok : Bool) (s : State) : Grow s (fuseOff k ok s) := by
  unfold fuseOff
  dsimp only
  split
  · exact grow_of_sig (by simp)
  · refine Grow.trans (Grow.trans ?_ (grow_of_sig (wr_sig _ _ _))) (grow_of_sig (wr_sig _ _ _))
    refine ⟨⟨rfl, rfl, rfl, rfl, rfl, rfl, rfl, rfl, le_refl _, fun j hj => ?_⟩, rfl⟩
    show bitAt (ite _ _ _) j = true
    split
    · exact bitAt_lor _ _ _ hj
    · exact hj

theorem fuseStore_grow (v : Word) (ok : Bool) (s : State) : Grow s (fuseStore v ok s) := by
  have h1 : Grow s (wr s BOOT_FUSE.KEY (fldOf BOOT_FUSE.KEY v)) := grow_of_sig (by simp)
  unfold fuseStore
  dsimp only
  split <;> split
  · exact (h1.trans (fuseUp_grow _ _)).trans (fuseOff_grow _ _ _)
  · exact h1.trans (fuseOff_grow _ _ _)
  · exact h1.trans (fuseUp_grow _ _)
  · exact h1

theorem storeMgmt_grow (src : Src) (a : Nat) (fs : List Fld) (v : Word) (s : State) : Grow s (storeMgmt src a fs v s) := by
  unfold storeMgmt
  split
  · exact grow_from (useFree_sig s) (fuseStore_grow _ _ _)
  · refine grow_of_sig ?_
    (repeat' split) <;> simp

theorem storeReg_grow (src : Src) (a : Nat) (fs : List Fld) (v : Word) (s : State) : Grow s (storeReg src a fs v s) := by
  unfold storeReg
  split
  case h_14 => exact storeMgmt_grow _ _ _ _ _
  all_goals (refine grow_of_sig ?_; first | simp | (split <;> simp))

theorem writeMain_grow (src : Src) (a : Nat) (v : Word) (s : State) : Grow s (writeMain src a v s) := by
  unfold writeMain
  split
  · exact grow_of_sig (by split <;> simp)
  · split
    · split
      · exact storeReg_grow _ _ _ _ _
      · exact grow_of_sig rfl
    · exact grow_of_sig (by simp)

theorem applyWrite_grow (src : Src) (off : Nat) (v : Word) (s : State) : Grow s (applyWrite src off v s) := by
  unfold applyWrite
  dsimp only
  split
  · refine grow_of_sig ?_
    (repeat' split) <;> simp
  · exact writeMain_grow _ _ _ _

theorem bootPair_grow (s : State) (l : List Byte) : Grow s (bootPair s l) := by
  unfold bootPair
  dsimp only
  split
  · exact applyWrite_grow _ _ _ _
  · exact grow_of_sig rfl

theorem bootApply_grow (b off : Nat) (s : State) : Grow s (bootApply b off s) := by
  have h : Grow s ((pieces 8 (bootBytes s b 2)).foldl bootPair (bootRails off (bootBytes s b 1) s)) :=
    grow_from (bootRails_sig _ _ _) (foldl_grow _ bootPair_grow _ _)
  unfold bootApply
  dsimp only
  refine grow_congr h ?_
  split <;> simp

theorem bootTry_grow (bad : Nat → Bool) (g : Nat → Nat → Nat) (off ns : Nat) (l : List Nat) (s : State) :
    Grow s (bootTry bad g off ns l s) := by
  induction l generalizing ns s with
  | nil => exact grow_of_sig (by simp [bootTry])
  | cons b r ih =>
    unfold bootTry
    dsimp only
    split
    · exact grow_from (by simp) (bootApply_grow _ _ _)
    · exact grow_from (by simp) (ih _ _)

theorem bootRun_grow (fails : List Nat) (rdA rdB : Bool) (off : Nat) (s : State) : Grow s (bootRun fails rdA rdB off s) := by
  unfold bootRun
  refine grow_from ?_ (bootTry_grow _ _ _ _ _ _)
  simp [foldl_sig]

theorem startUp_grow (fails : List Nat) (rdA rdB : Bool) (off : Nat) (s : State) : Grow s (startUp fails rdA rdB off s) := by
  unfold startUp
  split
  · exact bootRun_grow _ _ _ _ _
  · exact grow_of_sig rfl

theorem devWrite_grow (src : Src) (o v : Nat) (s : State) : Grow s (devWrite src o v s) := by
  unfold devWrite
  split
  · exact applyWrite_grow _ _ _ _
  · exact grow_of_sig rfl

theorem devWrites_grow (src : Src) (n o : Nat) (l : List Byte) (s : State) : Grow s (devWrites src n o l s) := by
  induction n generalizing o l s with
  | zero => exact grow_of_sig rfl
  | succ m ih => exact (devWrite_grow _ _ _ _).trans (ih _ _ _)

theorem devCopy_grow (src : Src) (n a b : Nat) (s : State) : Grow s (devCopy src n a b s).2 := by
  induction n generalizing a b s with
  | zero => exact grow_of_sig rfl
  | succ m ih => exact (grow_from (devRead_sig _ _ _) (devWrite_grow _ _ _ _)).trans (ih _ _ _)

theorem mvPut_grow (src : Src) (a : Nat) (l : List Byte) (s : State) : Grow s (mvPut src a l s) := by
  unfold mvPut
  dsimp only
  split
  · exact grow_of_sig rfl
  · split
    case h_4 => exact devWrites_grow _ _ _ _ _
    all_goals exact grow_of_sig (by simp)

theorem mvPass_grow (h : List HostSeg) (src : Src) (k : Nat) (d : List Nat) (s : State) : Grow s (mvPass h src k d s).2 := by
  unfold mvPass
  split
  · exact devCopy_grow _ _ _ _ _
  · dsimp only
    refine grow_from ?_ (mvPut_grow _ _ _ _)
    split
    · rfl
    · exact mvFetch_sig _ _ _ _ _

theorem mvMove_grow (h : List HostSeg) (stop : Option Nat) (n : Nat) (d : List Nat) (s : State) :
    Grow s (mvMove h stop n d s) := by
  unfold mvMove
  dsimp only
  refine grow_congr ?_ (mvKeep_sig _ _ _)
  have hx : ∀ k, Grow s (mvPass h (starterSrc s n) k d (mvRun n d stop.isSome s)).2 := fun k =>
    grow_from (mvRun_sig _ _ _ _) (mvPass_grow _ _ _ _ _)
  have hi : ∀ (c : Bool) k a l, Grow s (if c then mvPut (starterSrc s n) a l (mvPass h (starterSrc s n) k d (mvRun n d stop.isSome s)).2
      else (mvPass h (starterSrc s n) k d (mvRun n d stop.isSome s)).2) := by
    intro c k a l
    cases c
    · exact hx k
    · exact (hx k).trans (mvPut_grow _ _ _ _)
  exact hi _ _ _ _

theorem mvTake_grow (op : Nat) (h : List HostSeg) (stop : Option Nat) (s : State) : Grow s (mvTake op h stop s) := by
  unfold mvTake
  split
  · split
    · exact grow_of_sig rfl
    · dsimp only
      split
      · exact grow_of_sig (by simp)
      · split
        · exact grow_of_sig (by simp)
        · split
          · exact grow_of_sig (by simp)
          · split
            · exact grow_from (by simp) (mvMove_grow _ _ _ _ _)
            · exact grow_of_sig rfl
  · exact grow_of_sig rfl

theorem mvRecord_grow (s : State) : Grow s (mvRecord s) := by
  unfold mvRecord
  split
  · split
    · split
      · exact grow_of_sig rfl
      · exact grow_from (by simp) (devWrites_grow _ _ _ _ _)
    · exact grow_of_sig rfl
  · exact grow_of_sig rfl

theorem storePart_grow (n a w v : Nat) (s : State) : Grow s (storePart n a w v s) := by
  unfold storePart
  split
  · exact applyWrite_grow _ _ _ _
  · split <;> exact grow_of_sig (by simp)

theorem storeWords_grow (n : Nat) (l : List (Nat × Nat)) (s : State) : Grow s (storeWords n l s) := by
  induction l generalizing s with
  | nil => exact grow_of_sig rfl
  | cons e r ih => exact (storePart_grow _ _ _ _ _).trans (ih _)

theorem onCore_grow (s : State) (n : Nat) (f : State → Core → State) (h : ∀ t k, Grow t (f t k)) : Grow s (onCore s n f) := by
  unfold onCore
  split
  · dsimp only
    split
    · exact grow_of_sig (by simp)
    · split
      · exact grow_of_sig (by simp)
      · exact h _ _
  · exact grow_of_sig rfl

theorem onAccess_grow (op w n d a m : Nat) (load : Bool) (s : State) (go : State → Core → Nat → Option Nat → State)
    (h : ∀ t k p b, Grow t (go t k p b)) : Grow s (onAccess op w n d a m load s go) := by
  unfold onAccess
  refine onCore_grow _ _ _ fun t k => ?_
  split
  · exact grow_of_sig (by simp)
  · split
    · exact grow_of_sig (by simp)
    · split
      · exact grow_of_sig (by simp)
      · exact h _ _ _ _

theorem storeOp_grow (op w n d a m : Nat) (s : State) : Grow s (storeOp op w n d a m s) := by
  unfold storeOp
  exact onAccess_grow _ _ _ _ _ _ _ _ _ fun t k p b => Grow.trans (storePart_grow _ _ _ _ t) (grow_of_sig (coreOn_sig _ _ _))

end Sys2Proof.Machine
end

