-- ==== Sys2Proof/Laws/State.lean ====
section
/-!
SUPPORT. What each shared update of the state leaves in each field, so that no proof unfolds a record update.
-/

namespace Sys2Proof.Machine

@[simp] theorem wr_regs (s : State) (f : Fld) (v : Nat) : (wr s f v).regs = s.regs.set f.key (v % 2 ^ f.width) f.rst := rfl
@[simp] theorem wr_fuses (s : State) (f : Fld) (v : Nat) : (wr s f v).fuses = s.fuses := rfl
@[simp] theorem wr_line (s : State) (f : Fld) (v : Nat) : (wr s f v).line = s.line := rfl
@[simp] theorem wr_hunts (s : State) (f : Fld) (v : Nat) : (wr s f v).hunts = s.hunts := rfl
@[simp] theorem wr_trellis (s : State) (f : Fld) (v : Nat) : (wr s f v).trellis = s.trellis := rfl
@[simp] theorem wr_burst (s : State) (f : Fld) (v : Nat) : (wr s f v).burst = s.burst := rfl
@[simp] theorem wr_join (s : State) (f : Fld) (v : Nat) : (wr s f v).join = s.join := rfl
@[simp] theorem wr_time (s : State) (f : Fld) (v : Nat) : (wr s f v).time = s.time := rfl
@[simp] theorem wr_cipher (s : State) (f : Fld) (v : Nat) : (wr s f v).cipher = s.cipher := rfl
@[simp] theorem wr_power (s : State) (f : Fld) (v : Nat) : (wr s f v).power = s.power := rfl
@[simp] theorem wr_cores (s : State) (f : Fld) (v : Nat) : (wr s f v).cores = s.cores := rfl
@[simp] theorem wr_common (s : State) (f : Fld) (v : Nat) : (wr s f v).common = s.common := rfl
@[simp] theorem wr_phys (s : State) (f : Fld) (v : Nat) : (wr s f v).phys = s.phys := rfl
@[simp] theorem wr_p384 (s : State) (f : Fld) (v : Nat) : (wr s f v).p384 = s.p384 := rfl
@[simp] theorem wr_rake (s : State) (f : Fld) (v : Nat) : (wr s f v).rake = s.rake := rfl
@[simp] theorem wr_lane (s : State) (f : Fld) (v : Nat) : (wr s f v).lane = s.lane := rfl
@[simp] theorem wr_spr (s : State) (f : Fld) (v : Nat) : (wr s f v).spr = s.spr := rfl
@[simp] theorem wr_sieve (s : State) (f : Fld) (v : Nat) : (wr s f v).sieve = s.sieve := rfl
@[simp] theorem wr_sched (s : State) (f : Fld) (v : Nat) : (wr s f v).sched = s.sched := rfl
@[simp] theorem wr_boot (s : State) (f : Fld) (v : Nat) : (wr s f v).boot = s.boot := rfl
@[simp] theorem wr_mgmt (s : State) (f : Fld) (v : Nat) : (wr s f v).mgmt = s.mgmt := rfl
@[simp] theorem wr_mover (s : State) (f : Fld) (v : Nat) : (wr s f v).mover = s.mover := rfl
@[simp] theorem wr_rakeIn (s : State) (f : Fld) (v : Nat) : (wr s f v).rakeIn = s.rakeIn := rfl
@[simp] theorem wr_rakeEnds (s : State) (f : Fld) (v : Nat) : (wr s f v).rakeEnds = s.rakeEnds := rfl
@[simp] theorem wr_nqIn (s : State) (f : Fld) (v : Nat) : (wr s f v).nqIn = s.nqIn := rfl
@[simp] theorem wr_freeCtr (s : State) (f : Fld) (v : Nat) : (wr s f v).freeCtr = s.freeCtr := rfl
@[simp] theorem wr_readData (s : State) (f : Fld) (v : Nat) : (wr s f v).readData = s.readData := rfl
@[simp] theorem wr_out (s : State) (f : Fld) (v : Nat) : (wr s f v).out = s.out := rfl
@[simp] theorem wr_pending (s : State) (f : Fld) (v : Nat) : (wr s f v).pending = s.pending := rfl

@[simp] theorem setFlag_regs (s : State) (f : Fld) (b : Bool) : (setFlag s f b).regs = s.regs.set f.key (b2n b % 2 ^ f.width) f.rst := rfl
@[simp] theorem setFlag_fuses (s : State) (f : Fld) (b : Bool) : (setFlag s f b).fuses = s.fuses := rfl
@[simp] theorem setFlag_line (s : State) (f : Fld) (b : Bool) : (setFlag s f b).line = s.line := rfl
@[simp] theorem setFlag_hunts (s : State) (f : Fld) (b : Bool) : (setFlag s f b).hunts = s.hunts := rfl
@[simp] theorem setFlag_trellis (s : State) (f : Fld) (b : Bool) : (setFlag s f b).trellis = s.trellis := rfl
@[simp] theorem setFlag_burst (s : State) (f : Fld) (b : Bool) : (setFlag s f b).burst = s.burst := rfl
@[simp] theorem setFlag_join (s : State) (f : Fld) (b : Bool) : (setFlag s f b).join = s.join := rfl
@[simp] theorem setFlag_time (s : State) (f : Fld) (b : Bool) : (setFlag s f b).time = s.time := rfl
@[simp] theorem setFlag_cipher (s : State) (f : Fld) (b : Bool) : (setFlag s f b).cipher = s.cipher := rfl
@[simp] theorem setFlag_power (s : State) (f : Fld) (b : Bool) : (setFlag s f b).power = s.power := rfl
@[simp] theorem setFlag_cores (s : State) (f : Fld) (b : Bool) : (setFlag s f b).cores = s.cores := rfl
@[simp] theorem setFlag_common (s : State) (f : Fld) (b : Bool) : (setFlag s f b).common = s.common := rfl
@[simp] theorem setFlag_phys (s : State) (f : Fld) (b : Bool) : (setFlag s f b).phys = s.phys := rfl
@[simp] theorem setFlag_p384 (s : State) (f : Fld) (b : Bool) : (setFlag s f b).p384 = s.p384 := rfl
@[simp] theorem setFlag_rake (s : State) (f : Fld) (b : Bool) : (setFlag s f b).rake = s.rake := rfl
@[simp] theorem setFlag_lane (s : State) (f : Fld) (b : Bool) : (setFlag s f b).lane = s.lane := rfl
@[simp] theorem setFlag_spr (s : State) (f : Fld) (b : Bool) : (setFlag s f b).spr = s.spr := rfl
@[simp] theorem setFlag_sieve (s : State) (f : Fld) (b : Bool) : (setFlag s f b).sieve = s.sieve := rfl
@[simp] theorem setFlag_sched (s : State) (f : Fld) (b : Bool) : (setFlag s f b).sched = s.sched := rfl
@[simp] theorem setFlag_boot (s : State) (f : Fld) (b : Bool) : (setFlag s f b).boot = s.boot := rfl
@[simp] theorem setFlag_mgmt (s : State) (f : Fld) (b : Bool) : (setFlag s f b).mgmt = s.mgmt := rfl
@[simp] theorem setFlag_mover (s : State) (f : Fld) (b : Bool) : (setFlag s f b).mover = s.mover := rfl
@[simp] theorem setFlag_rakeIn (s : State) (f : Fld) (b : Bool) : (setFlag s f b).rakeIn = s.rakeIn := rfl
@[simp] theorem setFlag_rakeEnds (s : State) (f : Fld) (b : Bool) : (setFlag s f b).rakeEnds = s.rakeEnds := rfl
@[simp] theorem setFlag_nqIn (s : State) (f : Fld) (b : Bool) : (setFlag s f b).nqIn = s.nqIn := rfl
@[simp] theorem setFlag_freeCtr (s : State) (f : Fld) (b : Bool) : (setFlag s f b).freeCtr = s.freeCtr := rfl
@[simp] theorem setFlag_readData (s : State) (f : Fld) (b : Bool) : (setFlag s f b).readData = s.readData := rfl
@[simp] theorem setFlag_out (s : State) (f : Fld) (b : Bool) : (setFlag s f b).out = s.out := rfl
@[simp] theorem setFlag_pending (s : State) (f : Fld) (b : Bool) : (setFlag s f b).pending = s.pending := rfl

@[simp] theorem emit_regs (s : State) (o : Output) : (emit s o).regs = s.regs := rfl
@[simp] theorem emit_fuses (s : State) (o : Output) : (emit s o).fuses = s.fuses := rfl
@[simp] theorem emit_line (s : State) (o : Output) : (emit s o).line = s.line := rfl
@[simp] theorem emit_hunts (s : State) (o : Output) : (emit s o).hunts = s.hunts := rfl
@[simp] theorem emit_trellis (s : State) (o : Output) : (emit s o).trellis = s.trellis := rfl
@[simp] theorem emit_burst (s : State) (o : Output) : (emit s o).burst = s.burst := rfl
@[simp] theorem emit_join (s : State) (o : Output) : (emit s o).join = s.join := rfl
@[simp] theorem emit_time (s : State) (o : Output) : (emit s o).time = s.time := rfl
@[simp] theorem emit_cipher (s : State) (o : Output) : (emit s o).cipher = s.cipher := rfl
@[simp] theorem emit_power (s : State) (o : Output) : (emit s o).power = s.power := rfl
@[simp] theorem emit_cores (s : State) (o : Output) : (emit s o).cores = s.cores := rfl
@[simp] theorem emit_common (s : State) (o : Output) : (emit s o).common = s.common := rfl
@[simp] theorem emit_phys (s : State) (o : Output) : (emit s o).phys = s.phys := rfl
@[simp] theorem emit_p384 (s : State) (o : Output) : (emit s o).p384 = s.p384 := rfl
@[simp] theorem emit_rake (s : State) (o : Output) : (emit s o).rake = s.rake := rfl
@[simp] theorem emit_lane (s : State) (o : Output) : (emit s o).lane = s.lane := rfl
@[simp] theorem emit_spr (s : State) (o : Output) : (emit s o).spr = s.spr := rfl
@[simp] theorem emit_sieve (s : State) (o : Output) : (emit s o).sieve = s.sieve := rfl
@[simp] theorem emit_sched (s : State) (o : Output) : (emit s o).sched = s.sched := rfl
@[simp] theorem emit_boot (s : State) (o : Output) : (emit s o).boot = s.boot := rfl
@[simp] theorem emit_mgmt (s : State) (o : Output) : (emit s o).mgmt = s.mgmt := rfl
@[simp] theorem emit_mover (s : State) (o : Output) : (emit s o).mover = s.mover := rfl
@[simp] theorem emit_rakeIn (s : State) (o : Output) : (emit s o).rakeIn = s.rakeIn := rfl
@[simp] theorem emit_rakeEnds (s : State) (o : Output) : (emit s o).rakeEnds = s.rakeEnds := rfl
@[simp] theorem emit_nqIn (s : State) (o : Output) : (emit s o).nqIn = s.nqIn := rfl
@[simp] theorem emit_freeCtr (s : State) (o : Output) : (emit s o).freeCtr = s.freeCtr := rfl
@[simp] theorem emit_readData (s : State) (o : Output) : (emit s o).readData = s.readData := rfl
@[simp] theorem emit_out (s : State) (o : Output) : (emit s o).out = s.out ++ [o] := rfl
@[simp] theorem emit_pending (s : State) (o : Output) : (emit s o).pending = s.pending := rfl

@[simp] theorem useFree_regs (s : State) : (useFree s).regs = s.regs := rfl
@[simp] theorem useFree_fuses (s : State) : (useFree s).fuses = s.fuses := rfl
@[simp] theorem useFree_line (s : State) : (useFree s).line = s.line := rfl
@[simp] theorem useFree_hunts (s : State) : (useFree s).hunts = s.hunts := rfl
@[simp] theorem useFree_trellis (s : State) : (useFree s).trellis = s.trellis := rfl
@[simp] theorem useFree_burst (s : State) : (useFree s).burst = s.burst := rfl
@[simp] theorem useFree_join (s : State) : (useFree s).join = s.join := rfl
@[simp] theorem useFree_time (s : State) : (useFree s).time = s.time := rfl
@[simp] theorem useFree_cipher (s : State) : (useFree s).cipher = s.cipher := rfl
@[simp] theorem useFree_power (s : State) : (useFree s).power = s.power := rfl
@[simp] theorem useFree_cores (s : State) : (useFree s).cores = s.cores := rfl
@[simp] theorem useFree_common (s : State) : (useFree s).common = s.common := rfl
@[simp] theorem useFree_phys (s : State) : (useFree s).phys = s.phys := rfl
@[simp] theorem useFree_p384 (s : State) : (useFree s).p384 = s.p384 := rfl
@[simp] theorem useFree_rake (s : State) : (useFree s).rake = s.rake := rfl
@[simp] theorem useFree_lane (s : State) : (useFree s).lane = s.lane := rfl
@[simp] theorem useFree_spr (s : State) : (useFree s).spr = s.spr := rfl
@[simp] theorem useFree_sieve (s : State) : (useFree s).sieve = s.sieve := rfl
@[simp] theorem useFree_sched (s : State) : (useFree s).sched = s.sched := rfl
@[simp] theorem useFree_boot (s : State) : (useFree s).boot = s.boot := rfl
@[simp] theorem useFree_mgmt (s : State) : (useFree s).mgmt = s.mgmt := rfl
@[simp] theorem useFree_mover (s : State) : (useFree s).mover = s.mover := rfl
@[simp] theorem useFree_rakeIn (s : State) : (useFree s).rakeIn = s.rakeIn := rfl
@[simp] theorem useFree_rakeEnds (s : State) : (useFree s).rakeEnds = s.rakeEnds := rfl
@[simp] theorem useFree_nqIn (s : State) : (useFree s).nqIn = s.nqIn := rfl
@[simp] theorem useFree_freeCtr (s : State) : (useFree s).freeCtr = s.freeCtr + 1 := rfl
@[simp] theorem useFree_readData (s : State) : (useFree s).readData = s.readData := rfl
@[simp] theorem useFree_out (s : State) : (useFree s).out = s.out := rfl
@[simp] theorem useFree_pending (s : State) : (useFree s).pending = s.pending := rfl

@[simp] theorem fresh_regs (s : State) : (fresh s).regs = s.regs := rfl
@[simp] theorem fresh_fuses (s : State) : (fresh s).fuses = s.fuses := rfl
@[simp] theorem fresh_line (s : State) : (fresh s).line = s.line := rfl
@[simp] theorem fresh_hunts (s : State) : (fresh s).hunts = s.hunts := rfl
@[simp] theorem fresh_trellis (s : State) : (fresh s).trellis = s.trellis := rfl
@[simp] theorem fresh_burst (s : State) : (fresh s).burst = s.burst := rfl
@[simp] theorem fresh_join (s : State) : (fresh s).join = s.join := rfl
@[simp] theorem fresh_time (s : State) : (fresh s).time = s.time := rfl
@[simp] theorem fresh_cipher (s : State) : (fresh s).cipher = s.cipher := rfl
@[simp] theorem fresh_power (s : State) : (fresh s).power = s.power := rfl
@[simp] theorem fresh_cores (s : State) : (fresh s).cores = s.cores := rfl
@[simp] theorem fresh_common (s : State) : (fresh s).common = s.common := rfl
@[simp] theorem fresh_phys (s : State) : (fresh s).phys = s.phys := rfl
@[simp] theorem fresh_p384 (s : State) : (fresh s).p384 = s.p384 := rfl
@[simp] theorem fresh_rake (s : State) : (fresh s).rake = s.rake := rfl
@[simp] theorem fresh_lane (s : State) : (fresh s).lane = s.lane := rfl
@[simp] theorem fresh_spr (s : State) : (fresh s).spr = s.spr := rfl
@[simp] theorem fresh_sieve (s : State) : (fresh s).sieve = s.sieve := rfl
@[simp] theorem fresh_sched (s : State) : (fresh s).sched = s.sched := rfl
@[simp] theorem fresh_boot (s : State) : (fresh s).boot = s.boot := rfl
@[simp] theorem fresh_mgmt (s : State) : (fresh s).mgmt = s.mgmt := rfl
@[simp] theorem fresh_mover (s : State) : (fresh s).mover = s.mover := rfl
@[simp] theorem fresh_rakeIn (s : State) : (fresh s).rakeIn = s.rakeIn := rfl
@[simp] theorem fresh_rakeEnds (s : State) : (fresh s).rakeEnds = s.rakeEnds := rfl
@[simp] theorem fresh_nqIn (s : State) : (fresh s).nqIn = s.nqIn := rfl
@[simp] theorem fresh_freeCtr (s : State) : (fresh s).freeCtr = s.freeCtr := rfl
@[simp] theorem fresh_readData (s : State) : (fresh s).readData = s.readData := rfl
@[simp] theorem fresh_out (s : State) : (fresh s).out = [] := rfl
@[simp] theorem fresh_pending (s : State) : (fresh s).pending = s.pending := rfl

@[simp] theorem putCore_regs (s : State) (n : Nat) (k : Core) : (putCore s n k).regs = s.regs := rfl
@[simp] theorem putCore_fuses (s : State) (n : Nat) (k : Core) : (putCore s n k).fuses = s.fuses := rfl
@[simp] theorem putCore_line (s : State) (n : Nat) (k : Core) : (putCore s n k).line = s.line := rfl
@[simp] theorem putCore_hunts (s : State) (n : Nat) (k : Core) : (putCore s n k).hunts = s.hunts := rfl
@[simp] theorem putCore_trellis (s : State) (n : Nat) (k : Core) : (putCore s n k).trellis = s.trellis := rfl
@[simp] theorem putCore_burst (s : State) (n : Nat) (k : Core) : (putCore s n k).burst = s.burst := rfl
@[simp] theorem putCore_join (s : State) (n : Nat) (k : Core) : (putCore s n k).join = s.join := rfl
@[simp] theorem putCore_time (s : State) (n : Nat) (k : Core) : (putCore s n k).time = s.time := rfl
@[simp] theorem putCore_cipher (s : State) (n : Nat) (k : Core) : (putCore s n k).cipher = s.cipher := rfl
@[simp] theorem putCore_power (s : State) (n : Nat) (k : Core) : (putCore s n k).power = s.power := rfl
@[simp] theorem putCore_cores (s : State) (n : Nat) (k : Core) : (putCore s n k).cores = s.cores.set n k {} := rfl
@[simp] theorem putCore_common (s : State) (n : Nat) (k : Core) : (putCore s n k).common = s.common := rfl
@[simp] theorem putCore_phys (s : State) (n : Nat) (k : Core) : (putCore s n k).phys = s.phys := rfl
@[simp] theorem putCore_p384 (s : State) (n : Nat) (k : Core) : (putCore s n k).p384 = s.p384 := rfl
@[simp] theorem putCore_rake (s : State) (n : Nat) (k : Core) : (putCore s n k).rake = s.rake := rfl
@[simp] theorem putCore_lane (s : State) (n : Nat) (k : Core) : (putCore s n k).lane = s.lane := rfl
@[simp] theorem putCore_spr (s : State) (n : Nat) (k : Core) : (putCore s n k).spr = s.spr := rfl
@[simp] theorem putCore_sieve (s : State) (n : Nat) (k : Core) : (putCore s n k).sieve = s.sieve := rfl
@[simp] theorem putCore_sched (s : State) (n : Nat) (k : Core) : (putCore s n k).sched = s.sched := rfl
@[simp] theorem putCore_boot (s : State) (n : Nat) (k : Core) : (putCore s n k).boot = s.boot := rfl
@[simp] theorem putCore_mgmt (s : State) (n : Nat) (k : Core) : (putCore s n k).mgmt = s.mgmt := rfl
@[simp] theorem putCore_mover (s : State) (n : Nat) (k : Core) : (putCore s n k).mover = s.mover := rfl
@[simp] theorem putCore_rakeIn (s : State) (n : Nat) (k : Core) : (putCore s n k).rakeIn = s.rakeIn := rfl
@[simp] theorem putCore_rakeEnds (s : State) (n : Nat) (k : Core) : (putCore s n k).rakeEnds = s.rakeEnds := rfl
@[simp] theorem putCore_nqIn (s : State) (n : Nat) (k : Core) : (putCore s n k).nqIn = s.nqIn := rfl
@[simp] theorem putCore_freeCtr (s : State) (n : Nat) (k : Core) : (putCore s n k).freeCtr = s.freeCtr := rfl
@[simp] theorem putCore_readData (s : State) (n : Nat) (k : Core) : (putCore s n k).readData = s.readData := rfl
@[simp] theorem putCore_out (s : State) (n : Nat) (k : Core) : (putCore s n k).out = s.out := rfl
@[simp] theorem putCore_pending (s : State) (n : Nat) (k : Core) : (putCore s n k).pending = s.pending := rfl

@[simp] theorem raise_regs (s : State) (e : FaultEv) : (raise s e).regs = s.regs := rfl
@[simp] theorem raise_fuses (s : State) (e : FaultEv) : (raise s e).fuses = s.fuses := rfl
@[simp] theorem raise_line (s : State) (e : FaultEv) : (raise s e).line = s.line := rfl
@[simp] theorem raise_hunts (s : State) (e : FaultEv) : (raise s e).hunts = s.hunts := rfl
@[simp] theorem raise_trellis (s : State) (e : FaultEv) : (raise s e).trellis = s.trellis := rfl
@[simp] theorem raise_burst (s : State) (e : FaultEv) : (raise s e).burst = s.burst := rfl
@[simp] theorem raise_join (s : State) (e : FaultEv) : (raise s e).join = s.join := rfl
@[simp] theorem raise_time (s : State) (e : FaultEv) : (raise s e).time = s.time := rfl
@[simp] theorem raise_cipher (s : State) (e : FaultEv) : (raise s e).cipher = s.cipher := rfl
@[simp] theorem raise_power (s : State) (e : FaultEv) : (raise s e).power = s.power := rfl
@[simp] theorem raise_cores (s : State) (e : FaultEv) : (raise s e).cores = s.cores := rfl
@[simp] theorem raise_common (s : State) (e : FaultEv) : (raise s e).common = s.common := rfl
@[simp] theorem raise_phys (s : State) (e : FaultEv) : (raise s e).phys = s.phys := rfl
@[simp] theorem raise_p384 (s : State) (e : FaultEv) : (raise s e).p384 = s.p384 := rfl
@[simp] theorem raise_rake (s : State) (e : FaultEv) : (raise s e).rake = s.rake := rfl
@[simp] theorem raise_lane (s : State) (e : FaultEv) : (raise s e).lane = s.lane := rfl
@[simp] theorem raise_spr (s : State) (e : FaultEv) : (raise s e).spr = s.spr := rfl
@[simp] theorem raise_sieve (s : State) (e : FaultEv) : (raise s e).sieve = s.sieve := rfl
@[simp] theorem raise_sched (s : State) (e : FaultEv) : (raise s e).sched = s.sched := rfl
@[simp] theorem raise_boot (s : State) (e : FaultEv) : (raise s e).boot = s.boot := rfl
@[simp] theorem raise_mgmt (s : State) (e : FaultEv) : (raise s e).mgmt = s.mgmt := rfl
@[simp] theorem raise_mover (s : State) (e : FaultEv) : (raise s e).mover = s.mover := rfl
@[simp] theorem raise_rakeIn (s : State) (e : FaultEv) : (raise s e).rakeIn = s.rakeIn ++ [{ e with cycle := s.time.c / 5 }] := rfl
@[simp] theorem raise_rakeEnds (s : State) (e : FaultEv) : (raise s e).rakeEnds = s.rakeEnds := rfl
@[simp] theorem raise_nqIn (s : State) (e : FaultEv) : (raise s e).nqIn = s.nqIn := rfl
@[simp] theorem raise_freeCtr (s : State) (e : FaultEv) : (raise s e).freeCtr = s.freeCtr := rfl
@[simp] theorem raise_readData (s : State) (e : FaultEv) : (raise s e).readData = s.readData := rfl
@[simp] theorem raise_out (s : State) (e : FaultEv) : (raise s e).out = s.out := rfl
@[simp] theorem raise_pending (s : State) (e : FaultEv) : (raise s e).pending = s.pending := rfl

@[simp] theorem endLevel_regs (s : State) (e : FaultEv) : (endLevel s e).regs = s.regs := rfl
@[simp] theorem endLevel_fuses (s : State) (e : FaultEv) : (endLevel s e).fuses = s.fuses := rfl
@[simp] theorem endLevel_line (s : State) (e : FaultEv) : (endLevel s e).line = s.line := rfl
@[simp] theorem endLevel_hunts (s : State) (e : FaultEv) : (endLevel s e).hunts = s.hunts := rfl
@[simp] theorem endLevel_trellis (s : State) (e : FaultEv) : (endLevel s e).trellis = s.trellis := rfl
@[simp] theorem endLevel_burst (s : State) (e : FaultEv) : (endLevel s e).burst = s.burst := rfl
@[simp] theorem endLevel_join (s : State) (e : FaultEv) : (endLevel s e).join = s.join := rfl
@[simp] theorem endLevel_time (s : State) (e : FaultEv) : (endLevel s e).time = s.time := rfl
@[simp] theorem endLevel_cipher (s : State) (e : FaultEv) : (endLevel s e).cipher = s.cipher := rfl
@[simp] theorem endLevel_power (s : State) (e : FaultEv) : (endLevel s e).power = s.power := rfl
@[simp] theorem endLevel_cores (s : State) (e : FaultEv) : (endLevel s e).cores = s.cores := rfl
@[simp] theorem endLevel_common (s : State) (e : FaultEv) : (endLevel s e).common = s.common := rfl
@[simp] theorem endLevel_phys (s : State) (e : FaultEv) : (endLevel s e).phys = s.phys := rfl
@[simp] theorem endLevel_p384 (s : State) (e : FaultEv) : (endLevel s e).p384 = s.p384 := rfl
@[simp] theorem endLevel_rake (s : State) (e : FaultEv) : (endLevel s e).rake = s.rake := rfl
@[simp] theorem endLevel_lane (s : State) (e : FaultEv) : (endLevel s e).lane = s.lane := rfl
@[simp] theorem endLevel_spr (s : State) (e : FaultEv) : (endLevel s e).spr = s.spr := rfl
@[simp] theorem endLevel_sieve (s : State) (e : FaultEv) : (endLevel s e).sieve = s.sieve := rfl
@[simp] theorem endLevel_sched (s : State) (e : FaultEv) : (endLevel s e).sched = s.sched := rfl
@[simp] theorem endLevel_boot (s : State) (e : FaultEv) : (endLevel s e).boot = s.boot := rfl
@[simp] theorem endLevel_mgmt (s : State) (e : FaultEv) : (endLevel s e).mgmt = s.mgmt := rfl
@[simp] theorem endLevel_mover (s : State) (e : FaultEv) : (endLevel s e).mover = s.mover := rfl
@[simp] theorem endLevel_rakeIn (s : State) (e : FaultEv) : (endLevel s e).rakeIn = s.rakeIn := rfl
@[simp] theorem endLevel_rakeEnds (s : State) (e : FaultEv) : (endLevel s e).rakeEnds = s.rakeEnds ++ [e] := rfl
@[simp] theorem endLevel_nqIn (s : State) (e : FaultEv) : (endLevel s e).nqIn = s.nqIn := rfl
@[simp] theorem endLevel_freeCtr (s : State) (e : FaultEv) : (endLevel s e).freeCtr = s.freeCtr := rfl
@[simp] theorem endLevel_readData (s : State) (e : FaultEv) : (endLevel s e).readData = s.readData := rfl
@[simp] theorem endLevel_out (s : State) (e : FaultEv) : (endLevel s e).out = s.out := rfl
@[simp] theorem endLevel_pending (s : State) (e : FaultEv) : (endLevel s e).pending = s.pending := rfl

@[simp] theorem setGen_regs (s : State) (u : RUnit) (n : Nat) : (setGen s u n).regs = s.regs := rfl
@[simp] theorem setGen_fuses (s : State) (u : RUnit) (n : Nat) : (setGen s u n).fuses = s.fuses := rfl
@[simp] theorem setGen_line (s : State) (u : RUnit) (n : Nat) : (setGen s u n).line = s.line := rfl
@[simp] theorem setGen_hunts (s : State) (u : RUnit) (n : Nat) : (setGen s u n).hunts = s.hunts := rfl
@[simp] theorem setGen_trellis (s : State) (u : RUnit) (n : Nat) : (setGen s u n).trellis = s.trellis := rfl
@[simp] theorem setGen_burst (s : State) (u : RUnit) (n : Nat) : (setGen s u n).burst = s.burst := rfl
@[simp] theorem setGen_join (s : State) (u : RUnit) (n : Nat) : (setGen s u n).join = s.join := rfl
@[simp] theorem setGen_time (s : State) (u : RUnit) (n : Nat) : (setGen s u n).time = s.time := rfl
@[simp] theorem setGen_cipher (s : State) (u : RUnit) (n : Nat) : (setGen s u n).cipher = s.cipher := rfl
@[simp] theorem setGen_power (s : State) (u : RUnit) (n : Nat) : (setGen s u n).power = s.power := rfl
@[simp] theorem setGen_cores (s : State) (u : RUnit) (n : Nat) : (setGen s u n).cores = s.cores := rfl
@[simp] theorem setGen_common (s : State) (u : RUnit) (n : Nat) : (setGen s u n).common = s.common := rfl
@[simp] theorem setGen_phys (s : State) (u : RUnit) (n : Nat) : (setGen s u n).phys = s.phys := rfl
@[simp] theorem setGen_p384 (s : State) (u : RUnit) (n : Nat) : (setGen s u n).p384 = s.p384 := rfl
@[simp] theorem setGen_rake (s : State) (u : RUnit) (n : Nat) : (setGen s u n).rake = { s.rake with gen := s.rake.gen.insert u.code n } := rfl
@[simp] theorem setGen_lane (s : State) (u : RUnit) (n : Nat) : (setGen s u n).lane = s.lane := rfl
@[simp] theorem setGen_spr (s : State) (u : RUnit) (n : Nat) : (setGen s u n).spr = s.spr := rfl
@[simp] theorem setGen_sieve (s : State) (u : RUnit) (n : Nat) : (setGen s u n).sieve = s.sieve := rfl
@[simp] theorem setGen_sched (s : State) (u : RUnit) (n : Nat) : (setGen s u n).sched = s.sched := rfl
@[simp] theorem setGen_boot (s : State) (u : RUnit) (n : Nat) : (setGen s u n).boot = s.boot := rfl
@[simp] theorem setGen_mgmt (s : State) (u : RUnit) (n : Nat) : (setGen s u n).mgmt = s.mgmt := rfl
@[simp] theorem setGen_mover (s : State) (u : RUnit) (n : Nat) : (setGen s u n).mover = s.mover := rfl
@[simp] theorem setGen_rakeIn (s : State) (u : RUnit) (n : Nat) : (setGen s u n).rakeIn = s.rakeIn := rfl
@[simp] theorem setGen_rakeEnds (s : State) (u : RUnit) (n : Nat) : (setGen s u n).rakeEnds = s.rakeEnds := rfl
@[simp] theorem setGen_nqIn (s : State) (u : RUnit) (n : Nat) : (setGen s u n).nqIn = s.nqIn := rfl
@[simp] theorem setGen_freeCtr (s : State) (u : RUnit) (n : Nat) : (setGen s u n).freeCtr = s.freeCtr := rfl
@[simp] theorem setGen_readData (s : State) (u : RUnit) (n : Nat) : (setGen s u n).readData = s.readData := rfl
@[simp] theorem setGen_out (s : State) (u : RUnit) (n : Nat) : (setGen s u n).out = s.out := rfl
@[simp] theorem setGen_pending (s : State) (u : RUnit) (n : Nat) : (setGen s u n).pending = s.pending := rfl

@[simp] theorem followShadow_regs (s : State) (u : RUnit) : (followShadow s u).regs = s.regs := rfl
@[simp] theorem followShadow_fuses (s : State) (u : RUnit) : (followShadow s u).fuses = s.fuses := rfl
@[simp] theorem followShadow_line (s : State) (u : RUnit) : (followShadow s u).line = s.line := rfl
@[simp] theorem followShadow_hunts (s : State) (u : RUnit) : (followShadow s u).hunts = s.hunts := rfl
@[simp] theorem followShadow_trellis (s : State) (u : RUnit) : (followShadow s u).trellis = s.trellis := rfl
@[simp] theorem followShadow_burst (s : State) (u : RUnit) : (followShadow s u).burst = s.burst := rfl
@[simp] theorem followShadow_join (s : State) (u : RUnit) : (followShadow s u).join = s.join := rfl
@[simp] theorem followShadow_time (s : State) (u : RUnit) : (followShadow s u).time = s.time := rfl
@[simp] theorem followShadow_cipher (s : State) (u : RUnit) : (followShadow s u).cipher = s.cipher := rfl
@[simp] theorem followShadow_power (s : State) (u : RUnit) : (followShadow s u).power = s.power := rfl
@[simp] theorem followShadow_cores (s : State) (u : RUnit) : (followShadow s u).cores = s.cores := rfl
@[simp] theorem followShadow_common (s : State) (u : RUnit) : (followShadow s u).common = s.common := rfl
@[simp] theorem followShadow_phys (s : State) (u : RUnit) : (followShadow s u).phys = s.phys := rfl
@[simp] theorem followShadow_p384 (s : State) (u : RUnit) : (followShadow s u).p384 = s.p384 := rfl
@[simp] theorem followShadow_rake (s : State) (u : RUnit) : (followShadow s u).rake = { s.rake with gen := s.rake.gen.erase u.code } := rfl
@[simp] theorem followShadow_lane (s : State) (u : RUnit) : (followShadow s u).lane = s.lane := rfl
@[simp] theorem followShadow_spr (s : State) (u : RUnit) : (followShadow s u).spr = s.spr := rfl
@[simp] theorem followShadow_sieve (s : State) (u : RUnit) : (followShadow s u).sieve = s.sieve := rfl
@[simp] theorem followShadow_sched (s : State) (u : RUnit) : (followShadow s u).sched = s.sched := rfl
@[simp] theorem followShadow_boot (s : State) (u : RUnit) : (followShadow s u).boot = s.boot := rfl
@[simp] theorem followShadow_mgmt (s : State) (u : RUnit) : (followShadow s u).mgmt = s.mgmt := rfl
@[simp] theorem followShadow_mover (s : State) (u : RUnit) : (followShadow s u).mover = s.mover := rfl
@[simp] theorem followShadow_rakeIn (s : State) (u : RUnit) : (followShadow s u).rakeIn = s.rakeIn := rfl
@[simp] theorem followShadow_rakeEnds (s : State) (u : RUnit) : (followShadow s u).rakeEnds = s.rakeEnds := rfl
@[simp] theorem followShadow_nqIn (s : State) (u : RUnit) : (followShadow s u).nqIn = s.nqIn := rfl
@[simp] theorem followShadow_freeCtr (s : State) (u : RUnit) : (followShadow s u).freeCtr = s.freeCtr := rfl
@[simp] theorem followShadow_readData (s : State) (u : RUnit) : (followShadow s u).readData = s.readData := rfl
@[simp] theorem followShadow_out (s : State) (u : RUnit) : (followShadow s u).out = s.out := rfl
@[simp] theorem followShadow_pending (s : State) (u : RUnit) : (followShadow s u).pending = s.pending := rfl

@[simp] theorem notify_regs (s : State) (f ty arg : Nat) : (notify s f ty arg).regs = s.regs := rfl
@[simp] theorem notify_fuses (s : State) (f ty arg : Nat) : (notify s f ty arg).fuses = s.fuses := rfl
@[simp] theorem notify_line (s : State) (f ty arg : Nat) : (notify s f ty arg).line = s.line := rfl
@[simp] theorem notify_hunts (s : State) (f ty arg : Nat) : (notify s f ty arg).hunts = s.hunts := rfl
@[simp] theorem notify_trellis (s : State) (f ty arg : Nat) : (notify s f ty arg).trellis = s.trellis := rfl
@[simp] theorem notify_burst (s : State) (f ty arg : Nat) : (notify s f ty arg).burst = s.burst := rfl
@[simp] theorem notify_join (s : State) (f ty arg : Nat) : (notify s f ty arg).join = s.join := rfl
@[simp] theorem notify_time (s : State) (f ty arg : Nat) : (notify s f ty arg).time = s.time := rfl
@[simp] theorem notify_cipher (s : State) (f ty arg : Nat) : (notify s f ty arg).cipher = s.cipher := rfl
@[simp] theorem notify_power (s : State) (f ty arg : Nat) : (notify s f ty arg).power = s.power := rfl
@[simp] theorem notify_cores (s : State) (f ty arg : Nat) : (notify s f ty arg).cores = s.cores := rfl
@[simp] theorem notify_common (s : State) (f ty arg : Nat) : (notify s f ty arg).common = s.common := rfl
@[simp] theorem notify_phys (s : State) (f ty arg : Nat) : (notify s f ty arg).phys = s.phys := rfl
@[simp] theorem notify_p384 (s : State) (f ty arg : Nat) : (notify s f ty arg).p384 = s.p384 := rfl
@[simp] theorem notify_rake (s : State) (f ty arg : Nat) : (notify s f ty arg).rake = s.rake := rfl
@[simp] theorem notify_lane (s : State) (f ty arg : Nat) : (notify s f ty arg).lane = s.lane := rfl
@[simp] theorem notify_spr (s : State) (f ty arg : Nat) : (notify s f ty arg).spr = s.spr := rfl
@[simp] theorem notify_sieve (s : State) (f ty arg : Nat) : (notify s f ty arg).sieve = s.sieve := rfl
@[simp] theorem notify_sched (s : State) (f ty arg : Nat) : (notify s f ty arg).sched = s.sched := rfl
@[simp] theorem notify_boot (s : State) (f ty arg : Nat) : (notify s f ty arg).boot = s.boot := rfl
@[simp] theorem notify_mgmt (s : State) (f ty arg : Nat) : (notify s f ty arg).mgmt = s.mgmt := rfl
@[simp] theorem notify_mover (s : State) (f ty arg : Nat) : (notify s f ty arg).mover = s.mover := rfl
@[simp] theorem notify_rakeIn (s : State) (f ty arg : Nat) : (notify s f ty arg).rakeIn = s.rakeIn := rfl
@[simp] theorem notify_rakeEnds (s : State) (f ty arg : Nat) : (notify s f ty arg).rakeEnds = s.rakeEnds := rfl
@[simp] theorem notify_nqIn (s : State) (f ty arg : Nat) : (notify s f ty arg).nqIn = s.nqIn.upd f [] (· ++ [{ ty := ty, arg := arg, u := now s, valid := flag s TIME_STATUS.VALID }]) := rfl
@[simp] theorem notify_freeCtr (s : State) (f ty arg : Nat) : (notify s f ty arg).freeCtr = s.freeCtr := rfl
@[simp] theorem notify_readData (s : State) (f ty arg : Nat) : (notify s f ty arg).readData = s.readData := rfl
@[simp] theorem notify_out (s : State) (f ty arg : Nat) : (notify s f ty arg).out = s.out := rfl
@[simp] theorem notify_pending (s : State) (f ty arg : Nat) : (notify s f ty arg).pending = s.pending := rfl

/-! Reads of registers and cores through updates that do not touch them. -/

@[simp] theorem rd_emit (s : State) (o : Output) (g : Fld) : rd (emit s o) g = rd s g := rfl
@[simp] theorem flag_emit (s : State) (o : Output) (g : Fld) : flag (emit s o) g = flag s g := rfl
@[simp] theorem rd_useFree (s : State) (g : Fld) : rd (useFree s) g = rd s g := rfl
@[simp] theorem flag_useFree (s : State) (g : Fld) : flag (useFree s) g = flag s g := rfl
@[simp] theorem rd_fresh (s : State) (g : Fld) : rd (fresh s) g = rd s g := rfl
@[simp] theorem flag_fresh (s : State) (g : Fld) : flag (fresh s) g = flag s g := rfl
@[simp] theorem rd_putCore (s : State) (n : Nat) (k : Core) (g : Fld) : rd (putCore s n k) g = rd s g := rfl
@[simp] theorem flag_putCore (s : State) (n : Nat) (k : Core) (g : Fld) : flag (putCore s n k) g = flag s g := rfl
@[simp] theorem rd_raise (s : State) (e : FaultEv) (g : Fld) : rd (raise s e) g = rd s g := rfl
@[simp] theorem flag_raise (s : State) (e : FaultEv) (g : Fld) : flag (raise s e) g = flag s g := rfl
@[simp] theorem rd_endLevel (s : State) (e : FaultEv) (g : Fld) : rd (endLevel s e) g = rd s g := rfl
@[simp] theorem flag_endLevel (s : State) (e : FaultEv) (g : Fld) : flag (endLevel s e) g = flag s g := rfl
@[simp] theorem rd_setGen (s : State) (u : RUnit) (n : Nat) (g : Fld) : rd (setGen s u n) g = rd s g := rfl
@[simp] theorem flag_setGen (s : State) (u : RUnit) (n : Nat) (g : Fld) : flag (setGen s u n) g = flag s g := rfl
@[simp] theorem rd_followShadow (s : State) (u : RUnit) (g : Fld) : rd (followShadow s u) g = rd s g := rfl
@[simp] theorem flag_followShadow (s : State) (u : RUnit) (g : Fld) : flag (followShadow s u) g = flag s g := rfl
@[simp] theorem rd_notify (s : State) (f ty arg : Nat) (g : Fld) : rd (notify s f ty arg) g = rd s g := rfl
@[simp] theorem flag_notify (s : State) (f ty arg : Nat) (g : Fld) : flag (notify s f ty arg) g = flag s g := rfl
@[simp] theorem coreAt_wr (s : State) (f : Fld) (v : Nat) (m : Nat) : coreAt (wr s f v) m = coreAt s m := rfl
@[simp] theorem coreAt_setFlag (s : State) (f : Fld) (b : Bool) (m : Nat) : coreAt (setFlag s f b) m = coreAt s m := rfl
@[simp] theorem coreAt_emit (s : State) (o : Output) (m : Nat) : coreAt (emit s o) m = coreAt s m := rfl
@[simp] theorem coreAt_useFree (s : State) (m : Nat) : coreAt (useFree s) m = coreAt s m := rfl
@[simp] theorem coreAt_fresh (s : State) (m : Nat) : coreAt (fresh s) m = coreAt s m := rfl
@[simp] theorem coreAt_raise (s : State) (e : FaultEv) (m : Nat) : coreAt (raise s e) m = coreAt s m := rfl
@[simp] theorem coreAt_endLevel (s : State) (e : FaultEv) (m : Nat) : coreAt (endLevel s e) m = coreAt s m := rfl
@[simp] theorem coreAt_setGen (s : State) (u : RUnit) (n : Nat) (m : Nat) : coreAt (setGen s u n) m = coreAt s m := rfl
@[simp] theorem coreAt_followShadow (s : State) (u : RUnit) (m : Nat) : coreAt (followShadow s u) m = coreAt s m := rfl
@[simp] theorem coreAt_notify (s : State) (f ty arg : Nat) (m : Nat) : coreAt (notify s f ty arg) m = coreAt s m := rfl

end Sys2Proof.Machine
end

