-- ==== Sys2Proof/Laws/Table.lean ====
section
/-!
SUPPORT. The laws of sparse tables: read after write, a write leaves every other key alone, and every operation keeps the
canonical form.
-/

namespace Sys2Proof.Machine

variable {α : Type}

theorem Table.get_erase_ne (t : Table α) {k j : Nat} (d : α) (h : j ≠ k) :
    Table.get (Table.erase t k) j d = Table.get t j d := by
  induction t with
  | nil => rfl
  | cons e r ih =>
    obtain ⟨k', v⟩ := e
    simp only [Table.erase, Table.get]
    split
    · next hk => subst hk; simp [h, ih]
    · simp only [Table.get, ih]

theorem Table.get_erase_same (t : Table α) (k : Nat) (d : α) : Table.get (Table.erase t k) k d = d := by
  induction t with
  | nil => rfl
  | cons e r ih =>
    obtain ⟨k', v⟩ := e
    simp only [Table.erase]
    split
    · exact ih
    · next hk => simp [Table.get, hk, ih]

theorem Table.get_above (t : Table α) {k : Nat} (d : α) (h : Table.above t k = true) : Table.get t k d = d := by
  induction t with
  | nil => rfl
  | cons e r ih =>
    obtain ⟨k', v⟩ := e
    simp only [Table.above, List.all_cons, Bool.and_eq_true, decide_eq_true_eq] at h
    simp only [Table.get]
    rw [if_neg (by omega)]
    exact ih (by simpa [Table.above] using h.2)

theorem Table.get_insert_same (t : Table α) (k : Nat) (v d : α) : Table.get (Table.insert t k v) k d = v := by
  induction t with
  | nil => simp [Table.insert, Table.get]
  | cons e r ih =>
    obtain ⟨k', v'⟩ := e
    simp only [Table.insert]
    split
    · simp [Table.get]
    · split
      · simp [Table.get]
      · next h => simp [Table.get, h, ih]

theorem Table.get_insert_ne (t : Table α) {k j : Nat} (v d : α) (h : j ≠ k) :
    Table.get (Table.insert t k v) j d = Table.get t j d := by
  induction t with
  | nil => simp [Table.insert, Table.get, h]
  | cons e r ih =>
    obtain ⟨k', v'⟩ := e
    simp only [Table.insert]
    split
    · simp [Table.get, h]
    · split
      · next hk => subst hk; simp [Table.get, h]
      · simp only [Table.get, ih]

theorem Table.above_erase (t : Table α) {k j : Nat} (h : Table.above t j = true) :
    Table.above (Table.erase t k) j = true := by
  induction t with
  | nil => rfl
  | cons e r ih =>
    simp only [Table.above, List.all_cons, Bool.and_eq_true, decide_eq_true_eq] at h ih ⊢
    simp only [Table.erase]
    split
    · exact ih h.2
    · simp only [List.all_cons, Bool.and_eq_true, decide_eq_true_eq]
      exact ⟨h.1, ih h.2⟩

theorem Table.above_insert (t : Table α) {k j : Nat} (v : α) (hj : j < k) (h : Table.above t j = true) :
    Table.above (Table.insert t k v) j = true := by
  induction t with
  | nil => simp [Table.insert, Table.above, hj]
  | cons e r ih =>
    simp only [Table.above, List.all_cons, Bool.and_eq_true, decide_eq_true_eq] at h ih ⊢
    simp only [Table.insert]
    split
    · simp [hj, h.1]; simpa using h.2
    · split
      · simp [hj]; simpa using h.2
      · simp only [List.all_cons, Bool.and_eq_true, decide_eq_true_eq]
        exact ⟨h.1, ih h.2⟩

theorem Table.above_mono (t : Table α) {j k : Nat} (h : j ≤ k) (ha : Table.above t k = true) : Table.above t j = true := by
  simp only [Table.above, List.all_eq_true, decide_eq_true_eq] at ha ⊢
  intro e he; exact lt_of_le_of_lt h (ha e he)

variable [DecidableEq α]

theorem Table.wf_cons (k : Nat) (v d : α) (r : Table α) :
    Table.wf ((k, v) :: r) d = true ↔ Table.above r k = true ∧ v ≠ d ∧ Table.wf r d = true := by
  simp [Table.wf, and_assoc]

theorem Table.erase_wf (t : Table α) (k : Nat) (d : α) (h : Table.wf t d = true) : Table.wf (Table.erase t k) d = true := by
  induction t with
  | nil => rfl
  | cons e r ih =>
    obtain ⟨k', v⟩ := e
    rw [Table.wf_cons] at h
    simp only [Table.erase]
    split
    · exact ih h.2.2
    · rw [Table.wf_cons]; exact ⟨Table.above_erase r h.1, h.2.1, ih h.2.2⟩

theorem Table.insert_wf (t : Table α) (k : Nat) (v d : α) (hv : v ≠ d) (h : Table.wf t d = true) :
    Table.wf (Table.insert t k v) d = true := by
  induction t with
  | nil => simp [Table.insert, Table.wf, Table.above, hv]
  | cons e r ih =>
    obtain ⟨k', v'⟩ := e
    have h0 := h
    rw [Table.wf_cons] at h
    simp only [Table.insert]
    split
    · next hk =>
      rw [Table.wf_cons]
      refine ⟨?_, hv, h0⟩
      have := Table.above_mono r (le_of_lt hk) h.1
      simp only [Table.above, List.all_cons, Bool.and_eq_true, decide_eq_true_eq] at this ⊢
      exact ⟨hk, this⟩
    · split
      · next hk => subst hk; rw [Table.wf_cons]; exact ⟨h.1, hv, h.2.2⟩
      · next h1 h2 => rw [Table.wf_cons]; exact ⟨Table.above_insert r v (by omega) h.1, h.2.1, ih h.2.2⟩

/-- A write keeps the canonical form. -/
theorem Table.set_wf (t : Table α) (k : Nat) (v d : α) (h : Table.wf t d = true) : Table.wf (Table.set t k v d) d = true := by
  unfold Table.set
  split
  · exact Table.erase_wf t k d h
  · next hv => exact Table.insert_wf t k v d hv h

theorem Table.upd_wf (t : Table α) (k : Nat) (d : α) (f : α → α) (h : Table.wf t d = true) :
    Table.wf (Table.upd t k d f) d = true := Table.set_wf t k _ d h

theorem Table.keep_wf (t : Table α) (p : Nat → Bool) (d : α) (h : Table.wf t d = true) :
    Table.wf (Table.keep t p) d = true := by
  induction t with
  | nil => rfl
  | cons e r ih =>
    obtain ⟨k, v⟩ := e
    rw [Table.wf_cons] at h
    simp only [Table.keep, List.filter_cons]
    split
    · rw [Table.wf_cons]
      refine ⟨?_, h.2.1, ih h.2.2⟩
      have ha := h.1
      simp only [Table.above, List.all_eq_true, decide_eq_true_eq] at ha ⊢
      intro e he; exact ha e (List.mem_filter.mp he).1
    · exact ih h.2.2

/-- A write leaves every other key as it was. -/
theorem Table.get_set_ne (t : Table α) {k j : Nat} (v d e : α) (h : j ≠ k) :
    Table.get (Table.set t k v d) j e = Table.get t j e := by
  unfold Table.set
  split
  · exact Table.get_erase_ne t e h
  · exact Table.get_insert_ne t v e h

/-- A read after a write to the same key gives the value written. -/
@[simp] theorem Table.get_set_same (t : Table α) (k : Nat) (v d : α) : Table.get (Table.set t k v d) k d = v := by
  unfold Table.set
  split
  · next hv => rw [hv]; exact Table.get_erase_same t k d
  · exact Table.get_insert_same t k v d

end Sys2Proof.Machine
end

