-- ==== Sys2Proof/Laws/Regs.lean ====
section
/-!
SUPPORT. Register fields: a read after a write of the same field gives the value cut to its width, and a write leaves every
field with another bit address alone (R10 to R12).
-/

namespace Sys2Proof.Machine

@[simp] theorem rd_wr_same (s : State) (f : Fld) (v : Nat) : rd (wr s f v) f = v % 2 ^ f.width :=
  Table.get_set_same _ _ _ _

theorem rd_wr_ne (s : State) {f g : Fld} (v : Nat) (h : g.key ≠ f.key) : rd (wr s f v) g = rd s g :=
  Table.get_set_ne _ _ _ _ h

@[simp] theorem rd_setFlag_same (s : State) (f : Fld) (b : Bool) : rd (setFlag s f b) f = b2n b % 2 ^ f.width :=
  rd_wr_same _ _ _

theorem rd_setFlag_ne (s : State) {f g : Fld} (b : Bool) (h : g.key ≠ f.key) : rd (setFlag s f b) g = rd s g :=
  rd_wr_ne _ _ h

theorem flag_setFlag_same (s : State) (f : Fld) (b : Bool) (h : f.width = 1) : flag (setFlag s f b) f = b := by
  cases b <;> simp [flag, h, b2n]

theorem flag_setFlag_ne (s : State) {f g : Fld} (b : Bool) (h : g.key ≠ f.key) : flag (setFlag s f b) g = flag s g := by
  simp only [flag, rd_setFlag_ne s b h]

theorem flag_wr_ne (s : State) {f g : Fld} (v : Nat) (h : g.key ≠ f.key) : flag (wr s f v) g = flag s g := by
  simp only [flag, rd_wr_ne s v h]

theorem rd_bump1_same (s : State) (f : Fld) (n : Nat) : rd (bump1 s f n) f = satAdd f.width (rd s f) n := by
  have h : 0 < 2 ^ f.width := by positivity
  rw [bump1, rd_wr_same]
  exact Nat.mod_eq_of_lt (by unfold satAdd; omega)

theorem rd_bump1_ne (s : State) {f g : Fld} (n : Nat) (h : g.key ≠ f.key) : rd (bump1 s f n) g = rd s g :=
  rd_wr_ne _ _ h

/-- A counter and its bed-window copy are the fields that counting can change. -/
theorem rd_bump_ne (s : State) {f g : Fld} (n : Nat) (h : g.key ≠ f.key)
    (hm : ∀ a, mirrorOf f.addr = some a → g.key ≠ a * 8 + f.lsb) : rd (bump s f n) g = rd s g := by
  unfold bump
  split
  · next a ha =>
    split
    · rw [rd_bump1_ne _ n (hm a ha), rd_bump1_ne _ n h]
    · exact rd_bump1_ne _ n h
  · exact rd_bump1_ne _ n h

theorem rd_bump_plain (s : State) (f : Fld) (n : Nat) (h : mirrorOf f.addr = none) :
    rd (bump s f n) f = satAdd f.width (rd s f) n := by
  simp only [bump, h, rd_bump1_same]

/-- Counting changes registers alone. -/
theorem bump_frame (s : State) (f : Fld) (n : Nat) : bump s f n = { s with regs := (bump s f n).regs } := by
  unfold bump
  split
  · split <;> rfl
  · rfl

/-- A write of one field leaves everything but the registers alone. -/
theorem wr_frame (s : State) (f : Fld) (v : Nat) : wr s f v = { s with regs := (wr s f v).regs } := rfl

@[simp] theorem coreAt_putCore_same (s : State) (n : Nat) (k : Core) : coreAt (putCore s n k) n = k :=
  Table.get_set_same _ _ _ _

theorem coreAt_putCore_ne (s : State) {n m : Nat} (k : Core) (h : m ≠ n) : coreAt (putCore s n k) m = coreAt s m :=
  Table.get_set_ne _ _ _ _ h

end Sys2Proof.Machine
end

