-- ==== Sys2Proof/Laws/Core.lean ====
section
/-!
SUPPORT. The Trowel cores: the frame of an instruction on a core that is ready, the register file, STATUS, and the results of
the integer unit.
-/

namespace Sys2Proof.Machine

open Sys2Proof

/-! ### The frame -/

/-- On a core that is ready, an instruction runs. -/
theorem onCore_ready {s : State} {n : Nat} (h : coreReady s n) (f : State → Core → State) :
    onCore (fresh s) n f = f (fresh s) (coreAt s n) := by
  obtain ⟨h1, h2, h3⟩ := h
  unfold onCore
  have h1' : coreRuns (fresh s) n = true := h1
  simp only [h1', if_true, coreAt_fresh, h2, h3, Bool.false_eq_true, if_false]

theorem runCore_ready {s : State} {n : Nat} (h : coreReady s n) (f : Core → CoreOut) :
    runCore (fresh s) n f = applyOut (fresh s) n (coreAt s n) (f (coreAt s n)) := onCore_ready h _

theorem runCore_next {s : State} {n : Nat} (h : coreReady s n) {f : Core → CoreOut} {k' : Core}
    (hf : f (coreAt s n) = .next k') : runCore (fresh s) n f = putCore (fresh s) n k' := by
  rw [runCore_ready h, hf]; rfl

/-- A trap other than ACCESS, in task mode, is entered. -/
theorem runCore_trap {s : State} {n : Nat} (h : coreReady s n) {f : Core → CoreOut} {c d a : Nat}
    (hf : f (coreAt s n) = .trap c d a) (hc : c ≠ 5) (ht : (coreAt s n).trapMode = false) :
    runCore (fresh s) n f = putCore (fresh s) n
      ((coreAt s n).enterTrap c d a (if c = 9 then w32 ((coreAt s n).pc + 4) else (coreAt s n).pc)) := by
  rw [runCore_ready h, hf]
  simp only [applyOut, countAccess, if_neg hc, ht, Bool.false_eq_true, if_false]

theorem guardRegs_ok {rs : List Nat} (h : ∀ r ∈ rs, okReg r = true) (w : Nat) (o : CoreOut) : guardRegs rs w o = o := by
  have : rs.all okReg = true := List.all_eq_true.mpr h
  simp [guardRegs, this]

/-! ### Bits of STATUS -/

theorem bitAt_eq (x k : Nat) : bitAt x k = x.testBit k := by
  simp only [bitAt, Nat.testBit_eq_decide_div_mod_eq]

theorem putBits_split (v i x : Nat) (hx : x < 2) : putBits v i 1 x = 2 ^ i * (2 * (v / 2 ^ i / 2) + x) + v % 2 ^ i := by
  have h1 := Nat.div_add_mod v (2 ^ i)
  have h2 := Nat.div_add_mod (v / 2 ^ i) 2
  generalize hq : v / 2 ^ i = q at *
  generalize hm : v % 2 ^ i = m at *
  generalize hp : 2 ^ i = p at *
  have e : putBits v i 1 x = v - q % 2 * p + x * p := by
    simp only [putBits, bits, pow_one, hq, hp, Nat.mod_eq_of_lt hx]
  rw [e, ← h1]
  have e2 : p * q = p * (2 * (q / 2)) + q % 2 * p := by
    conv_lhs => rw [← h2]
    ring
  have e3 : p * (2 * (q / 2) + x) = p * (2 * (q / 2)) + x * p := by ring
  omega

theorem putBits_other {v i j : Nat} (b : Nat) (h : i ≠ j) : bitAt (putBits v i 1 b) j = bitAt v j := by
  have e0 : putBits v i 1 b = putBits v i 1 (b % 2) := by simp [putBits]
  have hm : v % 2 ^ i < 2 ^ i := Nat.mod_lt _ (by positivity)
  rw [e0, putBits_split _ _ _ (Nat.mod_lt _ (by decide)), bitAt_eq, bitAt_eq, Nat.testBit_two_pow_mul_add _ hm]
  conv_rhs => rw [← Nat.div_add_mod v (2 ^ i), Nat.testBit_two_pow_mul_add _ hm]
  split
  · rfl
  · obtain ⟨c, hc⟩ : ∃ c, j - i = c + 1 := ⟨j - i - 1, by omega⟩
    rw [hc, Nat.testBit_succ, Nat.testBit_succ]
    congr 1
    omega

theorem putBits_same (v i : Nat) (b : Bool) : bitAt (putBits v i 1 (b2n b)) i = b := by
  have hm : v % 2 ^ i < 2 ^ i := Nat.mod_lt _ (by positivity)
  rw [putBits_split _ _ _ (by cases b <;> decide), bitAt_eq, Nat.testBit_two_pow_mul_add _ hm, if_neg (by omega), Nat.sub_self,
    Nat.testBit_zero]
  cases b <;> simp [b2n]

theorem putBits_high (v : Nat) {i : Nat} (b : Nat) (h : i < 4) : putBits v i 1 b / 16 = v / 16 := by
  have : putBits v i 1 b = v - v / 2 ^ i % 2 * 2 ^ i + b % 2 * 2 ^ i := by simp [putBits, bits]
  rw [this]
  have : i = 0 ∨ i = 1 ∨ i = 2 ∨ i = 3 := by omega
  rcases this with rfl | rfl | rfl | rfl <;> simp <;> omega

@[simp] theorem Core.setSt_status (k : Core) (i : Nat) (b : Bool) : (k.setSt i b).status = putBits k.status i 1 (b2n b) := rfl
@[simp] theorem Core.setSt_pc (k : Core) (i : Nat) (b : Bool) : (k.setSt i b).pc = k.pc := rfl
@[simp] theorem Core.setSt_win (k : Core) (i : Nat) (b : Bool) : (k.setSt i b).win = k.win := rfl
@[simp] theorem Core.setSt_k (k : Core) (i : Nat) (b : Bool) : (k.setSt i b).k = k.k := rfl
@[simp] theorem Core.adv_status (k : Core) : k.adv.status = k.status := rfl
@[simp] theorem Core.adv_win (k : Core) : k.adv.win = k.win := rfl
@[simp] theorem Core.adv_k (k : Core) : k.adv.k = k.k := rfl
@[simp] theorem Core.adv_pc (k : Core) : k.adv.pc = (k.pc + 4) % 2 ^ 32 := rfl
@[simp] theorem Core.adv_reg (k : Core) (r : Nat) : k.adv.reg r = k.reg r := rfl

@[simp] theorem Core.setReg_status (k : Core) (r v : Nat) : (k.setReg r v).status = k.status := by
  unfold Core.setReg; split <;> [rfl; split <;> rfl]
@[simp] theorem Core.setReg_pc (k : Core) (r v : Nat) : (k.setReg r v).pc = k.pc := by
  unfold Core.setReg; split <;> [rfl; split <;> rfl]
theorem Core.setReg_rest (k : Core) (r v : Nat) :
    k.setReg r v = { k with win := (k.setReg r v).win, k := (k.setReg r v).k } := by
  unfold Core.setReg; split <;> [rfl; split <;> rfl]
theorem Core.setReg_win (k : Core) (r v : Nat) {j : Nat} (h : ¬(r < 16 ∧ j = winIdx k.cwp r)) :
    (k.setReg r v).win.get j 0 = k.win.get j 0 := by
  unfold Core.setReg
  split
  · next hr => exact Table.get_set_ne _ _ _ _ fun e => h ⟨hr, e⟩
  · split <;> rfl
theorem Core.setReg_k (k : Core) (r v : Nat) {j : Nat} (h : ¬(16 ≤ r ∧ r < 24 ∧ j = r - 16)) :
    (k.setReg r v).k.get j 0 = k.k.get j 0 := by
  unfold Core.setReg
  split
  · rfl
  · split
    · next h1 h2 => exact Table.get_set_ne _ _ _ _ fun e => h ⟨by omega, h2, e⟩
    · rfl

/-- The ring index of a register depends on the window alone. -/
theorem Core.reg_congr {k k' : Core} (hw : k'.win = k.win) (hk : k'.k = k.k) (hs : k'.cwp = k.cwp) (r : Nat) :
    k'.reg r = k.reg r := by
  simp only [Core.reg, hw, hk, hs]

/-- A register reads back what was written; Z reads 0 (R348). -/
theorem Core.setReg_reg (k : Core) {r : Nat} (v : Nat) (h : r < 24) : (k.setReg r v).reg r = v % 2 ^ 32 := by
  have hm : v % 2 ^ 32 % 2 ^ 32 = v % 2 ^ 32 := Nat.mod_mod _ _
  unfold Core.setReg Core.reg
  split
  · next h1 => simp only [h1, if_true, Core.cwp, Table.get_set_same, w32, hm]
  · simp only [h, if_true, Table.get_set_same, w32, hm]

@[simp] theorem Core.reg_31 (k : Core) : k.reg 31 = 0 := rfl

theorem Core.reg_lt (k : Core) (r : Nat) : k.reg r < 2 ^ 32 := Nat.mod_lt _ (by decide)

theorem okReg_cases {d : Nat} (h : okReg d = true) : d < 24 ∨ d = 31 := by
  simpa [okReg] using h

/-! ### Results -/

/-- Two registers of one window have different places. -/
theorem winIdx_inj {c r r' : Nat} (hr : r < 16) (hr' : r' < 16) (hc : c ≤ 7) (h : winIdx c r = winIdx c r') : r = r' := by
  unfold winIdx at h
  split at h
  · omega
  · split at h <;> split at h <;> omega

/-- A write of one register leaves every other register of the window as it was. -/
theorem Core.setReg_other (k : Core) {r j : Nat} (v : Nat) (h : j ≠ r) : (k.setReg r v).reg j = k.reg j := by
  have hc : k.cwp ≤ 7 := by
    have : k.cwp < 2 ^ 3 := Nat.mod_lt _ (by decide)
    omega
  have e : (k.setReg r v).cwp = k.cwp := by simp [Core.cwp]
  unfold Core.reg
  rw [e]
  split
  · next hj =>
    rw [Core.setReg_win]
    rintro ⟨hr, he⟩
    exact h (winIdx_inj hj hr hc he)
  · split
    · rw [Core.setReg_k]
      rintro ⟨h1, h2, he⟩
      omega
    · rfl

/-- What an instruction that writes one register after setting flags leaves (R368). -/
theorem Core.result_of {k k1 : Core} {d : Nat} {v : Nat} {w : Int} (hd : okReg d = true)
    (h1 : k1 = { k with status := k1.status }) (hs : k1.status / 16 = k.status / 16) (hv : ((v % 2 ^ 32 : Nat) : Int) = w % 2 ^ 32)
    (hz : k1.flagZ = decide (v % 2 ^ 32 = 0)) (hn : k1.flagN = decide (2 ^ 31 ≤ v % 2 ^ 32)) :
    k.result (k1.setReg d v).adv d w := by
  have hcwp : k1.cwp = k.cwp := by
    have e : ∀ x : Nat, bits x 26 3 = bits (x / 16) 22 3 := by
      intro x
      show x / 67108864 % 8 = x / 16 / 4194304 % 8
      omega
    simp only [Core.cwp]
    rw [e, e, hs]
  have hw : k1.win = k.win := by rw [h1]
  have hk : k1.k = k.k := by rw [h1]
  have hp : k1.pc = k.pc := by rw [h1]
  refine ⟨by simp [hp], fun hne => ?_, ?_, ?_, ?_, ?_, ?_, ?_⟩
  · have : d < 24 := by rcases okReg_cases hd with h | h <;> [exact h; exact absurd h hne]
    rw [Core.adv_reg, Core.setReg_reg _ _ this, hv]
  · show bitAt (k1.setReg d v).status 0 = _
    rw [Core.setReg_status, ← hv]
    refine Eq.trans hz ?_
    simp only [decide_eq_decide]
    omega
  · show bitAt (k1.setReg d v).status 1 = _
    rw [Core.setReg_status, ← hv]
    refine Eq.trans hn ?_
    simp only [decide_eq_decide]
    omega
  · intro j hj
    rw [Core.adv_win, Core.setReg_win _ _ _ (by rwa [hcwp]), hw]
  · intro j hj
    rw [Core.adv_k, Core.setReg_k _ _ _ hj, hk]
  · simp [hs]
  · rw [Core.setReg_rest]
    generalize k1.setReg d v = q
    rw [h1]
    rfl

theorem Core.setZN_rest (k : Core) (v : Nat) : k.setZN v = { k with status := (k.setZN v).status } := rfl
theorem Core.setZN_high (k : Core) (v : Nat) : (k.setZN v).status / 16 = k.status / 16 := by
  simp only [Core.setZN, Core.setSt_status]
  rw [putBits_high _ _ (by omega), putBits_high _ _ (by omega)]
theorem Core.setZN_flagZ (k : Core) (v : Nat) : (k.setZN v).flagZ = decide (v % 2 ^ 32 = 0) := by
  simp only [Core.setZN, Core.flagZ, Core.setSt_status]
  rw [putBits_other _ (by decide), putBits_same]; rfl
theorem bitAt_31 (v : Nat) : bitAt v 31 = decide (2 ^ 31 ≤ v % 2 ^ 32) := by
  simp only [bitAt, decide_eq_decide]
  omega
theorem Core.setZN_flagN (k : Core) (v : Nat) : (k.setZN v).flagN = decide (2 ^ 31 ≤ v % 2 ^ 32) := by
  simp only [Core.setZN, Core.flagN, Core.setSt_status]
  rw [putBits_same, bitAt_31]
theorem Core.setZN_flagC (k : Core) (v : Nat) : (k.setZN v).flagC = k.flagC := by
  simp only [Core.setZN, Core.flagC, Core.setSt_status]
  rw [putBits_other _ (by decide), putBits_other _ (by decide)]
theorem Core.setZN_flagV (k : Core) (v : Nat) : (k.setZN v).flagV = k.flagV := by
  simp only [Core.setZN, Core.flagV, Core.setSt_status]
  rw [putBits_other _ (by decide), putBits_other _ (by decide)]

theorem Core.setCV_rest (k : Core) (c v : Bool) : k.setCV c v = { k with status := (k.setCV c v).status } := rfl
theorem Core.setCV_high (k : Core) (c v : Bool) : (k.setCV c v).status / 16 = k.status / 16 := by
  simp only [Core.setCV, Core.setSt_status]
  rw [putBits_high _ _ (by omega), putBits_high _ _ (by omega)]
theorem Core.setCV_flagZ (k : Core) (c v : Bool) : (k.setCV c v).flagZ = k.flagZ := by
  simp only [Core.setCV, Core.flagZ, Core.setSt_status]
  rw [putBits_other _ (by decide), putBits_other _ (by decide)]
theorem Core.setCV_flagN (k : Core) (c v : Bool) : (k.setCV c v).flagN = k.flagN := by
  simp only [Core.setCV, Core.flagN, Core.setSt_status]
  rw [putBits_other _ (by decide), putBits_other _ (by decide)]
theorem Core.setCV_flagC (k : Core) (c v : Bool) : (k.setCV c v).flagC = c := by
  simp only [Core.setCV, Core.flagC, Core.setSt_status]
  rw [putBits_other _ (by decide), putBits_same]
theorem Core.setCV_flagV (k : Core) (c v : Bool) : (k.setCV c v).flagV = v := by
  simp only [Core.setCV, Core.flagV, Core.setSt_status]
  rw [putBits_same]

theorem Core.end_flagC (k : Core) (d v : Nat) : (k.setReg d v).adv.flagC = k.flagC := by simp [Core.flagC]
theorem Core.end_flagV (k : Core) (d v : Nat) : (k.setReg d v).adv.flagV = k.flagV := by simp [Core.flagV]

/-- A result with Z and N (R368). -/
theorem Core.znOp_result (k : Core) {d v : Nat} {w : Int} (hd : okReg d = true)
    (hv : ((v % 2 ^ 32 : Nat) : Int) = w % 2 ^ 32) : k.znResult (k.znOp d v) d w :=
  ⟨Core.result_of hd (Core.setZN_rest _ _) (Core.setZN_high _ _) hv (Core.setZN_flagZ _ _) (Core.setZN_flagN _ _),
    (Core.end_flagC _ _ _).trans (Core.setZN_flagC _ _), (Core.end_flagV _ _ _).trans (Core.setZN_flagV _ _)⟩

/-- A result with Z N C V (R368). -/
theorem Core.znCv_result (k : Core) {d v : Nat} {w : Int} (c o : Bool) (hd : okReg d = true)
    (hv : ((v % 2 ^ 32 : Nat) : Int) = w % 2 ^ 32) :
    let k' := (((k.setZN v).setCV c o).setReg d v).adv
    k.result k' d w ∧ k'.flagC = c ∧ k'.flagV = o :=
  ⟨Core.result_of hd rfl ((Core.setCV_high _ _ _).trans (Core.setZN_high _ _)) hv
    ((Core.setCV_flagZ _ _ _).trans (Core.setZN_flagZ _ _)) ((Core.setCV_flagN _ _ _).trans (Core.setZN_flagN _ _)),
    (Core.end_flagC _ _ _).trans (Core.setCV_flagC _ _ _), (Core.end_flagV _ _ _).trans (Core.setCV_flagV _ _ _)⟩

theorem ovf32_eq (x : Int) : ovf32 x = overflows x := by
  unfold ovf32 overflows
  rw [Bool.eq_iff_iff]
  simp only [Bool.or_eq_true, decide_eq_true_eq]
  omega

/-- The sum of R368. -/
theorem Core.addOp_sum (k : Core) {d : Nat} (x y c : Nat) (hd : okReg d = true) : k.sumResult (k.addOp d x y c) d x y c := by
  have h := k.znCv_result (decide (2 ^ 32 ≤ x + y + c)) (ovf32 (toSigned 32 x + toSigned 32 y + c)) (v := x + y + c)
    (w := (x : Int) + y + c) hd (by push_cast; rfl)
  exact ⟨h.1, h.2.1, h.2.2.trans (ovf32_eq _)⟩

theorem ofSigned_lt (w : Nat) (x : Int) : ofSigned w x < 2 ^ w := by
  have h1 := Int.emod_lt_of_pos x (b := ((2 ^ w : Nat) : Int)) (by positivity)
  have h2 := Int.emod_nonneg x (b := ((2 ^ w : Nat) : Int)) (by positivity)
  unfold ofSigned
  omega

theorem ofSigned_cast (w : Nat) (x : Int) : (ofSigned w x : Int) = x % 2 ^ w := by
  have h2 := Int.emod_nonneg x (b := ((2 ^ w : Nat) : Int)) (by positivity)
  unfold ofSigned
  rw [Int.toNat_of_nonneg h2]
  push_cast
  rfl

/-- The difference of R368. -/
theorem Core.subOp_dif (k : Core) {d : Nat} (x y c : Nat) (hd : okReg d = true) : k.difResult (k.subOp d x y c) d x y c := by
  have h := k.znCv_result (decide (y + c ≤ x)) (ovf32 (toSigned 32 x - toSigned 32 y - c)) (v := ofSigned 32 ((x : Int) - y - c))
    (w := (x : Int) - y - c) hd (by rw [Nat.mod_eq_of_lt (ofSigned_lt _ _), ofSigned_cast])
  exact ⟨h.1, h.2.1, h.2.2.trans (ovf32_eq _)⟩

theorem Core.setV_rest (k : Core) (v : Nat) : ((k.setZN v).setSt 3 false) = { k with status := ((k.setZN v).setSt 3 false).status } := rfl

/-- A bitwise result (R368). -/
theorem Core.logicOp_bit (k : Core) {d : Nat} (v : Nat) (hd : okReg d = true) : k.bitResult (k.logicOp d v) d v := by
  refine ⟨Core.result_of hd (Core.setV_rest _ _) ?_ (by push_cast; rfl) ?_ ?_, ?_, ?_⟩
  · rw [Core.setSt_status, putBits_high _ _ (by omega)]; exact Core.setZN_high _ _
  · refine Eq.trans ?_ (Core.setZN_flagZ k v)
    simp only [Core.flagZ, Core.setSt_status]; exact putBits_other _ (by decide)
  · refine Eq.trans ?_ (Core.setZN_flagN k v)
    simp only [Core.flagN, Core.setSt_status]; exact putBits_other _ (by decide)
  · refine (Core.end_flagC _ _ _).trans (Eq.trans ?_ (Core.setZN_flagC k v))
    simp only [Core.flagC, Core.setSt_status]; exact putBits_other _ (by decide)
  · refine (Core.end_flagV _ _ _).trans ?_
    simp only [Core.flagV, Core.setSt_status]; exact putBits_same _ _ _

/-- A shift (R368). -/
theorem Core.shiftOp_shift (k : Core) (h : Shift) {d : Nat} (x c : Nat) {w : Int} (hd : okReg d = true)
    (hv : ((h.val x c % 2 ^ 32 : Nat) : Int) = w % 2 ^ 32) : k.shiftResult (k.shiftOp h d x c) d w (h.out x c) :=
  k.znCv_result _ _ hd hv

end Sys2Proof.Machine
end

