-- ==== Sys2Proof/Laws/Memory.lean ====
section
/-!
SUPPORT. The laws of the block's memories: a stored byte reads back, every other byte stays, and every store keeps the
canonical form of instruction, data, common and flash memory.
-/

namespace Sys2Proof.Machine

open Sys2Proof

/-- A store of bytes keeps the canonical form. -/
theorem storeBytes_wf (m : Table Byte) (a : Nat) (l : List Byte) (h : Table.wf m 0 = true) :
    Table.wf (storeBytes m a l) 0 = true := by
  induction l generalizing m a with
  | nil => exact h
  | cons x r ih => exact ih _ _ (Table.set_wf _ _ _ _ h)

/-- A byte below the stored ones stays. -/
theorem storeBytes_below (m : Table Byte) (a : Nat) (l : List Byte) {j : Nat} (h : j < a) :
    Table.get (storeBytes m a l) j 0 = Table.get m j 0 := by
  induction l generalizing m a with
  | nil => rfl
  | cons x r ih =>
    rw [storeBytes, ih _ _ (by omega)]
    exact Table.get_set_ne m x 0 0 (by omega)

/-- What memory reads after a store: the stored bytes in their place, every other byte as before. -/
theorem storeBytes_get (m : Table Byte) (a : Nat) (l : List Byte) (j : Nat) :
    Table.get (storeBytes m a l) j 0 = if a ≤ j ∧ j < a + l.length then l.getD (j - a) 0 else Table.get m j 0 := by
  induction l generalizing m a with
  | nil => simp only [storeBytes, List.length_nil]; rw [if_neg (by omega)]
  | cons x r ih =>
    rw [storeBytes]
    rcases Nat.lt_trichotomy j a with h | h | h
    · rw [storeBytes_below _ _ _ (by omega), Table.get_set_ne m x 0 0 (by omega), if_neg (by omega)]
    · subst h
      rw [storeBytes_below _ _ _ (by omega), Table.get_set_same, if_pos (by simp)]
      simp
    · rw [ih, Table.get_set_ne m x 0 0 (by omega)]
      obtain ⟨i, rfl⟩ : ∃ i, j = a + 1 + i := ⟨j - (a + 1), by omega⟩
      have e1 : a + 1 + i - (a + 1) = i := by omega
      have e2 : a + 1 + i - a = i + 1 := by omega
      simp only [List.length_cons, e1, e2, List.getD_cons_succ]
      by_cases hi : i < r.length
      · rw [if_pos (by omega), if_pos (by omega)]
      · rw [if_neg (by omega), if_neg (by omega)]

/-- The memories of one core are in canonical form. -/
def Core.memWf (k : Core) : Bool := Table.wf k.imem 0 && Table.wf k.dmem 0

theorem all_erase {α : Type} (p : Nat × α → Bool) (t : Table α) (n : Nat) (h : t.all p = true) : (Table.erase t n).all p = true := by
  induction t with
  | nil => rfl
  | cons e r ih =>
    obtain ⟨k', v⟩ := e
    simp only [List.all_cons, Bool.and_eq_true] at h
    simp only [Table.erase]
    split
    · exact ih h.2
    · simp [h.1, ih h.2]

theorem all_insert {α : Type} (p : Nat × α → Bool) (t : Table α) (n : Nat) (v : α) (hv : p (n, v) = true) (h : t.all p = true) :
    (Table.insert t n v).all p = true := by
  induction t with
  | nil => simp [Table.insert, hv]
  | cons e r ih =>
    obtain ⟨k', v'⟩ := e
    have h0 := h
    simp only [List.all_cons, Bool.and_eq_true] at h
    simp only [Table.insert]
    split
    · rw [List.all_cons, hv, h0]; rfl
    · split
      · rw [List.all_cons, hv, h.2]; rfl
      · rw [List.all_cons, h.1, ih h.2]; rfl

theorem all_get {α : Type} (p : α → Bool) (t : Table α) (n : Nat) (d : α) (hd : p d = true) (h : (t.all fun e => p e.2) = true) :
    p (Table.get t n d) = true := by
  induction t with
  | nil => exact hd
  | cons e r ih =>
    obtain ⟨k', v⟩ := e
    simp only [List.all_cons, Bool.and_eq_true] at h
    simp only [Table.get]
    split
    · exact h.1
    · exact ih h.2

theorem memWf_iff (s : State) : memWf s = true ↔
    Table.wf s.common 0 = true ∧ Table.wf s.boot.flash 0xFF = true ∧ (s.cores.all fun e => e.2.memWf) = true := by
  unfold memWf Core.memWf
  simp only [Bool.and_eq_true, and_assoc]

/-- A core's memories are in canonical form where the block's are. -/
theorem coreAt_memWf {s : State} (h : memWf s = true) (n : Nat) : (coreAt s n).memWf = true :=
  all_get Core.memWf s.cores n {} (by decide) ((memWf_iff s).mp h).2.2

/-- A core's record with memories in canonical form keeps the block's. -/
theorem putCore_memWf {s : State} (h : memWf s = true) (n : Nat) {k : Core} (hk : k.memWf = true) : memWf (putCore s n k) = true := by
  rw [memWf_iff] at h ⊢
  refine ⟨h.1, h.2.1, ?_⟩
  change ((Table.set s.cores n k {}).all _) = true
  unfold Table.set
  split
  · exact all_erase _ _ _ h.2.2
  · exact all_insert _ _ _ _ hk h.2.2

/-- Every store of a core keeps the canonical form of the memories. -/
theorem putMem_memWf {s : State} (h : memWf s = true) (n a : Nat) (l : List Byte) : memWf (putMem n a l s) = true := by
  have hk := coreAt_memWf h n
  unfold putMem
  split
  · apply putCore_memWf h
    simp only [Core.memWf, Bool.and_eq_true] at hk ⊢
    exact ⟨storeBytes_wf _ _ _ hk.1, hk.2⟩
  · split
    · apply putCore_memWf h
      simp only [Core.memWf, Bool.and_eq_true] at hk ⊢
      exact ⟨hk.1, storeBytes_wf _ _ _ hk.2⟩
    · rw [memWf_iff] at h ⊢
      exact ⟨storeBytes_wf _ _ _ h.1, h.2⟩

theorem fold_set_wf (f : Nat → Byte) (a : Nat) (l : List Nat) (m : Table Byte) (h : Table.wf m 0xFF = true) :
    Table.wf (l.foldl (fun t i => t.set (a + i) (f i) 0xFF) m) 0xFF = true := by
  induction l generalizing m with
  | nil => exact h
  | cons i r ih => exact ih _ (Table.set_wf _ _ _ _ h)

/-- Every change of the flash keeps the canonical form. -/
theorem flashPut_memWf {s : State} (h : memWf s = true) (a n : Nat) (f : Nat → Byte) : memWf (flashPut s a n f) = true := by
  rw [memWf_iff] at h ⊢
  exact ⟨h.1, fold_set_wf f a _ _ h.2.1, h.2.2⟩

theorem memOf_above (a : Nat) (l : List Byte) {j : Nat} (h : j < a) : Table.above (memOf a l) j = true := by
  induction l generalizing a with
  | nil => rfl
  | cons x r ih =>
    simp only [memOf]
    split
    · exact ih _ (by omega)
    · simp only [Table.above, List.all_cons, Bool.and_eq_true, decide_eq_true_eq]
      exact ⟨h, by simpa [Table.above] using ih (a + 1) (by omega)⟩

/-- A memory loaded from an image is in canonical form. -/
theorem memOf_wf (a : Nat) (l : List Byte) : Table.wf (memOf a l) 0 = true := by
  induction l generalizing a with
  | nil => rfl
  | cons x r ih =>
    simp only [memOf]
    split
    · exact ih _
    · next hx => rw [Table.wf_cons]; exact ⟨memOf_above _ _ (by omega), hx, ih _⟩

/-- The memories after reset are in canonical form. -/
theorem reset_memWf : memWf State.reset = true := by decide

end Sys2Proof.Machine
end

