-- ==== Sys2Proof/Machine/Lands.lean ====
section
/-!
DEFINITION. The land map of the package: R543 to R548.
-/

namespace Sys2Proof.Machine

/-- The supplies of R549. -/
inductive Rail where
  | core | opt | hsa | hst | laser | pll | io18 | aon
  deriving DecidableEq, Repr

/-- What a land connects. `p` tells the _P land of a pair from its _N. -/
inductive Land where
  | vss
  | rail (r : Rail)
  | hostTx (b l : Nat) (p : Bool)
  | hostRx (b l : Nat) (p : Bool)
  | pcieTx (n : Nat) (p : Bool)
  | pcieRx (n : Nat) (p : Bool)
  | signal (name : String)
  deriving DecidableEq, Repr

/-- The letters of the first band of rows (R543). -/
def rowLetters : List String :=
  ["A", "B", "C", "D", "E", "F", "G", "H", "J", "K", "L", "M", "N", "P", "T", "U", "V", "W", "Y"]

/-- The name of row index i, 1 to 92. -/
def rowName (i : Nat) : String :=
  if i < 77 then ["", "A", "B", "C"].getD ((i - 1) / 19) "" ++ rowLetters.getD ((i - 1) % 19) ""
  else "Y" ++ rowLetters.getD (i - 74) ""

/-- The land of a host lane block (R545), counted from the block's outer edge: row `i` 1 to 20, column `c` 0 to 22. -/
def hostLand (b i c : Nat) : Land :=
  let l (r : Nat) : Nat := 7 * ((i - r) / 2) + c / 3
  if i % 2 = 1 || decide (20 < c) || c % 3 = 2 then .vss
  else if 2 ≤ i ∧ i ≤ 10 ∧ l 2 < 34 then .hostTx b (l 2) (c % 3 = 0)
  else if 12 ≤ i ∧ l 12 < 34 then .hostRx b (l 12) (c % 3 = 0)
  else .vss

/-- The land of PCI Express in column 1 (R546), `i` rows below row 27. -/
def pcieLand (i : Nat) : Land :=
  match i % 5 with
  | 0 => .pcieTx (i / 5) true
  | 1 => .pcieTx (i / 5) false
  | 2 => .pcieRx (i / 5) true
  | 3 => .pcieRx (i / 5) false
  | _ => .vss

/-- Column 92 of rows AH to CJ (R547). -/
def edgeLands : List Land :=
  [.vss, .signal "REFCLK_P", .signal "REFCLK_N", .vss, .signal "XTAL_IN", .signal "XTAL_OUT", .rail .aon, .rail .aon,
   .signal "WAKE_SCL", .signal "WAKE_SDA", .signal "PWR_EN", .signal "PWR_GOOD", .signal "RESET_N", .signal "PCIE_PERST_N",
   .signal "TEST_MODE", .rail .aon, .rail .aon, .signal "PMB_SCL", .signal "PMB_SDA", .signal "UART_TXD", .signal "UART_RXD",
   .signal "XSPI_CS_N", .signal "XSPI_SCLK", .signal "XSPI_DQS", .signal "XSPI_DQ_0", .signal "XSPI_DQ_1",
   .signal "XSPI_DQ_2", .signal "XSPI_DQ_3", .signal "XSPI_DQ_4", .signal "XSPI_DQ_5", .signal "XSPI_DQ_6",
   .signal "XSPI_DQ_7", .vss, .signal "PPS_OUT_A", .signal "PPS_OUT_B", .signal "PPS_IN_A", .signal "PPS_IN_B", .vss,
   .signal "CORE_SENSE_P", .signal "CORE_SENSE_N"]

/-- The land in row index i, column c, each 1 to 92 (R544). -/
def landAt (i c : Nat) : Land :=
  if i ≤ 20 then hostLand ((c - 1) / 23) i ((c - 1) % 23)
  else if i = 21 then .vss
  else if i = 22 then .rail .hsa
  else if i = 23 then .rail .hst
  else if i ≤ 25 then .rail .opt
  else if i = 26 then .rail (if c ≤ 80 then .laser else .io18)
  else if i ≤ 66 then
    if c = 1 then pcieLand (i - 27)
    else if c = 92 then edgeLands.getD (i - 27) .vss
    else if (i + c) % 2 = 0 then .rail .core
    else .vss
  else if i = 67 then
    if c ≤ 56 then .rail .laser
    else if c ≤ 72 then .rail .pll
    else if c = 73 then .signal "TRACE_CLK"
    else if c ≤ 89 then .signal ("TRACE_D_" ++ toString (c - 74))
    else .rail .io18
  else if i ≤ 69 then .rail .opt
  else if i = 70 then .rail .hst
  else if i = 71 then .rail .hsa
  else if i = 72 then .vss
  else hostLand (4 + (c - 1) / 23) (93 - i) ((c - 1) % 23)

/-- The name of a land: its row's name and its column. -/
def landName (i c : Nat) : String := rowName i ++ toString c

/-- A variant connects every land but the host lanes of the beds that it lacks (R548); it has the beds below `beds`. -/
def landUsed (beds : Nat) : Land → Bool
  | .hostTx b _ _ => b < beds
  | .hostRx b _ _ => b < beds
  | _ => true

end Sys2Proof.Machine
end

