-- ==== Sys2Proof/WellFormed.lean ====
section
/-!
DEFINITION. Which commands are well formed: every operand in the range that the spec gives it. Nothing in the meanings rests
on it; a command that is not well formed has no place in the table's encoding of the block's ports.
-/

namespace Sys2Proof

open Sys2Proof.Machine

/-- A source that exists on the largest variant (R3, R18, R347). -/
def srcOk : Src → Bool
  | .pf f => f < 9
  | .trowel n => n < 12
  | .startup => true

/-- Every operand lies in its range: core, channel, port, row, bed and lane numbers, register specifiers and immediate fields
(R366), register offsets (R485). -/
def Instr.wf (i : Instr) : Bool :=
  match i with
  | .registerWrite src off _ => srcOk src && decide (off % 4 = 0) && decide (off < 0x4000000)
  | .modeRequest _ => true
  | .dyingGaspTimeout => true
  | .powerDownComplete => true
  | .deviceReset => true
  | .resetNAssert => true
  | .resetNRelease => true
  | .i2cWake addr => decide (addr < 128)
  | .i2cSideChannelWrite addr _ => decide (addr < 128)
  | .i2cSideChannelRead addr _ => decide (addr < 128)
  | .sentryCycle _ _ _ => true
  | .pwrGoodRise => true
  | .pwrGoodTimeout => true
  | .pwrGoodDrop => true
  | .aonPowerOnReset => true
  | .clockJudgeWindow clk _ => decide (clk < 4)
  | .clockJudgeTimeout clk => decide (clk < 4)
  | .startupSequence _ _ _ off => decide (off < 256)
  | .stockHoldTimeout => true
  | .avsCompute _ => true
  | .avsPoll _ => true
  | .avsTimeout => true
  | .supplyWarning _ => true
  | .supplyWarningSustained => true
  | .supplyReset _ => true
  | .thermalSecond _ _ => true
  | .thermalFastCheck _ _ => true
  | .thermalStateRepeat => true
  | .thermalReset _ => true
  | .wearLedgerWrite _ => true
  | .debugTraceEnable => true
  | .sensorConversionComplete g _ => decide (g < 5)
  | .lrxEnableWrite k _ => decide (k < 64)
  | .ltxEnableWrite k _ => decide (k < 64)
  | .laserSettled _ e => decide (e < 68)
  | .laserLockTimeout _ e => decide (e < 68)
  | .laserLostRetry _ e => decide (e < 68)
  | .segmentAcquire k _ => decide (k < 64)
  | .rxDozeRestore k => decide (k < 64)
  | .rampCommit => true
  | .soaLimitWrite _ => true
  | .losDeclare conn => decide (conn < 2)
  | .losClear conn => decide (conn < 2)
  | .losHoldoffExpiry => true
  | .protectionSwitch => true
  | .switchSettled => true
  | .timingRxChange => true
  | .rxGraftSwitchover k => decide (k < 64)
  | .txGraftSwitchover k => decide (k < 64)
  | .huntSegment k => decide (k < 64)
  | .extRefLoad _ => true
  | .frmExtLoRead k => decide (k < 64)
  | .podDelineate k => decide (k < 64)
  | .trellisEmit => true
  | .trellisPageWrite p _ j _ => decide (p < 2) && decide (j < 4096)
  | .eqdWrite _ => true
  | .eqdApply => true
  | .burstAssemble => true
  | .burstTransmit k => decide (k < 64)
  | .burstEnd k => decide (k < 64)
  | .burstAllocAdd _ => true
  | .allocRemove n => decide (n < 256)
  | .allocRemoveApply n => decide (n < 256)
  | .allocKeyWrite n _ => decide (n < 256)
  | .discAnnounce => true
  | .discResult => true
  | .assignTid => true
  | .rangeResult => true
  | .dcRangePlan => true
  | .dcRangeResult => true
  | .frameRef => true
  | .keyOffer => true
  | .keyConfirm => true
  | .keyLoad => true
  | .assignAlloc => true
  | .removeAlloc => true
  | .activate => true
  | .timeInfo => true
  | .switchTree => true
  | .switchTreeTimeout => true
  | .tribQuery => true
  | .deactivate => true
  | .deactivateHoldExpiry => true
  | .joinRelease => true
  | .joinEnableClear => true
  | .identifiedTimeout => true
  | .rangingTimeout => true
  | .dcRangingTimeout => true
  | .keyingTimeout => true
  | .readyTimeout => true
  | .rekeyRequestRepeat slot => decide (slot < 16384)
  | .tendUpSealedReset => true
  | .timeNowRead src => srcOk src
  | .timeFsRead => true
  | .timeRateCommit _ => true
  | .timeStep _ => true
  | .timeSet _ => true
  | .timeTriggerFire n _ => decide (n < 64)
  | .ppsPulseEnd x => decide (x < 2)
  | .ppsInCapture x p => decide (x < 2) && decide (p < 8)
  | .servoCycle => true
  | .timeMessagesLost => true
  | .holdoverSecond => true
  | .hostFrameReceive P _ _ _ _ => decide (P < 256)
  | .delayReq => true
  | .requestUnicastTransmission => true
  | .cancelUnicastTransmission => true
  | .acknowledgeCancelUnicastTransmission => true
  | .announceSend _ j => decide (j < 131136)
  | .syncSend _ j => decide (j < 131136)
  | .followUpSend => true
  | .drespCreditRefill j => decide (j < 131136)
  | .streamExpiry j => decide (j < 131136)
  | .sprUpsert _ => true
  | .sprRemove _ => true
  | .sprLookup _ => true
  | .sprRead _ => true
  | .sprPortWrite p _ => decide (p < 256)
  | .sieveClassify => true
  | .sieveAcquire src => srcOk src
  | .sieveRelease src => srcOk src
  | .sieveForceRelease => true
  | .sieveOpSubmit src _ => srcOk src
  | .sieveInsert => true
  | .sieveUpdate => true
  | .sieveRemove => true
  | .sieveLookup => true
  | .sieveCommit src => srcOk src
  | .sieveAbort src => srcOk src
  | .sieveVersionRetire v => decide (v < 16)
  | .sieveBedCfgWrite src b _ _ => srcOk src && decide (b < 8)
  | .upstreamAdmission => true
  | .pauseResend P => decide (P < 256)
  | .fcModeWrite P _ => decide (P < 256)
  | .shaperEligible => true
  | .meterSweep m => decide (m < 4096)
  | .meterConfigWrite m which _ => decide (m < 4096) && decide (which < 4)
  | .ledgerRecompute => true
  | .downstreamAdmission => true
  | .portFrameBoundary P => decide (P < 256)
  | .pauseTimerExpiry P q => decide (P < 256) && decide (q < 9)
  | .gateEntryChange g => decide (g < 32)
  | .gateChangeover g => decide (g < 32)
  | .gateListWrite g l reg _ => decide (g < 32) && decide (l < 2) && decide (reg < 260)
  | .podDecrypt g => decide (g < 32)
  | .podEncrypt k => decide (k < 64)
  | .cipherLoad src _ => srcOk src
  | .cipherLoadComplete _ g _ => decide (g < 32)
  | .cipherSeal src _ => srcOk src
  | .cipherErase src _ => srcOk src
  | .cipherSlotStateRead => true
  | .cipherSealPop src => srcOk src
  | .cipherGraftSwitchover g _ => decide (g < 32)
  | .trwAdd n d a b => decide (n < 12) && decide (d < 32) && decide (a < 32) && decide (b < 32)
  | .trwAddc n d a b => decide (n < 12) && decide (d < 32) && decide (a < 32) && decide (b < 32)
  | .trwSub n d a b => decide (n < 12) && decide (d < 32) && decide (a < 32) && decide (b < 32)
  | .trwSubb n d a b => decide (n < 12) && decide (d < 32) && decide (a < 32) && decide (b < 32)
  | .trwAnd n d a b => decide (n < 12) && decide (d < 32) && decide (a < 32) && decide (b < 32)
  | .trwOr n d a b => decide (n < 12) && decide (d < 32) && decide (a < 32) && decide (b < 32)
  | .trwXor n d a b => decide (n < 12) && decide (d < 32) && decide (a < 32) && decide (b < 32)
  | .trwSll n d a b => decide (n < 12) && decide (d < 32) && decide (a < 32) && decide (b < 32)
  | .trwSrl n d a b => decide (n < 12) && decide (d < 32) && decide (a < 32) && decide (b < 32)
  | .trwSra n d a b => decide (n < 12) && decide (d < 32) && decide (a < 32) && decide (b < 32)
  | .trwMin n d a b => decide (n < 12) && decide (d < 32) && decide (a < 32) && decide (b < 32)
  | .trwMax n d a b => decide (n < 12) && decide (d < 32) && decide (a < 32) && decide (b < 32)
  | .trwMul n d a b => decide (n < 12) && decide (d < 32) && decide (a < 32) && decide (b < 32)
  | .trwCls n d a => decide (n < 12) && decide (d < 32) && decide (a < 32)
  | .trwDivq n d a b _ => decide (n < 12) && decide (d < 32) && decide (a < 32) && decide (b < 32)
  | .trwAddi n d a imm => decide (n < 12) && decide (d < 32) && decide (a < 32) && decide (imm < 65536)
  | .trwAndi n d a imm => decide (n < 12) && decide (d < 32) && decide (a < 32) && decide (imm < 65536)
  | .trwOri n d a imm => decide (n < 12) && decide (d < 32) && decide (a < 32) && decide (imm < 65536)
  | .trwXori n d a imm => decide (n < 12) && decide (d < 32) && decide (a < 32) && decide (imm < 65536)
  | .trwLui n d imm => decide (n < 12) && decide (d < 32) && decide (imm < 65536)
  | .trwShi n d a imm => decide (n < 12) && decide (d < 32) && decide (a < 32) && decide (imm < 65536)
  | .trwBeq n a b off => decide (n < 12) && decide (a < 32) && decide (b < 32) && decide (off < 65536)
  | .trwBne n a b off => decide (n < 12) && decide (a < 32) && decide (b < 32) && decide (off < 65536)
  | .trwBlt n a b off => decide (n < 12) && decide (a < 32) && decide (b < 32) && decide (off < 65536)
  | .trwBge n a b off => decide (n < 12) && decide (a < 32) && decide (b < 32) && decide (off < 65536)
  | .trwBltu n a b off => decide (n < 12) && decide (a < 32) && decide (b < 32) && decide (off < 65536)
  | .trwBgeu n a b off => decide (n < 12) && decide (a < 32) && decide (b < 32) && decide (off < 65536)
  | .trwJmp n off => decide (n < 12) && decide (off < 67108864)
  | .trwCall n off => decide (n < 12) && decide (off < 67108864)
  | .trwJr n a => decide (n < 12) && decide (a < 32)
  | .trwCallr n a => decide (n < 12) && decide (a < 32)
  | .trwRet n => decide (n < 12)
  | .trwLdB n d a imm => decide (n < 12) && decide (d < 32) && decide (a < 32) && decide (imm < 65536)
  | .trwLdBu n d a imm => decide (n < 12) && decide (d < 32) && decide (a < 32) && decide (imm < 65536)
  | .trwLdH n d a imm => decide (n < 12) && decide (d < 32) && decide (a < 32) && decide (imm < 65536)
  | .trwLdHu n d a imm => decide (n < 12) && decide (d < 32) && decide (a < 32) && decide (imm < 65536)
  | .trwLdW n d a imm => decide (n < 12) && decide (d < 32) && decide (a < 32) && decide (imm < 65536)
  | .trwLdD n d a imm => decide (n < 12) && decide (d < 32) && decide (a < 32) && decide (imm < 65536)
  | .trwStB n d a imm => decide (n < 12) && decide (d < 32) && decide (a < 32) && decide (imm < 65536)
  | .trwStH n d a imm => decide (n < 12) && decide (d < 32) && decide (a < 32) && decide (imm < 65536)
  | .trwStW n d a imm => decide (n < 12) && decide (d < 32) && decide (a < 32) && decide (imm < 65536)
  | .trwStD n d a imm => decide (n < 12) && decide (d < 32) && decide (a < 32) && decide (imm < 65536)
  | .trwCas n d a b => decide (n < 12) && decide (d < 32) && decide (a < 32) && decide (b < 32)
  | .trwMpy n x a b f => decide (n < 12) && decide (x < 2) && decide (a < 32) && decide (b < 32) && decide (f < 16)
  | .trwMac n x a b f => decide (n < 12) && decide (x < 2) && decide (a < 32) && decide (b < 32) && decide (f < 16)
  | .trwMsu n x a b f => decide (n < 12) && decide (x < 2) && decide (a < 32) && decide (b < 32) && decide (f < 16)
  | .trwMac2 n a b f => decide (n < 12) && decide (a < 32) && decide (b < 32) && decide (f < 16)
  | .trwAclr n x => decide (n < 12) && decide (x < 2)
  | .trwAmov n x y => decide (n < 12) && decide (x < 2) && decide (y < 2)
  | .trwAadd n x y => decide (n < 12) && decide (x < 2) && decide (y < 2)
  | .trwAsub n x y => decide (n < 12) && decide (x < 2) && decide (y < 2)
  | .trwAshl n x imm => decide (n < 12) && decide (x < 2) && decide (imm < 64)
  | .trwAshr n x imm => decide (n < 12) && decide (x < 2) && decide (imm < 64)
  | .trwAshrr n x imm => decide (n < 12) && decide (x < 2) && decide (imm < 64)
  | .trwAaddw n x a imm => decide (n < 12) && decide (x < 2) && decide (a < 32) && decide (imm < 64)
  | .trwAldw n x a imm => decide (n < 12) && decide (x < 2) && decide (a < 32) && decide (imm < 64)
  | .trwMva n d x => decide (n < 12) && decide (d < 32) && decide (x < 2)
  | .trwAneg n x => decide (n < 12) && decide (x < 2)
  | .trwNop n => decide (n < 12)
  | .trwTrap n imm => decide (n < 12) && decide (imm < 64)
  | .trwRett n => decide (n < 12)
  | .trwWait n => decide (n < 12)
  | .trwEvclr n imm => decide (n < 12) && decide (imm < 64)
  | .trwSev n imm => decide (n < 12) && decide (imm < 64)
  | .trwHalt n => decide (n < 12)
  | .trwBreak n => decide (n < 12)
  | .trwSpillw n => decide (n < 12)
  | .trwFillw n => decide (n < 12)
  | .trwMvs n d sys => decide (n < 12) && decide (d < 32) && decide (sys < 256)
  | .trwMsv n sys a => decide (n < 12) && decide (sys < 256) && decide (a < 32)
  | .eventTrap n => decide (n < 12)
  | .coreStart n => decide (n < 12)
  | .coreHalt n => decide (n < 12)
  | .coreResume n => decide (n < 12)
  | .coreRestart n => decide (n < 12)
  | .trowelMemAccess _ _ => true
  | .trowelEvtGo _ => true
  | .p384Generate n => decide (n < 12)
  | .p384Ecdh n => decide (n < 12)
  | .p384Verify n => decide (n < 12)
  | .p384Sign n => decide (n < 12)
  | .p384Complete => true
  | .moverStart src n => srcOk src && decide (n < 16)
  | .moverStop src n => srcOk src && decide (n < 16)
  | .moverDoorbell src n => srcOk src && decide (n < 16)
  | .moverCopy _ _ => true
  | .moverFill _ _ => true
  | .moverInterleave _ _ => true
  | .moverBitplane _ _ => true
  | .moverSieveRecordWrite => true
  | .descriptorComplete _ => true
  | .moverTransportError => true
  | .moverSettleExpiry n _ => decide (n < 16)
  | .rakeFaultEvent _ => true
  | .rakeRecordWrite => true
  | .ringPop ring src => decide (ring < 10) && srcOk src
  | .levelConditionEnd => true
  | .scrubComplete _ _ => true
  | .bankGraftSwitchover _ => true
  | .tileGraftSwitchover _ => true
  | .rakeReturn _ => true
  | .rakeReturnComplete _ => true
  | .rakeInject _ => true
  | .fuseAdvance _ _ => true
  | .fuseRevoke _ _ => true
  | .flashRead src _ => srcOk src
  | .flashProgram src _ => srcOk src
  | .flashErase4k src _ => srcOk src
  | .flashErase64k src _ => srcOk src
  | .flashCommandComplete => true
  | .flashTimeout => true
  | .liveApply _ _ => true
  | .liveApplyCoreRestart => true
  | .pcieLinkUp speed width => decide (speed < 6) && decide (width < 9)
  | .perstAssert => true
  | .functionLevelReset f => decide (f < 9)
  | .holeAccess f off _ => decide (f < 9) && decide (off % 4 = 0) && decide (off < 0x4000000)
  | .featureCommit f => decide (f < 9)
  | .nqEnable f _ _ => decide (f < 9)
  | .nqEntryWrite f _ => decide (f < 9)
  | .nqHeadWrite f _ _ => decide (f < 9)
  | .nqCoalTimeout f _ => decide (f < 9)
  | .nqWriteError f => decide (f < 9)
  | .mbxRequest f _ => decide (f < 9)
  | .mbxDone f _ => decide (f < 9)
  | .mbxTimeout f => decide (f < 9)
  | .bedReset src b => srcOk src && decide (b < 8)
  | .bedResetComplete b => decide (b < 8)
  | .uartRxFrame _ _ => true
  | .uartDataWrite src _ => srcOk src
  | .uartDataPop src => srcOk src
  | .hlRowModeWrite g _ => decide (g < 32)
  | .hlLaneCtrlWrite b l _ => decide (b < 8) && decide (l < 34)
  | .txeqWrite b l _ => decide (b < 8) && decide (l < 34)
  | .laneLock b l => decide (b < 8) && decide (l < 34)
  | .portUp P => decide (P < 256)
  | .portLinkLoss P why => decide (P < 256) && decide (why < 3)
  | .laneSerWindow b l _ _ => decide (b < 8) && decide (l < 34)
  | .helloSend b => decide (b < 8)
  | .hello P => decide (P < 256)
  | .partnerHsExpiry b => decide (b < 8)
  | .accept P => decide (P < 256)
  | .laneGraftSwitch q => decide (q < 272) && decide (32 ≤ q % 34)
  | .ready P => decide (P < 256)
  | .abort P => decide (P < 256)
  | .graftAcceptTimeout q => decide (q < 272) && decide (32 ≤ q % 34)
  | .graftReadyTimeout q => decide (q < 272) && decide (32 ≤ q % 34)
  | .faultReport P => decide (P < 256)
  | .txDozeEnter P => decide (P < 256)
  | .txDozeWake P => decide (P < 256)
  | .txDoze P => decide (P < 256)
  | .rxDozeWake P => decide (P < 256)
  | .vddAonPowerOn => true
  | .illegalInstruction n _ => decide (n < 12)
  | .readClearAccess src off => srcOk src && decide (off < 0x4000000)
  | .sensorAutoConversion => true
  | .uartTxByteSent => true
  | .tenantResetEnWrite b _ => decide (b < 8)
  | .rxDozeAlignTimeout P => decide (P < 256)

end Sys2Proof
end

