-- ==== Sys2Proof/Tests/Slice0.lean ====
section
/-!
SUPPORT. The model's own tests: every check of well-formedness refuses an ill-formed command; small commands give the results
that the spec states; and for each statement of Obligations.lean that has hypotheses, concrete states and operands that meet
them, clause by clause (witness_<name>). The proofs are checked one after another, since several evaluate long terms.
-/

namespace Sys2Proof.Tests

open Sys2Proof Sys2Proof.Machine

set_option Elab.async false

/-- The state `s` with register fields set. -/
def w (l : List (Fld × Nat)) (s : State := State.reset) : State := l.foldl (fun t e => wr t e.1 e.2) s

/-- Core 0 running with record `k`. -/
def core (k : Core) (l : List (Fld × Nat) := []) : State := putCore (w ((TROWEL_CORE_STATUS.STATE 0, 1) :: l)) 0 k

/-- A core record in task mode, window 0, whose one region grants every right on the first 8 MiB. -/
def task : Core := { status := 0, prl := [(0, 0x800007)] }

/-- A core record in task mode with registers set. -/
def taskR (l : List (Nat × Nat)) : Core := l.foldl (fun k e => k.setReg e.1 e.2) task

/-- A command or step answers a next state of which `p` holds. -/
def ends (o : Host.Outcome State Fault Refusal) (p : State → Bool) : Bool :=
  match o with
  | .next t => p t
  | _ => false

/-- The fused variant 0, 1 or 2 in place of the NL-7720-64 (R3). -/
def variant (v : Nat) (s : State := State.reset) : State := { s with fuses := { s.fuses with variant := v } }

/-! ### Well-formed commands -/

theorem test_wf_srcPf : (Instr.timeNowRead (.pf 9)).wf = false ∧ (Instr.timeNowRead (.pf 8)).wf = true := by decide
theorem test_wf_srcTrowel : (Instr.timeNowRead (.trowel 12)).wf = false ∧ (Instr.timeNowRead (.trowel 11)).wf = true := by decide
theorem test_wf_offset : (Instr.readClearAccess (.pf 0) 0x4000000).wf = false ∧ (Instr.readClearAccess (.pf 0) 2).wf = true ∧ (Instr.registerWrite (.pf 0) 0x4000000 0).wf = false ∧
    (Instr.holeAccess 0 0x4000000 true).wf = false ∧ (Instr.registerWrite (.pf 0) 0x3FFFFFC 0).wf = true := by decide
theorem test_wf_i2c : (Instr.i2cWake 128).wf = false ∧ (Instr.i2cWake 127).wf = true := by decide
theorem test_wf_clock : (Instr.clockJudgeTimeout 4).wf = false ∧ (Instr.clockJudgeTimeout 3).wf = true := by decide
theorem test_wf_rails : (Instr.startupSequence [] false false 256).wf = false ∧ (Instr.startupSequence [] false false 255).wf = true := by
  decide
theorem test_wf_sensor : (Instr.sensorConversionComplete 5 []).wf = false ∧ (Instr.sensorConversionComplete 4 []).wf = true := by decide
theorem test_wf_channel : (Instr.huntSegment 64).wf = false ∧ (Instr.huntSegment 63).wf = true := by decide
theorem test_wf_engine : (Instr.laserSettled true 68).wf = false ∧ (Instr.laserSettled true 67).wf = true := by decide
theorem test_wf_connector : (Instr.losDeclare 2).wf = false ∧ (Instr.losDeclare 1).wf = true := by decide
theorem test_wf_trellis : (Instr.trellisPageWrite 2 false 0 0).wf = false ∧ (Instr.trellisPageWrite 1 false 4096 0).wf = false ∧
    (Instr.trellisPageWrite 1 false 4095 0).wf = true := by decide
theorem test_wf_allocation : (Instr.allocRemove 256).wf = false ∧ (Instr.allocRemove 255).wf = true := by decide
theorem test_wf_keySlot : (Instr.rekeyRequestRepeat 16384).wf = false ∧ (Instr.rekeyRequestRepeat 16383).wf = true := by decide
theorem test_wf_trigger : (Instr.timeTriggerFire 64 []).wf = false ∧ (Instr.timeTriggerFire 63 []).wf = true := by decide
theorem test_wf_pps : (Instr.ppsInCapture 0 8).wf = false ∧ (Instr.ppsInCapture 2 0).wf = false ∧ (Instr.ppsInCapture 1 7).wf = true := by
  decide
theorem test_wf_port : (Instr.hello 256).wf = false ∧ (Instr.hello 255).wf = true := by decide
theorem test_wf_client : (Instr.streamExpiry 131136).wf = false ∧ (Instr.streamExpiry 131135).wf = true := by decide
theorem test_wf_version : (Instr.sieveVersionRetire 16).wf = false ∧ (Instr.sieveVersionRetire 15).wf = true := by decide
theorem test_wf_bed : (Instr.bedReset (.pf 0) 8).wf = false ∧ (Instr.bedReset (.pf 0) 7).wf = true := by decide
theorem test_wf_row : (Instr.gateChangeover 32).wf = false ∧ (Instr.gateChangeover 31).wf = true := by decide
theorem test_wf_meter : (Instr.meterSweep 4096).wf = false ∧ (Instr.meterConfigWrite 0 4 0).wf = false ∧
    (Instr.meterSweep 4095).wf = true := by decide
theorem test_wf_priority : (Instr.pauseTimerExpiry 0 9).wf = false ∧ (Instr.pauseTimerExpiry 0 8).wf = true := by decide
theorem test_wf_gateList : (Instr.gateListWrite 0 2 0 0).wf = false ∧ (Instr.gateListWrite 0 1 260 0).wf = false ∧
    (Instr.gateListWrite 0 1 259 0).wf = true := by decide
theorem test_wf_core : (Instr.trwNop 12).wf = false ∧ (Instr.trwNop 11).wf = true := by decide
theorem test_wf_register : (Instr.trwAdd 0 32 0 0).wf = false ∧ (Instr.trwAdd 0 31 0 31).wf = true := by decide
theorem test_wf_immediate : (Instr.trwAddi 0 0 0 65536).wf = false ∧ (Instr.trwJmp 0 67108864).wf = false ∧
    (Instr.trwTrap 0 64).wf = false ∧ (Instr.trwAddi 0 0 0 65535).wf = true := by decide
theorem test_wf_accumulator : (Instr.trwAclr 0 2).wf = false ∧ (Instr.trwMpy 0 0 0 0 16).wf = false ∧ (Instr.trwAclr 0 1).wf = true := by
  decide
theorem test_wf_systemRegister : (Instr.trwMvs 0 0 256).wf = false ∧ (Instr.trwMvs 0 0 255).wf = true := by decide
theorem test_wf_moverChannel : (Instr.moverStart (.pf 0) 16).wf = false ∧ (Instr.moverStart (.pf 0) 15).wf = true := by decide
theorem test_wf_ring : (Instr.ringPop 10 (.pf 0)).wf = false ∧ (Instr.ringPop 9 (.pf 0)).wf = true := by decide
theorem test_wf_pcie : (Instr.pcieLinkUp 6 8).wf = false ∧ (Instr.pcieLinkUp 5 9).wf = false ∧ (Instr.pcieLinkUp 5 8).wf = true := by decide
theorem test_wf_function : (Instr.functionLevelReset 9).wf = false ∧ (Instr.functionLevelReset 8).wf = true := by decide
theorem test_wf_lane : (Instr.laneLock 0 34).wf = false ∧ (Instr.laneLock 0 33).wf = true := by decide
theorem test_wf_why : (Instr.portLinkLoss 0 3).wf = false ∧ (Instr.portLinkLoss 0 2).wf = true := by decide

/-! ### The queue and reset -/

/-- The command in front runs at the next step, with the rest left waiting. -/
theorem test_step_front : step { State.reset with pending := [.allocRemoveApply 0, .trwNop 0] } =
    exec (.allocRemoveApply 0) { State.reset with pending := [.trwNop 0] } := rfl

theorem test_reset_mode : mode State.reset = 2 := by decide

theorem witness_StepRunsFrontCommand : ({ State.reset with pending := [.trwNop 0] } : State).pending = .trwNop 0 :: [] := rfl

theorem witness_IdleStepCountsTimeOnly : State.reset.pending = [] ∧ 2 ≤ rd State.reset MODE_STATUS.MODE ∧ State.reset.time.c < 2 ^ 64 ∧
    rd (w [(MODE_STATUS.MODE, 1)]) MODE_STATUS.MODE < 2 ∧ (w [(MODE_STATUS.MODE, 1)]).pending = [] := by decide

/-- Words written out from R366 and R368 to R372: SUB W1, W2, W3 on core 0; TRAP 5 on core 11; an illegal word. -/
theorem test_words : decodeTableWord 32 0b000001_00001_00010_00011_00000000010 = some (.trwSub 0 1 2 3) ∧
    decodeTableWord 40 (11 * 2 ^ 32 + 0b110010_000101_00000000000000_000001) = some (.trwTrap 11 5) ∧
    decodeTableWord 32 0 = none ∧ decodeTableWord 16 0x0443 = none := by decide

/-- TIME counts at an idle step, and wraps. -/
theorem test_idle_wraps :
    ends (step { State.reset with time := { State.reset.time with c := 2 ^ 64 - 1 } }) (fun t => t.time.c = 0) = true := by decide

theorem witness_FusesNeverGoBack : fusesFrom State.reset.fuses State.reset.fuses ∧
    ∃ t, step { State.reset with pending := [.allocRemoveApply 0] } = .next t :=
  ⟨⟨rfl, rfl, rfl, rfl, rfl, rfl, rfl, rfl, Nat.le_refl _, fun _ h => h⟩, _, rfl⟩

/-! ### Register accesses -/

theorem witness_AccessCodesOfRegisterFields :
    let fs := [LINE_STATUS.CONN, LINE_STATUS.RAMP_ERR, LINE_CTRL.HOLDOFF, LRX_CORR.COUNT 0]
    (fs.map Fld.key).Nodup ∧ LINE_STATUS.CONN.acc = .ro ∧ LINE_STATUS.RAMP_ERR.acc = .w1c ∧ LINE_CTRL.HOLDOFF.acc = .rw ∧
      (LRX_CORR.COUNT 0).acc = .rc ∧ rd State.reset LINE_STATUS.RAMP_ERR < 2 ^ LINE_STATUS.RAMP_ERR.width ∧
      (let gs := [SIEVE_LOCK.FORCE_RELEASE, SIEVE_LOCK.RELEASE, LINE_CTRL.RAMP_COMMIT, LINE_CTRL.HOLDOFF]
       (gs.map Fld.key).Nodup ∧ SIEVE_LOCK.RELEASE.acc = .wo ∧ LINE_CTRL.RAMP_COMMIT.acc = .rw1s ∧ (∀ f ∈ gs, rd State.reset f < 2 ^ f.width) ∧
         gs.Pairwise (fun f g => f.lsb + f.width ≤ g.lsb ∨ g.lsb + g.width ≤ f.lsb)) := by decide

/-- The fields of a register that the reset machine has, its key list without repeats. -/
def regHere (a : Nat) (p : List Fld → Bool) : Bool :=
  (regAt State.reset a).any fun x => x.2.2 && decide (x.2.1.map Fld.key).Nodup && p x.2.1

theorem witness_RegisterAccessReachesRegister :
    (∀ a ∈ [0x30000C, 0x20003C, 0x200040, 0x240010, 0x240014, 0x240018, 0x24001C, 0x700000, 0xA00000, 0xE00000, 0x300100, 0x30013C, 0x240020,
        0x24002C, 0xB00100, 0xB001F8], regHere a (fun l => l.all fun f => f.acc = .rw || f.acc = .ro) = true) ∧
    (∀ a ∈ [0xA00008, 0x300004], regHere a (fun l => l.any fun f => f.acc = .w1c) = true) ∧
    (∀ a ∈ [0x240080, 0xE00004, JOIN_DISC.SENT.addr], regHere a (fun l => l.any fun f => f.acc = .rc) = true) ∧
    (0x400004 ≤ JOIN_DISC.SENT.addr ∧ JOIN_DISC.SENT.addr < 0x500000) ∧
    (8 < fns State.reset ∧ fnQuiet State.reset 8 = false ∧
      fnQuiet { State.reset with mgmt := { State.reset.mgmt with perst := true } } 8 = true) ∧
    regHere 0xD0C000 (fun _ => true) = true ∧ regHere 0xD0E000 (fun _ => true) = true := by decide +kernel

/-- A write and a read of TIME_JUMP by PF0 (R10). -/
theorem test_register_write : ends (exec (.registerWrite (.pf 0) 0x20003C 12345) State.reset)
    (fun t => rd t TIME_JUMP.THRESH = 12345 && ends (exec (.readClearAccess (.pf 0) 0x20003D) t) (fun u => u.readData = 12345)) = true := by
  decide +kernel

theorem witness_HolesAreCountedAndHarmless :
    0 < fns State.reset ∧ isHole State.reset 0 (0xFFC / 4 * 4) true = true ∧ isHole State.reset 0 (0xFFC / 4 * 4) false = true ∧
      featOn State.reset 0 5 = false ∧ featOn (w [(NEGOTIATED.V 0 0, 32)]) 0 5 = true ∧ fns (w [(NEGOTIATED.V 0 0, 32)]) ≠ 0 ∧
      isHole (w [(NEGOTIATED.V 0 0, 32)]) 0 (0xFFC / 4 * 4) true = true ∧
      (let a := (LRX_STATUS.LASER 63).addr
       ((regAt (variant 2) a).any fun x => !x.2.2) = true ∧ a % 4 = 0 ∧ a < 0x1000000) := by decide +kernel

/-! ### Trowel cores -/

theorem witness_TrowelSumsSetFlags : coreReady (core (taskR [(1, 0xFFFFFFFF), (2, 1)])) 0 ∧ okReg 31 = true ∧ okReg 23 = true ∧
    0xFFFF < 2 ^ 16 := by unfold coreReady; decide

/-- ADD wraps and carries; the destination may be a source. -/
theorem test_add_wraps : ends (exec (.trwAdd 0 1 1 2) (core (taskR [(1, 0xFFFFFFFF), (2, 1)])))
    (fun t => (coreAt t 0).reg 1 = 0 && (coreAt t 0).flagC && (coreAt t 0).flagZ && !(coreAt t 0).flagV && (coreAt t 0).pc = 4) = true := by
  decide

/-- SUB borrows: C is 0. -/
theorem test_sub_borrows : ends (exec (.trwSub 0 3 1 2) (core (taskR [(1, 0x80000000), (2, 0x80000001)])))
    (fun t => (coreAt t 0).reg 3 = 0xFFFFFFFF && !(coreAt t 0).flagC && (coreAt t 0).flagN) = true := by decide

theorem witness_TrowelBitwiseResults : coreReady (core task) 0 ∧ okReg 0 = true ∧ okReg 31 = true ∧ 0 < 2 ^ 16 := by
  unfold coreReady; decide

theorem witness_TrowelShiftsAndShiImmediate : coreReady (core task) 0 ∧ okReg 0 = true ∧ 31 < 32 ∧ 3 * 2 ^ 14 < 2 ^ 16 ∧
    3 * 2 ^ 14 ≤ 3 * 2 ^ 14 ∧ (32 / 32 % 512 ≠ 0) ∧ (coreAt (core task) 0).trapMode = false := by unfold coreReady; decide

/-- A shift by 32 leaves 0 and moves the last bit into C. -/
theorem test_srl_32 : ends (exec (.trwSrl 0 3 1 2) (core (taskR [(1, 0x80000000), (2, 32)])))
    (fun t => (coreAt t 0).reg 3 = 0 && (coreAt t 0).flagC) = true := by decide

theorem witness_TrowelExtremaProductsQuotients :
    coreReady (core (taskR [(2, 7), (4, 2)])) 0 ∧ okReg 0 = true ∧ okReg 2 = true ∧ okReg 4 = true ∧ 0 % 2 = 0 ∧
      ¬((2 : Int) = 0 ∨ (2 : Int) ^ 32 ≤ (7 : Int).tdiv 2) ∧ ((0 : Int) = 0 ∨ (2 : Int) ^ 32 ≤ (7 : Int).tdiv 0) ∧
      (coreAt (core task) 0).trapMode = false := by unfold coreReady; decide

/-- DIVQ of −7 by 2 rounds toward 0. -/
theorem test_divq_signed : ends (exec (.trwDivq 0 0 2 4 true) (core (taskR [(2, 0xFFFFFFF9), (3, 0xFFFFFFFF), (4, 2)])))
    (fun t => (coreAt t 0).reg 0 = 0xFFFFFFFD && (coreAt t 0).reg 1 = 0xFFFFFFFF) = true := by decide

theorem witness_TrowelBranchesMovePcOnly : coreReady (core task) 0 ∧ okReg 1 = true ∧ okReg 31 = true ∧ 0x8000 < 2 ^ 16 ∧
    0x2000000 < 2 ^ 26 := by unfold coreReady; decide

/-- A branch goes back. -/
theorem test_beq_back : ends (exec (.trwBeq 0 1 2 0xFFFF) (core { task with pc := 8 })) (fun t => (coreAt t 0).pc = 4) = true := by decide

theorem witness_TrowelCallsAndReturnsMoveWindows :
    coreReady (core task) 0 ∧ (coreAt (core task) 0).trapMode = false ∧ (coreAt (core task) 0).depth ≤ 4 ∧
      coreReady (core { task with status := 4 * 2 ^ 23 }) 0 ∧ (coreAt (core { task with status := 4 * 2 ^ 23 }) 0).depth ≤ 4 ∧
      coreReady (core { task with status := 5 * 2 ^ 23 }) 0 ∧ (coreAt (core { task with status := 5 * 2 ^ 23 }) 0).depth = 5 ∧
      1 ≤ (coreAt (core { task with status := 5 * 2 ^ 23 }) 0).depth ∧ (coreAt (core task) 0).depth = 0 ∧
      coreReady (core {}) 0 ∧ (coreAt (core {}) 0).trapMode = true ∧ okReg 23 = true ∧ 0 < 2 ^ 26 := by unfold coreReady; decide

/-- A CALL leaves the return address in W11 of the next window. -/
theorem test_call : ends (exec (.trwCall 0 4) (core task))
    (fun t => (coreAt t 0).pc = 16 && (coreAt t 0).cwp = 1 && (coreAt t 0).depth = 1 && (coreAt t 0).reg 11 = 4) = true := by decide

theorem witness_TrowelMultipliesUnderR361 : coreReady (core task) 0 ∧ okReg 31 = true ∧ 1 ≤ 1 ∧ 15 < 16 ∧ 3 < 4 := by
  unfold coreReady; decide

/-- MAC in SAT mode clamps and raises SV and AVA. -/
theorem test_mac_clamps : ends (exec (.trwMac 0 0 1 1 0) (core { taskR [(1, 1)] with status := 2 ^ 29, accA := 2 ^ 39 - 1 }))
    (fun t => (coreAt t 0).accA = 2 ^ 39 - 1 && bitAt (coreAt t 0).status 4 && bitAt (coreAt t 0).status 7) = true := by decide

theorem witness_TrowelAccumulatorOperations : coreReady (core task) 0 ∧ 1 ≤ 1 ∧ 0 ≤ 1 ∧ okReg 31 = true ∧ 63 < 64 ∧ 39 ≤ 39 ∧ 8 ≤ 8 ∧
    39 < 40 ∧ 8 < 9 ∧ (coreAt (core task) 0).trapMode = false := by unfold coreReady; decide

/-- ASHRR rounds a tie to even. -/
theorem test_ashrr_tie : ends (exec (.trwAshrr 0 0 1) (core { task with accA := 5 })) (fun t => (coreAt t 0).accA = 2) = true := by decide

theorem witness_TrowelMvaAutoscales : coreReady (core { task with accA := 2 ^ 39 - 1 }) 0 ∧ okReg 31 = true ∧ 0 ≤ 1 ∧
    (coreAt (core { task with status := 2 ^ 29 }) 0).sat = true ∧ coreReady (core { task with status := 2 ^ 29 }) 0 ∧
    (coreAt (core task) 0).sat = false ∧ bitAt (coreAt (core task) 0).scale 31 = true ∧
    coreReady (core { task with scale := 0 }) 0 ∧ bitAt (coreAt (core { task with scale := 0 }) 0).scale 31 = false := by
  unfold coreReady; decide

/-- MVA in native mode with AUTO shifts the largest value by 8 and saturates it. -/
theorem test_mva_full : ends (exec (.trwMva 0 3 0) (core { task with accA := 2 ^ 39 - 1 }))
    (fun t => (coreAt t 0).reg 3 = 0x7FFFFFFF && (coreAt t 0).scale / 65536 % 16 = 8 && bitAt (coreAt t 0).status 6) = true := by decide

/-- The base register 1 of the memory witnesses. -/
def memCore (a : Nat) : State := core (taskR [(1, a)])

theorem witness_TrowelLoadsReadMemory :
    coreReady (memCore 0x100000) 0 ∧ lOk true 2 1 0 1 = true ∧ (coreAt (memCore 0x100000) 0).address 1 0 = .ok (0x100000, none) ∧
      (coreAt (memCore 0x100000) 0).memCheck .load 0x100000 8 = none ∧ plainMem 0x100000 = true ∧ plainMem 0x100004 = true ∧
      lOk true 2 1 0x4004 8 = true ∧ (coreAt (memCore 0x100000) 0).address 1 0x4004 = .ok (0x100000, some 0x100004) ∧
      coreReady (memCore 0x7FFFFF) 0 ∧ (coreAt (memCore 0x7FFFFF) 0).memCheck .load 0x7FFFFF 1 = none ∧ plainMem 0x7FFFFF = true := by
  unfold coreReady; refine ⟨?_, ?_, rfl, ?_, ?_, ?_, ?_, rfl, ?_, ?_, ?_⟩ <;> decide

theorem witness_TrowelStoresWriteMemory :
    coreReady (memCore 0x400000) 0 ∧ lOk false 2 1 0 8 = true ∧ (coreAt (memCore 0x400000) 0).address 1 0 = .ok (0x400000, none) ∧
      (coreAt (memCore 0x400000) 0).memCheck .store 0x400000 8 = none ∧ plainMem 0x400000 = true ∧ plainMem 0x400004 = true := by
  unfold coreReady; refine ⟨?_, ?_, rfl, ?_, ?_, ?_⟩ <;> decide

/-- A store is little-endian, and a load with post-increment moves its base. -/
theorem test_store_order : ends (exec (.trwStH 0 2 1 0) (core (taskR [(1, 0x400010), (2, 0x1234)])))
    (fun t => t.common = [(0x400010, 0x34), (0x400011, 0x12)]) = true := by decide
theorem test_load_signed : ends (exec (.trwLdB 0 2 1 0x4001) { memCore 0x400010 with common := [(0x400010, 0x80)] })
    (fun t => (coreAt t 0).reg 2 = 0xFFFFFF80 && (coreAt t 0).reg 1 = 0x400011) = true := by decide

theorem witness_TrowelCasExchangesOnEquality :
    coreReady (memCore 0x400000) 0 ∧ okReg 31 = true ∧ okReg 1 = true ∧ okReg 2 = true ∧ 0x400000 % 4 = 0 ∧
      (coreAt (memCore 0x400000) 0).reg 1 = 0x400000 ∧
      (∀ i, i < 4 → (coreAt (memCore 0x400000) 0).granted .load (0x400000 + i) = true ∧
        (coreAt (memCore 0x400000) 0).granted .store (0x400000 + i) = true) ∧
      coreReady (memCore 0x7FFFFC) 0 ∧ (coreAt (memCore 0x7FFFFC) 0).reg 1 < 0x800000 ∧
      coreReady (memCore 0x400002) 0 ∧ (coreAt (memCore 0x400002) 0).reg 1 % 4 ≠ 0 ∧ (coreAt (memCore 0x400002) 0).trapMode = false := by
  unfold coreReady; decide

theorem witness_TrowelTrapsSaveAndReturnRestores :
    coreReady (core task) 0 ∧ (coreAt (core task) 0).trapMode = false ∧ coreReady (core {}) 0 ∧ (coreAt (core {}) 0).trapMode = true ∧
      rd (core task) (TROWEL_CORE_CTRL.DEBUG 0) = 0 ∧ illegalWord 0xFFFFFFFF = true ∧ 63 < 64 ∧
      (let k : Core := { task with status := 2 ^ 30, evtPend := 0x28, evtMask := 0x38 }
       coreRuns (core k) 0 = true ∧ (coreAt (core k) 0).ie = true ∧ (coreAt (core k) 0).trapMode = false ∧
         bitAt k.evtPend 3 = true ∧ bitAt k.evtMask 3 = true ∧ ∀ j, j < 3 → ¬(bitAt k.evtPend j = true ∧ bitAt k.evtMask j = true)) := by
  unfold coreReady; decide

theorem witness_TrowelWaitEventsAndHalts :
    coreReady (core { task with evtPend := 1, evtMask := 1 }) 0 ∧ (coreAt (core { task with evtPend := 1, evtMask := 1 }) 0).admitted = true ∧
      coreReady (core task) 0 ∧ (coreAt (core task) 0).admitted = false ∧ 55 ≤ 55 ∧ 56 < 64 ∧ coreReady (core {}) 0 ∧
      (coreAt (core {}) 0).trapMode = true ∧ coreReady (core task [(TROWEL_CORE_CTRL.DEBUG 0, 1)]) 0 ∧
      rd (core task [(TROWEL_CORE_CTRL.DEBUG 0, 1)]) (TROWEL_CORE_CTRL.DEBUG 0) = 1 ∧ 0 < cores (core task) ∧
      rd (core task) (TROWEL_CORE_STATUS.STATE 0) = 1 ∧ rd (core task) (TROWEL_CORE_STATUS.STATE 1) ≠ 1 ∧
      rd (core task) (TROWEL_CORE_STATUS.STATE 1) ≠ 2 := by unfold coreReady; decide

/-- A core record in trap mode with a window saved: TDEPTH and K7. -/
def trapR (d k7 : Nat) : Core := { tstatus := d * 2 ^ 23, k := [(7, k7)] }

theorem witness_TrowelSpillsAndFillsWindows :
    (∀ d ∈ [1, 5], coreReady (core (trapR d 0x180000)) 0 ∧ (coreAt (core (trapR d 0x180000)) 0).trapMode = true ∧
      (coreAt (core (trapR d 0x180000)) 0).tdepth = d) ∧
      ((coreAt (core (trapR 1 0x180000)) 0).reg 23 + 2 ^ 32 - 48) % 2 ^ 32 = 0x17FFD0 ∧ 0x17FFD0 + 48 ≤ 0x180000 ∧
      (∀ d ∈ [0, 4], coreReady (core (trapR d 0x17FFD0)) 0 ∧ (coreAt (core (trapR d 0x17FFD0)) 0).trapMode = true ∧
        (coreAt (core (trapR d 0x17FFD0)) 0).tdepth = d ∧ (coreAt (core (trapR d 0x17FFD0)) 0).reg 23 = 0x17FFD0) ∧
      coreReady (core task) 0 ∧ (coreAt (core task) 0).trapMode = false := by unfold coreReady; decide +kernel

/-- SPILLW stores the oldest window below K7 and lowers TDEPTH. -/
theorem test_spillw : ends (exec (.trwSpillw 0) (core { trapR 1 0x180000 with win := [(72, 0x11223344)] }))
    (fun t => (coreAt t 0).reg 23 = 0x17FFD0 && (coreAt t 0).tdepth = 0 && (coreAt t 0).dmem.get 0x7FFD0 0 = 0x44) = true := by
  decide +kernel

theorem witness_TrowelSystemRegisterRights :
    coreReady (core {}) 0 ∧ okReg 31 = true ∧ 255 < 256 ∧ (coreAt (core {}) 0).trapMode = true ∧ 27 ≤ 27 ∧ (32 ≤ 47 ∧ 47 ≤ 47) ∧ 0 ≠ 20 ∧
      coreReady (core task) 0 ∧ (coreAt (core task) 0).trapMode = false ∧ (2 ≤ 6 ∧ 6 ≤ 6) ∧ ¬(28 ≤ 27 ∨ (32 ≤ 28 ∧ 28 ≤ 47)) ∧
      ¬(48 ≤ 27 ∨ (32 ≤ 48 ∧ 48 ≤ 47)) ∧ ¬((2 ≤ 0 ∧ 0 ≤ 6) ∨ 32 ≤ 0) := by unfold coreReady; decide

/-- VBASE keeps 4 KiB alignment. -/
theorem test_msv_vbase : ends (exec (.trwMsv 0 6 16) (core { k := [(0, 0x12345)] })) (fun t => (coreAt t 0).vbase = 0x12000) = true := by
  decide +kernel

theorem witness_TrowelCoreControl :
    let st (v : Nat) := (TROWEL_CORE_STATUS.STATE 0, v)
    let cause (v : Nat) := (TROWEL_CORE_STATUS.HALT_CAUSE 0, v)
    0 < cores (w [st 1]) ∧ rd (w [st 1]) (TROWEL_CORE_STATUS.STATE 0) = 1 ∧ rd (w [st 2]) (TROWEL_CORE_STATUS.STATE 0) = 2 ∧
      (∀ c ∈ [1, 3, 4, 5], rd (w [st 3, cause c]) (TROWEL_CORE_STATUS.STATE 0) = 3 ∧ rd (w [st 3, cause c]) (TROWEL_CORE_STATUS.HALT_CAUSE 0) = c) ∧
      rd (w [st 5]) (TROWEL_CORE_STATUS.STATE 0) = 5 ∧ rd (w [st 4]) (TROWEL_CORE_STATUS.STATE 0) ≠ 5 ∧
      (let s : State := { w [st 4] with boot := { State.reset.boot with page0 := { imem := [(0, [])] } } }
       rd s (TROWEL_CORE_STATUS.STATE 0) = 4 ∧ (activePage s).imem.has 0 = true ∧ rd s (TROWEL_CORE_CTRL.HALT 0) = 0) := by decide +kernel

theorem witness_TrowelHostWindowAndEvents :
    let s := w [(TROWEL_CORE_STATUS.STATE 0, 3), (TROWEL_MEM_ADDR.OFFSET, 0x1FFFF)]
    rd s TROWEL_MEM_ADDR.CORE < cores s ∧ rd s (TROWEL_CORE_STATUS.STATE (rd s TROWEL_MEM_ADDR.CORE)) = 3 ∧
      rd State.reset (TROWEL_CORE_STATUS.STATE (rd State.reset TROWEL_MEM_ADDR.CORE)) ≠ 3 ∧
      (∀ e ∈ [55, 56], 2 ^ 31 ≤ ((0x80000000 : Word) + BitVec.ofNat 32 e).toNat ∧ ((0x80000000 : Word) + BitVec.ofNat 32 e).toNat % 64 = e) ∧
      (let u := w [(TROWEL_CORE_STATUS.STATE 0, 2)] (core { evtMask := 2 ^ 55 })
       rd u (TROWEL_CORE_STATUS.STATE 0) = 2 ∧ bitAt (coreAt u 0).evtMask 55 = true) := by decide +kernel

theorem witness_TrowelAssistAndDeviceRegisters :
    coreRuns (core {}) 0 = true ∧ (core {}).p384.busy = false ∧
      (∀ c ∈ [1, 2, 3, 4], let s : State := { core {} with p384 := { cmd := c, busy := true } }
        coreRuns s 0 = true ∧ s.p384.busy = true ∧ s.p384.cmd = c ∧ s.p384.eph = none) ∧
      coreReady (core (({} : Core).setReg 16 0x10300000)) 0 ∧ lOk true 17 16 0 4 = true ∧ lOk false 17 16 0 4 = true ∧
      (coreAt (core (({} : Core).setReg 16 0x10300000)) 0).address 16 0 = .ok (0x10300000, none) ∧
      (coreAt (core (({} : Core).setReg 16 0x10300000)) 0).memCheck .load 0x10300000 4 = none ∧
      (coreAt (core (({} : Core).setReg 16 0x10300000)) 0).memCheck .store 0x10300000 4 = none ∧ isDev 0x10300000 = true := by
  unfold coreReady; refine ⟨?_, ?_, ?_, ?_, ?_, ?_, rfl, ?_, ?_, ?_⟩ <;> decide +kernel

/-- The assist busy with command 2, key 1 held: with the curve's generator as the peer key, and with no key. -/
theorem witness_Ecdh :
    let s (l : List Byte) : State := { core {} with p384 := { cmd := 2, busy := true, eph := some 1, data := storeBytes (storeBytes [] 0 l) 288 [0, 1, 0, 2] } }
    (ecdhX 1 (p384Bytes (s (secOf1 (some p384G))) 0 97)).isSome = true ∧ ecdhX 1 (p384Bytes (s []) 0 97) = none ∧
      beNat (p384Bytes (s []) 288 2) = 1 ∧ beNat (p384Bytes (s []) 290 2) = 2 ∧ (s []).cipher.loads = [] ∧ (s []).cipher.wait = [] := by
  refine ⟨?_, ?_, ?_, ?_, ?_, ?_⟩ <;> decide +kernel

/-! ### The block mover -/

theorem witness_MoverChannelStateTable :
    15 < 16 ∧ mvCode (.trowel 11) = 2 ∧
      (∀ st ∈ [0, 1, 2, 3, 4, 5],
        let s := w [(MV_CH_STATUS.STATE 15, st), (MV_CH_STATUS.STARTER 15, 2)]
        mvMay s 15 (mvCode (.trowel 0)) = true ∧ rd s (MV_CH_STATUS.STATE 15) = st ∧ (st ≠ 0 → mvMay s 15 (mvCode (.pf 0)) = false)) ∧
      mvMay State.reset 0 (mvCode .startup) = true ∧
      mvMay (w [(MV_CH_STATUS.STATE 15, 1), (MV_CH_STATUS.STARTER 15, 2)]) 15 2 = true ∧
      mvMay (w [(MV_CH_STATUS.STATE 0, 1), (MV_CH_STATUS.STARTER 0, 3)]) 0 (mvCode (.trowel 3)) = false ∧
      (let s := w [(MODE_STATUS.MODE, 2)]
       mode s = 2 ∧ mvMay s 0 (mvCode (.pf 0)) = false ∧ mvMay s 0 (mvCode (.trowel 0)) = false) := by decide +kernel

/-- Channel 15 running in JOIN, its descriptor the words `d` at the start of common memory. -/
def mvS (d : List Nat) : State :=
  { w [(MODE_STATUS.MODE, 3), (MV_CH_STATUS.STATE 15, 1), (MV_CH_BASE_HI.BASE_HI 15, 0x10000000)] with
    common := storeBytes [] 0x400000 (d.flatMap (leBytes 4)) }

/-- A descriptor between common memory at 0x100 and at 0x200. -/
def mvD (op len par : Nat) : List Nat := [op * 2 ^ 28, len, if op = 1 then 0 else 0x100, if op = 1 then 0 else 0x10000000, 0x200, 0x10000000, par]

theorem witness_MoverOperationsOnCommonMemory :
    (∀ x ∈ [(0, 5, 0), (1, 8, 0xABCD), (2, 8, 0x200), (3, 128, 0)],
      let s := mvS (mvD x.1 x.2.1 x.2.2)
      let d := mvWords (mvBytes [] s (mvAt s 15) 64)
      mvIdle s = true ∧ mvNextCh s = some 15 ∧ fetchOk s (mvAt s 15) = true ∧ descOk s d = true ∧ descAllowed s d = true ∧ dOp d = x.1 ∧
        spOf (dDst d) = 1 ∧ (dOp d ≠ 1 → spOf (dSrc d) = 1)) ∧
      (let s := mvS (mvD 4 0 0)
       mvIdle s = true ∧ mvNextCh s = some 15 ∧ fetchOk s (mvAt s 15) = true ∧ descOk s (mvWords (mvBytes [] s (mvAt s 15) 64)) = false) ∧
      (let s := mvS [0, 1, 0x3FFFFF, 0x10000000, 0x400000, 0x10000000]
       let d := mvWords (mvBytes [] s (mvAt s 15) 64)
       mvIdle s = true ∧ mvNextCh s = some 15 ∧ fetchOk s (mvAt s 15) = true ∧ descOk s d = true ∧ descAllowed s d = false) := by
  decide +kernel

/-- FILL with a CRC: the CRC-32C of the filled bytes stands behind them, most significant byte first. -/
theorem test_fill : ends (exec (.moverFill [] none) (mvS ((mvD 1 4 0x64636261).set 0 0x18000000)))
    (fun t => (List.range 8).map (fun i => t.common.get (0x400200 + i) 0) = [0x61, 0x62, 0x63, 0x64, 0x92, 0xC8, 0x0A, 0x31]) = true := by decide +kernel

theorem witness_MoverCompletionAndChain :
    let s0 := w [(MODE_STATUS.MODE, 3), (MV_CH_STATUS.STATE 15, 1), (MV_CH_BASE_HI.BASE_HI 15, 0x10000000)]
    let s (st link dw crc : Nat) (recs : List (List Byte)) : State :=
      { w [(MV_CH_STATUS.STATE 15, st)] s0 with
        common := [(0x40003C, BitVec.ofNat 8 link)]
        mover := { s0.mover with run := some { ch := 15, words := [dw], crc := crc, recs := recs, cut := false } } }
    let a := s 4 0 0 0 []
    let b := s 1 1 0 0 []
    let c := s 1 0 (2 ^ 26) 1 []
    let d := s 2 0 0 0 [[]]
    let e := w [(MV_CH_STATUS.DB_PEND 15, 1)] d
    15 < 16 ∧ rd a (MV_CH_STATUS.STATE 15) = 4 ∧ rd b (MV_CH_STATUS.STATE 15) ≠ 4 ∧ bitAt (linkOf [] b 15) 0 = true ∧
      bitAt (linkOf [] a 15) 0 = false ∧
      (∀ x ∈ [a, b], (x.mover.run.any fun r => r.ch = 15 && !r.cut && r.recs.isEmpty && !dCheck r.words && dKind r.words = 0) = true) ∧
      (c.mover.run.any fun r => dCheck r.words && r.crc ≠ dCrc r.words) = true ∧
      (d.mover.run.any fun r => r.recs = [[]]) = true ∧ rd d SIEVE_OP_STATUS.FREE ≠ 0 ∧ rd (w [(SIEVE_OP_STATUS.FREE, 0)] d) SIEVE_OP_STATUS.FREE = 0 ∧
      2 ≤ mode d ∧ rd d (MV_CH_STATUS.STATE 15) = 2 ∧ bitAt (linkOf [] d 15) 0 = false ∧ rd d (MV_CH_STATUS.DB_PEND 15) = 0 ∧
      bitAt (linkOf [] e 15) 0 = false ∧ 0 < rd e (MV_CH_STATUS.DB_PEND 15) ∧
      (let f := s 2 1 0 0 []
       rd f (MV_CH_STATUS.STATE 15) = 2 ∧ bitAt (linkOf [] f 15) 0 = true) ∧
      (∀ x ∈ [(1, 0), (2, 0), (3, 55)],
        let g := s 1 0 (x.1 * 2 ^ 24 + x.2 * 2 ^ 16) 0 []
        (g.mover.run.any fun r => r.ch = 15 && !r.cut && r.recs.isEmpty && !dCheck r.words && dKind r.words = x.1 &&
          dArg r.words = x.2 && (x.1 ≠ 2 || dArg r.words < rows g)) = true) ∧
      dOp [2 ^ 28] = 1 ∧ spOf (dSrc [0, 0, 0, 2 ^ 28]) ≠ 0 ∧ dOp [0] ≠ 1 ∧ spOf (dSrc [0]) = 0 := by decide +kernel

/-! ### Start-up, fuses and flash -/

/-- The bytes `l` in the flash from `a` on. -/
def flashAt (a : Nat) : List Byte → Table Byte
  | [] => []
  | x :: r => if x = 0xFF then flashAt (a + 1) r else (a, x) :: flashAt (a + 1) r

/-- A seed image by R468 and R469: a header (ROLLBACK 3, key slot 2, JOIN_PERMIT 1), a section table of RAIL_TABLE, TREE_PARAMS and the
code of core 0, each section erased bytes, and its signature; CRC-32C, SHA-384 and ECDSA P-384 computed outside the model. -/
@[irreducible] def image : List Byte := beBytes 544
  0x53454544010020770700020304030000030001000000000088776655443322110411de24a2c251c777573cac5ea025e467f208e51dbff98fc54f6661cbe56583b037882f4a1ca297e60abcdbc3836d84bc8fa696c77440f92d0f5837e90a00e7c5284b447754d5dee88c986533b6901aeb3177686d0ae8fb33184414abe6c1713a0000000000000000000000000000000000000000000000000000000000000000000000000000000000000000000000000000000000000000000000000000000000000000000000000000000000000000000000000000000000000000000000000000000000000000000000000000000000000000000000000000004dd830b701000000400200002000000043aba86253d8721ba229b1daed0a0b9ff5feeb40f0a2abf211fd3263a1f680498eea447cd2970ad5ca0ae5a3515a73e3e72ed411070000008002000080000000bade562f3d34f3f197db8908a16e44f6c38fd8057adef4e3427213011029a9caaa75b5373b66828826eb05eb0383bf140c35db7a030000000003000004000000ffffffff4a06b879c7eedbe01c945d46b5bd785b59203dce81ea6a1206c28091ca285365f760d9167778f0dc1763d4854aafd40a283c1d7365ce4788f29f8ebf234edffead6fe997fbea5ffa2d58cc9dfa7b1c508b05526f55b9ebb2040f05b48fb6d0e11e3f85a89544d15597fade69a7fb0f4872982ab4840a83f3a03f8b306c5a5c11cb225c43fe6b3f8cbde2766a793d7c0f

/-- A flash with that image in bank A, and in bank B the entry of the same RAIL_TABLE. -/
def flashTab : Table Byte := flashAt 0x400000 image ++ flashAt 0x2000010 [1, 0] ++ flashAt 0x2000100 ((image.drop 256).take 64)

/-- A unit with that flash, and the image's signing key in slot 2. -/
def imaged (s : State) : State :=
  { s with
    fuses := { s.fuses with variant := 0, loaded := 4, revoked := 0, floor := 3, keyHash := [0, 0, 0xb6ad1a858cfb19ac6545fdbc7e9b490699f38a899118e50026d23d22de46a9810e1b99a888199159e05113f3d9488c1c] }
    boot := { s.boot with flash := flashTab } }

theorem flashAt_above (l : List Byte) (a b : Nat) (h : a < b) : Table.above (flashAt b l) a = true := by
  induction l generalizing b with
  | nil => rfl
  | cons x r ih =>
    unfold flashAt
    split
    · exact ih (b + 1) (by omega)
    · have := ih (b + 1) (by omega)
      simp_all only [Table.above, List.all_cons, Bool.and_eq_true, decide_eq_true_eq, true_and]

theorem flashAt_get (l : List Byte) (q : Table Byte) (a i : Nat) (h : i < l.length) (hq : Table.above q (a + l.length - 1) = true) :
    (flashAt a l ++ q).get (a + i) 0xFF = l.getD i 0 := by
  induction l generalizing a i with
  | nil => simp at h
  | cons x r ih =>
    simp only [List.length_cons] at h hq
    cases i with
    | zero =>
      unfold flashAt
      split
      · rename_i hx
        have h2 : Table.above (flashAt (a + 1) r ++ q) a = true := by
          have h3 := flashAt_above r a (a + 1) (by omega)
          have h4 := Table.above_mono q (j := a) (by omega) hq
          simp only [Table.above, List.all_append, Bool.and_eq_true] at *
          exact ⟨h3, h4⟩
        simp [Table.get_above _ _ h2, hx]
      · simp [Table.get]
    | succ j =>
      have h2 := ih (a + 1) j (by omega) (by rw [show a + 1 + r.length - 1 = a + (r.length + 1) - 1 by omega]; exact hq)
      have e : a + (j + 1) = a + 1 + j := by omega
      unfold flashAt
      split
      · rw [e, h2]; simp
      · simp only [List.cons_append, Table.get, if_neg (show ¬a + (j + 1) = a by omega)]
        rw [e, h2]; simp

/-- Bytes `o` to `o + n - 1` of the image. -/
def part (o n : Nat) : List Byte := (image.drop o).take n

theorem image_length : image.length = 544 := by decide +kernel
theorem image_bankB : Table.above (flashAt 0x2000010 [1, 0] ++ flashAt 0x2000100 ((image.drop 256).take 64)) 0x400400 = true := by
  decide +kernel

theorem flash_image (s : State) (o n : Nat) (h : o + n ≤ 544) : flashBytes (imaged s) (0x400000 + o) n = part o n := by
  refine List.ext_getElem (by simp [flashBytes, part, image_length]; omega) fun i hi _ => ?_
  have hi : i < n := by simpa [flashBytes] using hi
  have h2 := flashAt_get image _ 0x400000 (o + i) (by rw [image_length]; omega) (Table.above_mono _ (by rw [image_length]; decide) image_bankB)
  rw [← Nat.add_assoc, ← List.append_assoc] at h2
  have h3 : o + i < image.length := by rw [image_length]; omega
  simp only [flashBytes, part, List.getElem_map, List.getElem_range, List.getElem_take, List.getElem_drop]
  rw [List.getD_eq_getElem?_getD, List.getElem?_eq_getElem h3] at h2
  exact h2

/-- The section whose entry is entry i of the image. -/
def sec (i : Nat) : ImgSec :=
  let e := part (256 + 64 * i) 64
  { ty := leAt e 0 1, arg := leAt e 1 1, rsv := leAt e 2 2, off := leAt e 4 4, len := leAt e 8 4, crc := leAt e 12 4, digest := e.drop 16 }

theorem image_hdr (s : State) : imgHdr (imaged s) 0 = part 0 256 := flash_image s 0 256 (by decide)
theorem count_part : leAt (part 0 256) 16 2 = 3 := by decide +kernel
theorem image_count (s : State) : imgCount (imaged s) 0 = 3 := by rw [imgCount, image_hdr, count_part]
theorem image_sec (s : State) (i : Nat) (h : i < 3) : imgSec (imaged s) 0 i = sec i := by
  have h1 := flash_image s (256 + 64 * i) 64 (by omega)
  rw [← Nat.add_assoc] at h1
  simp only [imgSec, sec, bankBase, if_pos, h1]
theorem image_secs (s : State) : imgSecs (imaged s) 0 = [sec 0, sec 1, sec 2] := by
  rw [imgSecs, image_count]
  simp [List.range_succ, image_sec]

theorem flashAt_past (l : List Byte) (q : Table Byte) (a k : Nat) (h : a + l.length ≤ k) : (flashAt a l ++ q).get k 0xFF = q.get k 0xFF := by
  induction l generalizing a with
  | nil => rfl
  | cons x r ih =>
    simp only [List.length_cons] at h
    unfold flashAt
    split
    · exact ih (a + 1) (by omega)
    · simp only [List.cons_append, Table.get, if_neg (show ¬k = a by omega)]
      exact ih (a + 1) (by omega)

theorem image_erased (s : State) (o n : Nat) (h1 : 576 ≤ o) (h2 : o + n ≤ 772) :
    flashBytes (imaged s) (0x400000 + o) n = List.replicate n 0xFF := by
  refine List.ext_getElem (by simp [flashBytes]) fun i hi _ => ?_
  have hi : i < n := by simpa [flashBytes] using hi
  have h3 := flashAt_past image (flashAt 0x2000010 [1, 0] ++ flashAt 0x2000100 ((image.drop 256).take 64)) 0x400000
    (0x400000 + o + i) (by rw [image_length]; omega)
  rw [Table.get_above _ _ (Table.above_mono _ (show 0x400000 + o + i ≤ 0x400400 by omega) image_bankB), ← List.append_assoc] at h3
  simp only [flashBytes, List.getElem_map, List.getElem_range, List.getElem_replicate]
  exact h3

theorem hdr_good : hdrOk (part 0 256) = true := by decide +kernel
theorem hdr_fields : leAt (part 0 256) 6 2 = 0x7720 ∧ leAt (part 0 256) 8 1 = 7 ∧ leAt (part 0 256) 9 1 = 0 ∧ leAt (part 0 256) 10 1 = 2 ∧
    leAt (part 0 256) 11 1 = 3 ∧ leAt (part 0 256) 12 4 = 772 := by decide +kernel
theorem key_good (s : State) : (imaged s).fuses.keyHash.getD 2 0 = beNat (sha384 (slice (part 0 256) 32 97)) := by
  show 0xb6ad1a858cfb19ac6545fdbc7e9b490699f38a899118e50026d23d22de46a9810e1b99a888199159e05113f3d9488c1c = _
  decide +kernel
theorem sig_good : ecdsaVerify (slice (part 0 256) 32 97) (sha384 (part 0 448)) (part 448 96) = true := by decide +kernel
theorem table_good : tableOk 3 772 [sec 0, sec 1, sec 2] = true := by decide +kernel
theorem secs_good : ∀ x ∈ [sec 0, sec 1, sec 2], crc32c (List.replicate x.len 0xFF) = x.crc ∧ sha384 (List.replicate x.len 0xFF) = x.digest ∧
    576 ≤ x.off ∧ x.off + x.len ≤ 772 := by decide +kernel

/-- The whole check of R471 and R472 accepts the image. -/
theorem test_image_accepted (s : State) : checkBank (imaged s) 0 false = 1 := by
  obtain ⟨f1, f2, f3, f4, f5, f6⟩ := hdr_fields
  have a : authBank (imaged s) 0 = 1 := by
    have h1 := flash_image s 0 448 (by decide)
    have h2 := flash_image s 448 96 (by decide)
    have k := key_good s
    have e1 : hdrFits (imaged s) (part 0 256) = true := by simp [hdrFits, f1, f2, f3, imaged]; decide
    have e2 : keyOk (imaged s) (part 0 256) = true := by
      simp only [keyOk, f4, k]
      simp [imaged]
      decide
    have e3 : sigOk (imaged s) 0 3 (part 0 256) = true := by
      simp only [sigOk, imgHead, bankBase, if_pos]
      show ecdsaVerify _ (sha384 (flashBytes (imaged s) 0x400000 448)) (flashBytes (imaged s) (0x400000 + 448) 96) = true
      rw [h2, show flashBytes (imaged s) 0x400000 448 = part 0 448 from h1]
      exact sig_good
    simp [authBank, image_hdr, image_count, image_secs, f5, f6, hdr_good, table_good, e1, e2, e3]
    exact Nat.le_refl 3
  have b : ∀ l i, (∀ x ∈ l, x ∈ [sec 0, sec 1, sec 2]) → checkSecs (imaged s) 0 (fun _ => 0) i l = 1 := by
    intro l
    induction l with
    | nil => intro _ _; rfl
    | cons x r ih =>
      intro i h
      obtain ⟨c, d, e, g⟩ := secs_good x (h x (by simp))
      have := image_erased s x.off x.len e g
      simp only [checkSecs, crcMisses, secBytes, bankBase, if_pos, this, c, d]
      simpa using ih (i + 1) fun y hy => h y (by simp [hy])
  simp only [checkBank, checkReads, a, image_secs]
  simpa using b _ 0 fun _ h => h

/-- Start-up ready to run, and a live apply of bank A while bank B runs. -/
def bootS : State := imaged { State.reset with power := { State.reset.power with step := 6 } }
def liveS : State := imaged (w [(MODE_STATUS.MODE, 3), (BOOT_STATUS.RUN_BANK, 1), (BOOT_STATUS.STATE, 4)])

theorem live_digests : fixedDigests liveS 0 = fixedDigests liveS (1 - 0) := by
  rw [fixedDigests, show imgSecs liveS 0 = [sec 0, sec 1, sec 2] from image_secs _]
  decide +kernel

theorem witness_StartupAndLiveApply :
    (let s : State := { State.reset with power := { State.reset.power with step := 6 } }
     mode s = 2 ∧ s.power.step = 6 ∧ s.power.resetLow = false ∧ bootCool s = true ∧ s.power.ask = none ∧ checkBank s 0 false ≠ 1 ∧ checkBank s 1 true ≠ 1 ∧
       mode State.reset = 2 ∧ State.reset.power.step ≠ 6) ∧
    (mode bootS = 2 ∧ bootS.power.step = 6 ∧ bootS.power.resetLow = false ∧ bootCool bootS = true ∧ bootS.power.ask = none ∧ dirChoice bootS = none ∧
      checkBank bootS 0 false = 1 ∧ 0 < cores bootS ∧ rd bootS (TROWEL_CORE_STATUS.STATE 0) ≠ 5 ∧ bootS.rake.grafts = [] ∧
      rd bootS (TROWEL_CORE_CTRL.HALT 0) = 0) ∧
    (bootBytes bootS 0 2 = [] ∧ (pageOf bootS 0).imem.has 0 = true) ∧
    (2 ^ 31 ≤ (0x80000001 : Word).toNat ∧ liveS.boot.live = none ∧ (0x80000001 : Word).toNat % 2 = rd liveS BOOT_STATUS.RUN_BANK ∧
      lineUp State.reset = false ∧ (0x80000000 : Word).toNat % 2 ≠ rd liveS BOOT_STATUS.RUN_BANK ∧ lineUp liveS = true ∧
      liveS.boot.cmd = none ∧ liveS.boot.wait = [] ∧ checkBank liveS 0 true ≠ 1 ∧ checkBank liveS 0 false = 1 ∧ fixedDigests liveS 0 = fixedDigests liveS (1 - 0)) ∧
    (∀ n ∈ [0, 11, 12],
      let s : State := { w [(TROWEL_CORE_STATUS.STATE 10, 1), (TROWEL_CORE_STATUS.STATE 11, 2)] with
        boot := { State.reset.boot with live := some n, page0 := { imem := [(0, []), (11, [])] } } }
      s.boot.live = some n ∧ (n < cores s → rd s (TROWEL_CORE_STATUS.STATE n) ≠ 5 ∧ (n ≠ 0 → rd s (TROWEL_CORE_STATUS.STATE (n - 1)) = 1)) ∧ rd s (TROWEL_CORE_STATUS.STATE (cores s - 1)) = 2) ∧
    (∀ st ∈ [3, 4, 5],
      let s : State := { w [(TROWEL_CORE_STATUS.STATE 11, st)] with boot := { State.reset.boot with live := some 12 } }
      s.boot.live = some (11 + 1) ∧ rd s (TROWEL_CORE_STATUS.STATE 11) = st) ∧
    (let s : State := { State.reset with boot := { State.reset.boot with live := some 1 } }
     rd s (TROWEL_CORE_STATUS.STATE 0) = 0 ∧ (activePage s).imem.has 0 = false ∧ 1 < cores s ∧ rd s (TROWEL_CORE_STATUS.STATE 1) ≠ 5) := by
  refine ⟨?_, ⟨rfl, rfl, rfl, rfl, rfl, ?_, test_image_accepted _, ?_, ?_, rfl, ?_⟩, ⟨?bytes, ?page⟩,
    ⟨?_, rfl, ?_, ?_, ?_, ?_, rfl, rfl, ?_, test_image_accepted _, live_digests⟩, ?_, ?_, ?_⟩
  case bytes =>
    rw [bootBytes, show imgSecs bootS 0 = [sec 0, sec 1, sec 2] from image_secs _]
    decide +kernel
  case page =>
    rw [pageOf, show imgSecs bootS 0 = [sec 0, sec 1, sec 2] from image_secs _]
    decide +kernel
  all_goals decide +kernel

/-- Key slots 0 and 1 loaded, floor 2, the running image signed with slot 1. -/
def fuseS (l : List (Fld × Nat)) : State :=
  { w ((BOOT_STATUS.STATE, 4) :: (BOOT_IMAGE.KEY_INDEX, 1) :: l) with
    fuses := { State.reset.fuses with loaded := 3, revoked := 0, floor := 2 } }

theorem witness_FuseCommandsChangeOnlyTheirFuse :
    0 < 4 ∧ rd (fuseS [(BOOT_IMAGE.ROLLBACK, 31)]) BOOT_STATUS.STATE = 4 ∧ rd (fuseS [(BOOT_IMAGE.ROLLBACK, 31)]) BOOT_IMAGE.ROLLBACK < 32 ∧
      (fuseS []).fuses.floor < rd (fuseS [(BOOT_IMAGE.ROLLBACK, 31)]) BOOT_IMAGE.ROLLBACK ∧
      rd (fuseS [(BOOT_IMAGE.ROLLBACK, 2)]) BOOT_IMAGE.ROLLBACK ≤ (fuseS []).fuses.floor ∧ 0 ≠ rd (fuseS []) BOOT_IMAGE.KEY_INDEX ∧
      1 = rd (fuseS []) BOOT_IMAGE.KEY_INDEX ∧
      (∃ i, i < 4 ∧ i ≠ 0 ∧ bitAt (fuseS []).fuses.loaded i = true ∧ bitAt (fuseS []).fuses.revoked i = false) ∧
      (let s : State := { fuseS [] with fuses := { (fuseS []).fuses with revoked := 2 } }
       bitAt s.fuses.loaded 0 = true ∧ bitAt s.fuses.revoked 0 = false ∧
         ¬∃ i, i < 4 ∧ i ≠ 0 ∧ bitAt s.fuses.loaded i = true ∧ bitAt s.fuses.revoked i = false) := by
  have h1 : (1 : Nat) < 4 ∧ 1 ≠ 0 ∧ bitAt (fuseS []).fuses.loaded 1 = true ∧ bitAt (fuseS []).fuses.revoked 1 = false := by decide
  refine ⟨?_, ?_, ?_, ?_, ?_, ?_, ?_, ⟨1, h1⟩, ?_, ?_, ?_⟩
  iterate 9 decide
  rintro ⟨i, h, h0, h2, h3⟩
  have : ∀ i, i < 4 → i ≠ 0 → bitAt 3 i = true → bitAt 2 i = false → False := by decide
  exact this i h h0 h2 h3

theorem witness_FlashCommandsActOnTheirRange :
    (∀ x ∈ [(false, 0, 0x400000, true), (false, 1, 0x2000000, false), (false, 1, 0x3C00000, true), (false, 2, 0x3FFFFF, false),
        (false, 3, 0x400000, false), (true, 1, 0x3FFF00, true), (true, 1, 0x3FFF01, false), (true, 3, 0x1FFFF, true), (true, 2, 0xFFFF, false)],
      let s0 := w [(BOOT_STATUS.STATE, 4), (BOOT_FLASH_ADDR.ADDR, x.2.2.1), (BOOT_LIVE.BANK, 1)]
      let s : State := { s0 with boot := { s0.boot with live := some 0 } }
      let c : FlashCmd := { trw := x.1, op := x.2.1, addr := x.2.2.1, len := 256, data := [] }
      let area := if x.1 = true then 0x10000 ≤ c.start ∧ c.start + c.size ≤ 0x400000 else c.touches 0x10000 0x3F0000 = false
      rd s BOOT_STATUS.STATE = 4 ∧ s.boot.cmd = none ∧ s.boot.wait = [] ∧ rd s BOOT_FLASH_ADDR.ADDR = x.2.2.1 ∧
        (x.2.1 = 0 ∨ (c.touches (bankBase (rd s BOOT_STATUS.RUN_BANK)) bankSize = false ∧ area ∧
          (s.boot.live ≠ none → c.touches (bankBase (rd s BOOT_LIVE.BANK)) bankSize = false)) ↔ x.2.2.2 = true)) ∧
    rd State.reset BOOT_STATUS.STATE ≠ 4 ∧
    (let c : FlashCmd := { trw := false, op := 3, addr := 0x3FFFF00, len := 256, data := [] }
     let s : State := { State.reset with boot := { State.reset.boot with cmd := some c } }
     s.boot.cmd = some c ∧ s.boot.wait = [] ∧ c.op ≤ 3 ∧ 1 ≤ c.len ∧ c.len ≤ 256 ∧ c.addr + c.len ≤ 2 ^ 26) := by decide +kernel

/-! ### Management -/

/-- Function 1's notification queue enabled, features 0 and 1 in force. -/
def nqS (tail head owed : Nat) : State :=
  let s := w [(NEGOTIATED.V 1 0, 3), (NQ_CFG.EN 1, 1), (NQ_STATUS.TAIL 1, tail), (NQ_HEAD.HEAD 1, head)]
  { s with nqIn := [(1, [{ ty := 3, arg := 5, u := 0, valid := true }])], mgmt := { s.mgmt with fns := [(1, { owed := owed, unsig := 1 })] } }

theorem witness_NotificationQueueProtocol :
    (let s := w [(NEGOTIATED.V 8 0, 1)]
     8 < fns s ∧ fnQuiet s 8 = false ∧ featOn s 8 0 = true ∧ rd s (NQ_CFG.EN 8) = 0 ∧ ({ bme := true } : HostCfg).bme = true ∧
       2 ^ 31 ≤ (0x84010000 : Word).toNat ∧ (fnAt s 8).owed = 0) ∧
    (∀ x ∈ [(15, 1, false), (14, 1, false), (15, 0, true)],
      let s := nqS x.1 x.2.1 0
      1 < fns s ∧ fnQuiet s 1 = false ∧ (s.nqIn.get 1 []).length = 1 ∧ (fnAt s 1).owed = 0 ∧ flag s (NQ_CFG.EN 1) = true ∧
        ({ bme := true } : HostCfg).d3 = false ∧ nqFull s 1 = x.2.2 ∧ (rd s (NQ_STATUS.TAIL 1) + 1) % nqSize s 1 = (x.1 + 1) % 16 ∧
        featOn s 1 0 = true ∧ featOn s 1 1 = true ∧ (fnAt s 1).unsig ≠ 0) := by decide +kernel

/-- The entry at TAIL 15 of 16 wraps and turns the phase. -/
theorem test_nq_wraps : ends (exec (.nqEntryWrite 1 { bme := true }) (nqS 15 1 0))
    (fun t => rd t (NQ_STATUS.TAIL 1) = 0 && rd t (NQ_STATUS.PHASE 1) = 0) = true := by decide +kernel

theorem witness_FeaturesAndMailboxes :
    (let s := w [(DRV_FEATURES.V 1 0, 3), (DRV_FEATURES.V 1 3, 0x80000000)]
     1 < fns s ∧ fnQuiet s 1 = false ∧ rd s (NQ_CFG.EN 1) = 0 ∧ rd s (MBX_CTRL.BUSY 1) = 0 ∧
       (∀ i, i < 4 → rd s (DRV_FEATURES.V 1 i) &&& devFeat s 1 i = rd s (DRV_FEATURES.V 1 i)) ∧
       bitAt (rd s (DRV_FEATURES.V 1 3)) 31 = true ∧ bitAt (rd s (DRV_FEATURES.V 1 0)) 0 = true) ∧
    (∀ b ∈ [0, 1],
      let s := w [(NEGOTIATED.V 1 0, 4), (MBX_CTRL.BUSY 1, b), (MBXF_CTRL.ENABLE 1, 1), (MBXF_CTRL.PEND 1, b)]
      featOn s 1 2 = true ∧ 2 ^ 31 ≤ (0x8000007F : Word).toNat ∧ rd s (MBX_CTRL.BUSY 1) = b ∧ rd s (MBXF_CTRL.ENABLE 1) = 1 ∧
        rd s (MBXF_CTRL.PEND 1) = b ∧ fnQuiet s 1 = false) ∧
    bitAt (0x40000000 : Word).toNat 30 = true ∧ 7 < beds State.reset ∧ (0x5FFFFFFF : Word).toNat < 2 ^ 31 ∧
    (0x5FFFFFFF : Word).toNat / 2 ^ 29 % 2 = 0 := by decide +kernel

/-- The UART receive FIFO of 64 bytes, filled with `n`. -/
def uartS (n : Nat) : State :=
  let s := w [(UART_CTRL.EN, 1), (MODE_PAD.HOLD, 0xEF)]
  { s with mgmt := { s.mgmt with rx := List.replicate n 0x41, tx := List.replicate n 0x42 } }

theorem witness_LinkResetsAndConsole :
    (let s := w [(CLK_STATUS.STOCK_LOCK, 1), (MODE_PAD.HOLD, 0xFD)]
     2 ≤ mode s ∧ flag s CLK_STATUS.STOCK_LOCK = true ∧ bitAt (rd s MODE_PAD.HOLD) 1 = false ∧ 1 ≤ 5) ∧
    (0 < 8 ∧ 8 < fns State.reset ∧ 0 < 1) ∧
    (7 < beds State.reset ∧ 7 ∉ State.reset.lane.resetting ∧ 7 ∉ State.reset.mgmt.bedWait ∧ bedGrafts State.reset 7 = false) ∧
    (let s : State := { State.reset with rake := { State.reset.rake with grafts :=
        [{ unit := { cls := .lane, idx := 238 }, spare := { cls := .lane, idx := 270 }, serves := 224, fenced := false, ev := { kind := 17, scope := .bed 7, arg := 0 },
           ready := false, tries := 0, busy := 0, gen := 1 }] } }
     7 < beds s ∧ bedGrafts s 7 = true) ∧ mode (w [(MODE_STATUS.MODE, 1)]) < 2 ∧
    (let s : State := { State.reset with lane := { State.reset.lane with resetting := [7] } }
     7 < beds s ∧ 7 ∈ s.lane.resetting) ∧
    (∀ n ∈ [0, 1, 63, 64], 2 ≤ mode (uartS n) ∧ flag (uartS n) UART_CTRL.EN = true ∧ (uartS n).mgmt.rx.length = n ∧ (uartS n).mgmt.tx.length = n ∧
      (uartS n).mgmt.uart = .armed ∧ bitAt (rd (uartS n) MODE_PAD.HOLD) 4 = false) ∧
    bitAt (rd (w [(MODE_PAD.HOLD, 0x10)] (uartS 1)) MODE_PAD.HOLD) 4 = true ∧
    (let s : State := { uartS 63 with mgmt := { (uartS 63).mgmt with uart := .frame (9 * 32 + 17) 2 255 } }
     255 < 256 ∧ 2 ≤ mode s ∧ flag s UART_CTRL.EN = true ∧ s.mgmt.rx.length < 64) ∧
    rd (w [(UART_CTRL.RX_OWNER, 0)] (uartS 1)) UART_CTRL.RX_OWNER = 0 ∧ rd (w [(UART_CTRL.RX_OWNER, 1)] (uartS 1)) UART_CTRL.RX_OWNER = 1 ∧
    (uartS 1).mgmt.rx = 0x41 :: [] ∧ (uartS 1).mgmt.tx = 0x42 :: [] ∧ (uartS 0).mgmt.rx = [] := by decide +kernel

/-- The 65th byte is an overrun. -/
theorem test_uart_overrun : ends (exec (.uartRxFrame (.byte 0x43) true) (uartS 64)) (fun t => rd t UART_ERR.OVERRUN = 1) = true := by
  decide +kernel

/-- A frame bit by bit: its byte, and a receiver armed again; with a low stop bit a framing error, and a receiver that waits. -/
theorem test_uart_frame : ends (exec (.uartRxFrame (.byte 0xA5) true) (uartS 1)) (fun t => t.mgmt.rx = [0x41, 0xA5] && t.mgmt.uart = .armed) = true ∧
    ends (exec (.uartRxFrame (.byte 0xA5) false) (uartS 1)) (fun t => t.mgmt.rx = [0x41] && t.mgmt.uart = .wait) = true := by decide +kernel

/-- A low level at sample 17 of the stop bit is the next start edge (R512). -/
theorem test_uart_early_start :
    let s : State := { uartS 0 with mgmt := { (uartS 0).mgmt with uart := .frame (9 * 32 + 17) 2 0x55 } }
    ends (exec (.uartRxFrame (.levels [false]) false) s) (fun t => t.mgmt.rx = [0x55] && t.mgmt.uart = .frame 33 0 0) = true := by
  decide +kernel

/-- A byte leaves least significant bit first, between a start and a stop bit (R510). -/
theorem test_uart_sent : ends (exec .uartTxByteSent (uartS 1))
    (fun t => t.out == [.uart 34722 [false, false, true, false, false, false, false, true, false, true]]) = true := by decide +kernel

/-! ### Power, clocks and the thermal state -/

/-- `s` with its power state changed. -/
def pw (f : PowerSt → PowerSt) (s : State := State.reset) : State := { s with power := f s.power }

theorem idle_reset : idleLine State.reset :=
  ⟨rfl, rfl, rfl, by decide +kernel, by decide +kernel⟩

theorem witness_ModesAndResets :
    (bitAt (0x80000001 : Word).toNat 31 = true ∧ bitAt (0x80000001 : Word).toNat 30 = false ∧ (0x80000001 : Word).toNat % 8 ≤ 1 ∧
      2 ≤ mode (w [(MODE_STATUS.MODE, 4)]) ∧ rd (w [(MODE_STATUS.MODE, 4)]) MODE_STATUS.PENDING = 0 ∧ mode (w [(MODE_STATUS.MODE, 4)]) = 4 ∧
      devSlot (w [(ALLOC_LO.VALID 255, 1), (ALLOC_LO.OWNER 255, 8)]) ≠ none ∧
      2 ≤ mode State.reset ∧ mode State.reset ≠ 4 ∧ rd State.reset MODE_STATUS.PENDING = 0) ∧
    idleLine State.reset ∧
    (1 < (0x80000002 : Word).toNat % 8 ∧ bitAt (0x40000000 : Word).toNat 30 = true ∧ mode (w [(MODE_STATUS.MODE, 1)]) < 2 ∧
      rd (w [(MODE_STATUS.PENDING, 1)]) MODE_STATUS.PENDING = 1) ∧
    ((pw fun p => { p with gasp := some 0 }).power.gasp = some 0 ∧ idleLine (pw fun p => { p with gasp := some 0 })) ∧
    (State.reset.power.gaspGrant = false ∧ grantToDev State.reset = false ∧ (pw fun p => { p with gaspGrant := true }).power.gaspGrant = true) ∧
    (let s := pw fun p => { p with down := some 1 }
     s.power.down = some 1 ∧ s.mover.run = none ∧ s.power.wake = none ∧ s.rake.grafts = []) ∧
    (let s := pw fun p => { p with step := 0, pwrEn := true }
     2 ≤ mode s ∧ ¬(2 ≤ mode s ∧ (s.power.step = 1 ∨ s.power.step = 3)) ∧ s.power.pwrEn = true) ∧
    (let s := pw fun p => { p with step := 3 }
     2 ≤ mode s ∧ (s.power.step = 1 ∨ s.power.step = 3)) ∧ (pw fun p => { p with step := 1 }).power.step = 1 ∧
    (State.reset.pending.head?.any modeEvent = false ∧
      ({ State.reset with pending := [Instr.losHoldoffExpiry] } : State).pending.head?.any modeEvent = true) ∧
    (let s : State := pw (fun p => { p with ask := some 1 }) { w [(MODE_STATUS.MODE, 4)] with time := { missed := 8 } }
     s.power.ask = some 1 ∧ mode s = 4 ∧ rd s MODE_STATUS.PENDING = 0 ∧ 8 ≤ s.time.missed ∧ s.rake.grafts = [] ∧ idleLine s) := by
  refine ⟨?_, idle_reset, ?_, ⟨?_, rfl, rfl, rfl, ?_, ?_⟩, ?_, ?_, ?_, ?_, ?_, ?_, ⟨?_, ?_, ?_, ?_, ?_, rfl, rfl, rfl, ?_, ?_⟩⟩ <;> decide +kernel

/-- The example of R41: a request for SENTRY in SERVICE, with an event of its cycle behind it, goes down from HOLDOVER. -/
theorem test_event_first :
    let s : State := { w [(MODE_STATUS.MODE, 4)] with time := { missed := 8 }, pending := [.timeMessagesLost] }
    ends (exec (.modeRequest 0x80000001) s) (fun t => mode t = 4 && rd t MODE_CTRL.GO = 1 && t.power.gasp.isNone &&
      ends (exec .timeMessagesLost t) (fun u => mode u = 5 && u.power.down = some 1 && rd u MODE_STATUS.PENDING = 1 &&
        rd u MODE_CTRL.GO = 0 && u.join.seq = s.join.seq)) = true := by decide +kernel

/-- DEV_RESET restarts in LOAD with cause 6. -/
theorem test_device_reset : ends (exec .deviceReset (w [(MODE_STATUS.MODE, 4)]))
    (fun t => mode t = 2 && rd t MODE_STATUS.WAKE_CAUSE = 6 && rd t MODE_PAD.HOLD = 0xFF) = true := by decide +kernel

theorem witness_WakingAndSideChannel :
    let a := rd State.reset MODE_WAKE.ADDR
    let off := w [(MODE_STATUS.MODE, 1)]
    (rd off MODE_WAKE.EN = 1 ∧ a = rd off MODE_WAKE.ADDR ∧ a ≠ 0 ∧ mode off < 2 ∧ off.power.pwrGood = false ∧
      (pw (fun p => { p with pwrGood := true }) off).power.pwrGood = true ∧ off.power.wake = none ∧
      rd (w [(MODE_WAKE.EN, 0)]) MODE_WAKE.EN = 0 ∧ a + 1 ≠ a) ∧
    (let s := pw fun p => { p with down := some 1 }
     2 ≤ mode s ∧ s.power.down ≠ none ∧ s.power.wake = none) ∧
    (2 ≤ mode State.reset ∧ State.reset.power.down = none ∧ (15 : Byte).toNat < 16) ∧
    (mode off = 1 ∧ rd off MODE_SENTRY.LIGHT_EN = 1 ∧ rdInt off MODE_SENTRY_THR.LIGHT_DBM * 2048 ≤ sum8 (List.replicate 8 (-7680)) ∧
      (let s := pw (fun p => { p with hits := (1, 0, 0) }) off
       mode s = 1 ∧ s.power.pwrGood = false ∧ max 1 (rd s MODE_SENTRY.CONSEC) ≤ s.power.hits.1 + 1) ∧
      ¬(rdInt off MODE_SENTRY_THR.LIGHT_DBM * 2048 ≤ sum8 (List.replicate 8 (-7681))) ∧ rd off MODE_SENTRY.DARK_EN = 0 ∧ rd off MODE_SENTRY.TEMP_EN = 0) ∧
    (let s := pw fun p => { p with pwrEn := true, step := 3 }
     s.power.pwrEn = true ∧ s.power.pwrGood = false ∧ s.power.step = 3) ∧
    (let s := pw fun p => { p with pwrEn := true, pwrGood := true }
     s.power.pwrGood = true ∧ s.power.pwrEn = true) ∧
    (let s := pw (fun p => { p with pwrGood := true }) (w [(MODE_STATUS.MODE, 0)])
     s.power.pwrGood = true ∧ s.power.pwrEn = false ∧ mode s = 0 ∧ s.power.wake = none) := by decide +kernel

theorem witness_ClocksAndSupplies :
    let up := w [(MODE_STATUS.MODE, 4)]
    (lineUp up = true ∧ up.power.pass.get 1 0 + 1 < 8 ∧ (pw (fun p => { p with pass := [(1, 7)] }) up).power.pass.get 1 0 + 1 = 8 ∧
      152573 ≤ 152602 ∧ (pw (fun p => { p with failW := [(1, 1)] }) up).power.failW.get 1 0 + 1 = 2 ∧ 152572 < 152573 ∧ 152602 < 152603 ∧
      0 ∉ up.power.unstable) ∧
    (∀ x ∈ [(0, 1, 2), (1, 152573, 4), (2, 4097, 5)],
      let s := pw fun p => { p with step := x.2.2, pass := [(x.1, windowNeed x.1 - 1)] }
      mode s = 2 ∧ s.power.resetLow = false ∧ s.power.pass.get x.1 0 + 1 = windowNeed x.1 ∧ windowOk x.1 x.2.1 = true ∧
        s.power.unstable = [] ∧ s.power.step = x.2.2) ∧
    (let s := w [(MODE_STATUS.MODE, 5), (CLK_STATUS.STOCK_SRC, 2), (CLK_STATUS.REFCLK_OK, 1)]
     lineUp s = true ∧ rd s CLK_STATUS.STOCK_SRC = 2 ∧ rd s CLK_STATUS.REFCLK_OK = 1) ∧
    (let s := w [(PMB_RAIL.EN 1, 1), (PMB_RAIL.CORE 1, 1), (MODE_PAD.HOLD, 0xDF)]
     2 ≤ mode s ∧ bitAt (rd s MODE_PAD.HOLD) 5 = false ∧ isCore s 1 = true ∧ isCore s 0 = false ∧ s.power.request = none ∧ rd s PWR_SUPPLY.WARN = 0 ∧ rd s PWR_AVS.FROZEN = 0 ∧ rd s PWR_AVS.ACK_MV = 720) ∧
    (∀ n ∈ [2, 3], let s := pw fun p => { p with request := some 725, tries := n }
      s.power.request = some 725 ∧ 725 < 1024 ∧ bitAt 0 15 = false ∧ bitAt 0 11 = false ∧ 730 ≤ 725 + 5 ∧ 725 ≤ 720 + 5 ∧ s.power.tries = n ∧ s.power.retry = false) ∧
    ((pw fun p => { p with retry := true }).power.retry = true ∧ mode (w [(MODE_STATUS.MODE, 4)]) ≠ 5) ∧
    (rd (w [(MODE_PAD.HOLD, 0xDF)]) MODE_PAD.HOLD = 0xDF ∧ bitAt (rd (w [(MODE_PAD.HOLD, 0xDF)]) MODE_PAD.HOLD) 5 = false) ∧
    (let s := pw fun p => { p with pwrEn := true }
     2 ≤ mode s ∧ 0 < warnLevel s ∧ warnLevel s - 1 < warnLevel s ∧ warnLevel s ≤ 720 ∧ s.power.pwrEn = true ∧ resetLevel s - 1 < resetLevel s) ∧
    (let s := w [(PWR_SUPPLY.WARN, 1)]
     rd s PWR_SUPPLY.WARN = 1 ∧ rd s PWR_THERM.STATE = 0 ∧ rd s JOIN_STATUS.PROFILE ≠ 3 ∧ rd s LINE_SOA_LIMIT.GAIN_CAP < 1024) := by
  decide +kernel

/-- A supply request moves at most 5 mV, and goes to the core rail's regulator as PAGE and VOUT_COMMAND (R446, R449). -/
theorem test_avs_step : ends (exec (.avsCompute 800) (w [(PMB_RAIL.EN 0, 1), (PMB_RAIL.CORE 0, 1), (PMB_RAIL.ADDR 0, 0x40),
      (PMB_RAIL.PAGE 0, 1), (MODE_PAD.HOLD, 0xDF)]))
    (fun t => t.out = [.pmbus 0x40 0x00 1, .pmbus 0x40 0x21 725] && rd t PWR_AVS.TARGET_MV = 800) = true := by decide +kernel

theorem witness_ThermalWearAndSensors :
    (∀ st ∈ [0, 1, 2], let s := pw (fun p => { p with quiet := 9 }) (w [(PWR_THERM.STATE, st)])
      2 ≤ mode s ∧ rd s PWR_THERM.STATE = st ∧ 9 ≤ s.power.quiet ∧ rdInt s PWR_THERM.TJ ≤ trimTj s - 80 ∧
        s.power.warned = false ∧ rd s PWR_TRIM.SOA_SAVED < 1024 ∧ 1100000 < 1100001 ∧ 1249999 < 1250000 ∧
        ((true :: s.power.surge).take 200 |>.filter id).length ≤ 20 ∧
        20 < ((true :: (pw fun p => { p with surge := List.replicate 20 true }).power.surge).take 200 |>.filter id).length ∧
        rd s LINE_SOA_LIMIT.GAIN_CAP < 1024 ∧ (pw fun p => { p with quiet := 8 }).power.quiet < 9) ∧
    (let s := w [(PWR_THERM.TJ, 1600)]
     trimTj s ≤ rdInt s PWR_THERM.TJ ∧ rd s LINE_SOA_LIMIT.GAIN_CAP < 1024 ∧ rdInt (w [(PWR_THERM.TJ, 1599)]) PWR_THERM.TJ < trimTj s ∧
       max 0x200 (rd s LINE_SOA_LIMIT.FLOOR) < 1024) ∧
    (let s := w [(MODE_STATUS.MODE, 4), (PWR_THERM.STATE, 1), (JOIN_STATUS.PROFILE, 3), (ALLOC_LO.VALID 0, 1), (ALLOC_LO.OWNER 0, 8)]
     rd s PWR_THERM.STATE ≠ 0 ∧ lineUp s = true ∧ rd s JOIN_STATUS.PROFILE = 3 ∧ devSlot s ≠ none ∧
       rd State.reset JOIN_STATUS.PROFILE ≠ 3) ∧
    (let s := pw fun p => { p with pwrEn := true }
     2 ≤ mode s ∧ s.power.pwrEn = true ∧ (1679 : Int) < 1680 ∧ (1680 : Int) ≤ 1680 ∧ (1680 : Int) < 32768) ∧
    (∀ u ∈ [({ tx := true, e := 127, lit := 7, emit := 7, temp := 0, gain := 0 } : WearUse), { tx := false, e := 0, lit := 1, emit := 0, temp := 14080, gain := 0 }],
      2 ≤ mode State.reset ∧ u.e < 128 ∧ u.emit ≤ u.lit ∧ Table.wf State.reset.line.lasers {} = true) ∧
    (∀ g ∈ [3, 4], let s : State := { State.reset with mgmt := { State.reset.mgmt with conv := [g] } }
      g ∈ s.mgmt.conv ∧ (variant 2).fuses.variant = 2 ∧ 8 * 1 < 16 ∧ 2 ∉ s.mgmt.conv ∧ (∀ j, j < 32 → rd s (SENS_TEMP.TEMP j) < 65536) ∧ (-32768 : Int) ≤ ([] : List Int).getD 0 0) ∧
    (let s := w [(SENS_CTRL.AUTO, 1)]
     rd s SENS_CTRL.AUTO = 1 ∧ 2 ≤ mode s ∧ s.mgmt.conv = []) := by decide +kernel

/-! ### Line optics -/

/-- The state with the laser of receiver or transmitter engine `e` in state `st`. -/
def lit (tx : Bool) (e st : Nat) (s : State := State.reset) : State :=
  { s with line := { s.line with lasers := [(laserKey tx e, { st := st })] } }

theorem witness_LasersAndReceivers :
    (63 < chans State.reset ∧ ownEngines State.reset) ∧
    ((0x3 : Word).toNat % 2 = 1 ∧ (0x2 : Word).toNat % 2 = 0 ∧ lineUp (w [(MODE_STATUS.MODE, 3)]) = true ∧
      (∀ tx : Bool, (laserOf (w [(MODE_STATUS.MODE, 3)]) tx 63).st = 0) ∧ State.reset.burst.air = [] ∧ noTree State.reset ∧
      State.reset.power.down = none ∧ State.reset.power.ask = none ∧ rd State.reset (LRX_STATUS.DOZING 63) = 0 ∧
      ({ State.reset with power := { State.reset.power with down := some 1 } } : State).power.down ≠ none) ∧
    (∀ tx : Bool, ∀ st ∈ [1, 2, 4], (laserOf (lit tx 63 st) tx 63).st = st ∧ ownEngines (lit tx 63 st)) ∧
    (let s := lit false 63 3 (w [(MODE_STATUS.MODE, 3), (LRX_CTRL.DOZE_EN 63, 0)])
     ownEngines s ∧ rxAwake s 63 = true ∧ (rxOf s 63).back = false ∧
       (rxOf { s with line := { s.line with rx := [(63, { back := true })] } } 63).back = true) ∧
    (rd (w [(LRX_STATUS.DOZING 63, 1)]) (LRX_STATUS.DOZING 63) = 1) ∧
    ((∀ i, i < 15 → rd State.reset (LINE_RAMP.LEVEL i) ≤ rd State.reset (LINE_RAMP.LEVEL (i + 1))) ∧
      rd (w [(LINE_RAMP.LEVEL 14, 1023)]) (LINE_RAMP.LEVEL 15) < rd (w [(LINE_RAMP.LEVEL 14, 1023)]) (LINE_RAMP.LEVEL 14)) ∧
    (rd State.reset PWR_THERM.STATE ≠ 2 ∧ rd (w [(PWR_THERM.STATE, 2)]) PWR_THERM.STATE = 2) := by
  unfold noTree ownEngines; decide +kernel

/-- The lower of FLOOR and GAIN_CAP is 0x200. -/
theorem test_soa_limit : ends (exec (.soaLimitWrite 0) State.reset)
    (fun t => rd t LINE_SOA_LIMIT.FLOOR = 0x200 && rd t LINE_SOA_LIMIT.GAIN_CAP = 0x200) = true := by decide +kernel

/-- A graft of unit `a` by spare `b`, ready to switch over; `a` serves its own place and still runs. -/
def graftOf (c : UCls) (a b : Nat) : Graft :=
  { unit := { cls := c, idx := a }, spare := { cls := c, idx := b }, serves := a, fenced := false,
    ev := { kind := 1, scope := .dev, arg := 0 }, ready := true, tries := 0, busy := 0, gen := 1 }

theorem witness_ProtectionTimingAndSpares :
    (2 ≤ mode State.reset ∧ State.reset.power.ask = none ∧ rd State.reset LINE_STATUS.CONN < 2) ∧
    (let s := w [(LINE_STATUS.LOS_A, 0), (LINE_STATUS.LOS_B, 0)]
     rd s LINE_STATUS.LOS_A = 0 ∧ rd s LINE_STATUS.LOS_B = 0 ∧ s.line.losRaised = 0 ∧ rd s LINE_STATUS.CONN = 0) ∧
    (let s := w [(LINE_STATUS.LOS_B, 0)]
     ({ s with line := { s.line with losRaised := 1 } } : State).line.losRaised = 2 ^ 0 ∧ rd s LINE_STATUS.LOS_A = 1 ∧ rd s LINE_STATUS.LOS_B = 0 ∧
       rd s LINE_CTRL.FORCE = 0 ∧ rd s LINE_CTRL.AUTO_EN = 1 ∧ s.line.lastSwitch = none ∧ mode s ≤ 3 ∧ noTree s ∧
       (let x : State := { s with line := { s.line with lastSwitch := some 0 }, time := { s.time with c := 124999999 } }
        x.line.lastSwitch = some 0 ∧ 0 ≤ x.time.c ∧ x.time.c < 0 + 125000000 ∧ x.time.c < 2 ^ 64)) ∧
    (let s := w [(LINE_CTRL.FORCE, 2)]
     1 ≠ rd s LINE_STATUS.CONN ∧ rd s LINE_CTRL.FORCE = 1 + 1 ∧ mode s ≤ 3 ∧ noTree s ∧ rd s LINE_STATUS.LOS_A = 1 ∧
       rd s LINE_STATUS.LOS_B = 1 ∧ rd (w [(LINE_STATUS.LOS_B, 0)] s) LINE_STATUS.LOS_B = 0) ∧
    (let s := w [(MODE_STATUS.MODE, 3), (LINE_CLK_SRC.AUTO, 0), (LINE_CLK_SRC.CHANNEL, 63), (FRM_STATUS.STATE 63, 2), (FRM_STATUS.STATE 0, 2)]
     let x : State := { s with line := { s.line with timed := true } }
     63 < chans x ∧ lineUp x = true ∧ x.line.timed = true ∧ rd x LINE_CLK_SRC.AUTO = 0 ∧ rd x LINE_CLK_SRC.CHANNEL = 63 ∧
       rd x (FRM_STATUS.STATE 63) = 2 ∧ 63 ≠ rd x LINE_CLK_SRC.CURRENT ∧ rd x LINE_CLK_SRC.CURRENT < 64 ∧
       (let y := w [(FRM_STATUS.STATE 63, 3)] x
        rd y LINE_CLK_SRC.CURRENT = 0 ∧ rd y (FRM_STATUS.STATE 0) = 2 ∧ rd y (FRM_STATUS.STATE (rd y LINE_CLK_SRC.CHANNEL)) ≠ 2 ∧
          rd y LINE_CLK_SRC.FALLBACK = 0)) := by unfold noTree; decide +kernel

theorem witness_ProtectionTimingAndSpares_grafts :
    (∀ tx : Bool,
      let c : UCls := if tx = true then .ltx else .lrx
      let g := graftOf c 5 64
      let s0 := lit tx 64 3 (w [(MODE_STATUS.MODE, 4)])
      let s : State := { s0 with rake := { s0.rake with gen := [(g.spare.code, 1)] } }
      let x : State := { s with rake := { s.rake with grafts := [g] }, line := { s.line with rxPar := [(5, { read := true })] } }
      let f : State := { s with rake := { s.rake with grafts := [{ g with fenced := true }] } }
      5 < chans x ∧ lockedGraft x tx 5 = some g ∧ admits x g = true ∧ g.unit.idx ≠ g.spare.idx ∧ g.fenced = false ∧ emitting x 5 = false ∧
        (x.line.rxPar.get 5 {}).read = true ∧ (f.line.rxPar.get 5 {}).read = false ∧
        lockedGraft f tx 5 = some { g with fenced := true } ∧ admits f g = true) ∧
    (let g : Grant := { kind := 0, ch := 5, dn := 5, cnt := 5, alloc := 0, fc := 0, long := true, req := false, start := 0, len := 60, eqd := 0, t0 := 0 }
     let b : Burst := { grant := g, slot := none, area := 0, rptAll := 0, rptHigh := 0, pods := [], frames := [], tend := [], ramp := [] }
     emitting { State.reset with burst := { State.reset.burst with air := [b] }, time := { State.reset.time with c := 65536 } } 5 = true) ∧
    (let s := w [(MODE_STATUS.MODE, 3), (FRM_STATUS.STATE 5, 2)]
     lineUp s = true ∧ s.line.timed = false ∧ rd s LINE_CLK_SRC.AUTO = 1 ∧ rd s (FRM_STATUS.STATE 5) = 2 ∧
       ∀ j, j < 5 → rd s (FRM_STATUS.STATE j) ≠ 2) ∧
    (let s := lit false 64 3 (w [(MODE_STATUS.MODE, 3)])
     let x : State := { s with line := { s.line with rxGraft := [(5, 64)] } }
     x.line.rxGraft.find 5 = some 64 ∧ lineUp x = true ∧ (laserOf x false 64).st = 3 ∧ rxGone x 5 = false ∧
       rd x LINE_STATUS.SWITCHING = 0) := by decide +kernel

/-- The Dibber detects a noise-free preamble with its polarizations exchanged and a quarter turn, and nothing in silence (R62, R63). -/
theorem test_dibber_fixes_alignment :
    let r := List.replicate 3 (0, 0, 0, 0) ++ resyncPreamble.map fun q =>
      let c := cornerSym q.1 q.2
      ((-c.2.2.2, c.2.2.1, -c.2.1, c.1) : LineSym)
    dibberAt 179 r 3 = some { off := 3, swap := true, rot := 1 } ∧ dibberAt 179 (List.replicate 60 (0, 0, 0, 0)) 3 = none := by decide +kernel

/-! ### Framer, Trellis and bursts -/

/-- A 16-byte segment header of channel k by R89: synchronization word, frame count, channel and superframe index, and its CRC-16. -/
def hdr (fc k sf : Nat) : List Byte :=
  let v := beBytes 14 (0x5A1D * 2 ^ 96 + fc * 2 ^ 64 + k * 2 ^ 58 + sf * 2 ^ 47)
  v ++ beBytes 2 (crc16 v)

/-- Channel 1 in a Hunt state with record `h`, and one decoded segment waiting. -/
def huntS (st : Nat) (h : Hunt) (l : List Byte) : State :=
  let s := w [(MODE_STATUS.MODE, 3), (FRM_STATUS.STATE 1, st)]
  { s with
    line := { s.line with rx := [(1, { inbox := [{ c := 0, u := 0, dead := false, bad := [], payload := l }] })] }
    hunts := [(1, h)] }

theorem witness_HuntFollowsStateTable :
    (let s := huntS 0 {} (hdr 7 1 0)
     1 < chans s ∧ lineUp s = true ∧ s.power.ask = none ∧ (rxOf s 1).inbox.length = 1 ∧ s.line.timed = false ∧ inService s = false) ∧
    (∀ st ∈ [0, 1, 2, 3], rd (huntS st {} []) (FRM_STATUS.STATE 1) = st ∧ mode (huntS st {} []) = 3) ∧
    (let g : DecSeg := { c := 0, u := 0, dead := false, bad := [], payload := hdr 7 1 124 }
     hdrValid 1 g = true ∧ hdrFc (hdrOf g) = 7 ∧ hdrSf (hdrOf g) = 124 ∧ hdrValid 1 { g with payload := [] } = false ∧ mapBad g = true ∧
       (let h : Hunt := { pred := 7, sf := 123, conf := 1, miss := 3 }
        hdrFc (hdrOf g) = h.pred ∧ hdrSf (hdrOf g) = (h.sf + 1) % 125 ∧ (h.seg + g.skip) % 16 = 0 ∧ 1 ≤ h.conf ∧ 3 ≤ h.miss ∧ ({ h with miss := 2 } : Hunt).miss < 3 ∧
          (({ h with seg := 15 } : Hunt).seg + g.skip) % 16 ≠ 0 ∧ ({ h with conf := 0 } : Hunt).conf = 0) ∧
       (let h : Hunt := { pred := 2, sf := 0, jump := some 6 }
        hdrFc (hdrOf g) ≠ h.pred ∧ h.jump = some 6 ∧ hdrFc (hdrOf g) = (6 + 1) % 2 ^ 32 ∧ ({ h with jump := some 7 } : Hunt).jump ≠ some 6) ∧
       (let h : Hunt := { pred := 7, sf := 0 }
        hdrFc (hdrOf g) = h.pred ∧ hdrSf (hdrOf g) ≠ (h.sf + 1) % 125)) := by decide +kernel

/-- The timing receiver's channel; page, READY and EXT_VALID either way; another channel in SYNC, and none; SERVICE. -/
theorem witness_HuntFollowsStateTable_timing :
    (let s := w [(LINE_CLK_SRC.CURRENT, 1), (TRELLIS_CTRL.READY, 1), (FRM_STATUS.EXT_VALID 1, 1)] (huntS 2 {} (hdr 7 1 0))
     let x : State := { s with line := { s.line with timed := true } }
     x.line.timed = true ∧ 1 = rd x LINE_CLK_SRC.CURRENT ∧ 0 ≠ rd x LINE_CLK_SRC.CURRENT ∧ rd x TRELLIS_CTRL.READY = 1 ∧
       rd State.reset TRELLIS_CTRL.READY = 0 ∧ rd x TRELLIS_STATUS.ACTIVE = 0 ∧ rd x (FRM_STATUS.EXT_VALID 1) = 1 ∧
       rd State.reset (FRM_STATUS.EXT_VALID 1) = 0 ∧ inService x = false) ∧
    (let g (sf fc page : Nat) : DecSeg :=
       let v := beBytes 14 (0x5A1D * 2 ^ 96 + fc * 2 ^ 64 + 1 * 2 ^ 58 + sf * 2 ^ 47 + page * 2 ^ 46)
       { c := 0, u := 0, dead := false, bad := [], payload := v ++ beBytes 2 (crc16 v) }
     hdrValid 1 (g 0 7 1) = true ∧ hdrSf (hdrOf (g 0 7 1)) = 0 ∧ bits (hdrOf (g 0 7 1)) 62 1 = 1 ∧ bits (hdrOf (g 0 7 0)) 62 1 = 0 ∧
       hdrSf (hdrOf (g 1 7 0)) ≠ 0) ∧
    (let s := w [(MODE_STATUS.MODE, 4), (FRM_STATUS.STATE 0, 2), (FRM_TREE.TREE_LOF, 0), (JOIN_STATUS.STATE, 7)] (huntS 2 { miss := 3 } [])
     mode s = 4 ∧ inService s = true ∧ rd s JOIN_TREE.VALID ≠ 1 ∧ rd s (FRM_STATUS.STATE 0) = 2 ∧ rd s FRM_TREE.TREE_LOF = 0 ∧
       s.power.down = none ∧ 3 ≤ (huntOf s 1).miss) ∧
    (∀ j, j < 64 → j ≠ 1 → rd (huntS 2 {} []) (FRM_STATUS.STATE j) ≠ 2) := by decide +kernel

/-- The second confirming header in a row enters SYNC; SF_INDEX 124 is followed by 0. -/
theorem test_hunt_sync : ends (exec (.huntSegment 1) (huntS 1 { pred := 7, sf := 124, conf := 1 } (hdr 7 1 0)))
    (fun t => rd t (FRM_STATUS.STATE 1) = 2) = true := by decide +kernel

/-- A pod header by R113. -/
def podHdr (tid ty key index len : Nat) : List Byte :=
  let v := beBytes 8 (tid * 2 ^ 52 + ty * 2 ^ 48 + key * 2 ^ 34 + index * 2 ^ 16 + len)
  v ++ beBytes 2 (crc16 v)

/-- Channel 1 with one pod area, delineation at `off`. -/
def podS (off : Nat) (bad : List Nat) (l : List Byte) : State :=
  { State.reset with hunts := [(1, { areas := [{ ext := 0, extOk := false, fc := 0, bad := bad, payload := l, off := off }] })] }

theorem witness_FramerPodsAndTrellis_repeats :
    let h := huntOf { State.reset with hunts := [(1, { seen := [(0, 5, 9)], groups := [(0, 9)] })] } 1
    (0, 5, 9) ∈ h.seen ∧ (0, 9 % 1024) ∈ h.groups ∧ (1, 9) ∉ h.groups := by decide

theorem witness_FramerPodsAndTrellis :
    (2 ^ 31 ≤ (0x8000FFFF : Word).toNat ∧ rd State.reset FRM_EXT_REF_LO.REF_LO < 2 ^ 32 ∧ rd (w [(FRM_STATUS.STATE 63, 2)]) (FRM_STATUS.STATE 63) = 2 ∧
      63 < chans State.reset ∧ (0x7FFFFFFF : Word).toNat < 2 ^ 31) ∧
    ((huntOf (podS 50106 [] []) 1).areas.length = 1 ∧ 50105 < 50106) ∧
    (let a := podHdr 4095 1 5 9 3 ++ [1, 2, 3]
     let v := beNat (slice a 0 10)
     touches [] 0 10 = false ∧ crc16 ((slice a 0 10).take 8) = bits v 0 16 ∧ 0 + 10 + bits v 16 16 ≤ 50115 ∧ bits v 52 12 = bits v 52 12 ∧
       bits v 68 12 = 4095 ∧ bits v 64 4 = 1 ∧ touches [] (0 + 10) (0 + 10 + bits v 16 16) = false ∧
       (bits v 50 14, bits v 32 16) = (5, 9) ∧ (0, 5, 9) ∉ (huntOf (podS 0 [] a) 1).seen ∧ ¬touches [0] 0 10 = false) ∧
    (∀ ty ∈ [0, 4, 15], bits (beNat (podHdr 4095 ty 0 0 0)) 64 4 = ty) ∧
    (let s := w [(TRELLIS_CTRL.ENABLE, 1), (TRELLIS_TRIB.ENABLE 0 255, 1), (TRELLIS_TRIB.BASE 0 255, 4095), (TRELLIS_TRIB.GROW 0 255, 31),
       (TRELLIS_TRIB.PORT 0 255, 7), (HL_PORT.STATE 255, 2)]
     let x : State := { s with trellis := { s.trellis with prev := some { fc := 0, ext := 0, page := 0, miss := false } } }
     x.trellis.prev.isSome = true ∧ State.reset.trellis.prev = none ∧ rd x TRELLIS_CTRL.ENABLE = 1 ∧ rd x (TRELLIS_TRIB.ENABLE 0 255) = 1 ∧
       (∀ m, m < 256 → m ≠ 255 → rd x (TRELLIS_TRIB.ENABLE 0 m) = 0) ∧ rd x (TRELLIS_TRIB.BASE 0 255) + rd x (TRELLIS_TRIB.COUNT_M1 0 255) ≤ 4095 ∧
       255 = 8 * rd x (TRELLIS_TRIB.GROW 0 255) + rd x (TRELLIS_TRIB.PORT 0 255) ∧ rd x (TRELLIS_TRIB.GROW 0 255) < rows x ∧
       portFormed x 255 = true ∧ portUpNow x 255 = true ∧ rd State.reset TRELLIS_CTRL.ENABLE = 0) ∧
    (1 ≠ rd State.reset TRELLIS_STATUS.ACTIVE ∧ 0 = rd State.reset TRELLIS_STATUS.ACTIVE ∧ 4095 < 4096 ∧ 255 < 256) := by decide +kernel

/-- A data grant to allocation 9, whose slot 0 belongs to bed 0, on upstream channel 0. -/
def gr (kind : Nat) : Grant :=
  { kind := kind, ch := 0, dn := 0, cnt := 0, alloc := 9, fc := 5, long := true, req := false, start := 0, len := 60, eqd := 0, t0 := 0 }

def bu (b : Grant) : Burst :=
  { grant := b, slot := some 0, area := podArea true 60, rptAll := 0, rptHigh := 0, pods := [], frames := [], tend := [], ramp := [] }

theorem witness_BurstsLeaveAndEnd :
    (let s : State := { State.reset with burst := { State.reset.burst with grants := [{ gr 2 with t0 := 1840000 * 65536 }] } }
     let w : Int := 115 * (now s : Int)
     (∀ g ∈ s.burst.grants, ¬(g.kind = 1 ∨ (g.t0 - (1840000 + g.eqd + 64 * g.start : Nat) * 65536 : Int) + (1840000 + 7 : Nat) * 65536 < w)) ∧
       s.burst.bursts = [] ∧ s.burst.air = [] ∧ (gr 1).kind = 1) ∧
    (∀ kind ∈ [0, 1], let s : State := { State.reset with burst := { State.reset.burst with grants := [{ gr kind with start := 1, t0 := 1 }, gr kind] } }
      earliest s.burst.grants = some (gr kind) ∧ (gr kind).kind = kind ∧ ∀ n, n < 256 → rd s (ALLOC_LO.VALID n) = 1 → rd s (ALLOC_LO.ID n) ≠ (gr kind).alloc) ∧
    (let s := lit true 0 3 (w [(MODE_STATUS.MODE, 4), (ALLOC_LO.VALID 0, 1), (ALLOC_LO.ID 0, 9), (LTX_CTRL.ENABLE 0, 1), (BURST_CTRL.ENABLE, 1)])
     let x : State := { s with burst := { s.burst with bursts := [{ bu (gr 0) with grant := { gr 0 with t0 := 1 } }, bu (gr 0)] } }
     firstBurst x 0 = some (bu (gr 0)) ∧ x.burst.air = [] ∧ 0 ∉ x.burst.removing ∧ (gr 0).cnt < 64 ∧ check4 x (gr 0) = true ∧
       rd x LINE_STATUS.SWITCHING = 0 ∧ check4 State.reset (gr 0) = false ∧ (bu (gr 0)).frames = [] ∧ (bu (gr 0)).tend = []) ∧
    (∀ w ∈ [(0, 2), (0, 3)], let g := { gr 1 with win := some w }
     let s : State := { State.reset with join := { State.reset.join with lastWin := 3 } }
     g.kind = 1 ∧ g.win = some w ∧ (w.2 < s.join.lastWin ↔ w.2 = 2) ∧ w.1 = 0) ∧
    (∀ m ∈ [0, 1, 2],
     let t : TendPod := { sealed := true, key := 0, body := [], mark := m }
     let b : Burst := { bu (gr 0) with tend := [t] }
     let s : State := { State.reset with burst := { State.reset.burst with air := [b] }, join := { State.reset.join with swTarget := some 1 }, power := { State.reset.power with gasp := some 0 } }
     s.burst.air.find? (fun x => x.grant.ch = b.grant.ch) = some b ∧ b.grant.kind ≠ 3 ∧ b.grant.cnt < 64 ∧ s.join.swTarget = some 1 ∧
       t ∈ b.tend ∧ t.mark = m ∧ s.power.gasp = some 0 ∧ State.reset.join.swTarget = none) ∧
    (∀ l ∈ [[], [31]], let b := bu { gr 3 with ch := 63 }
     let s : State := { State.reset with burst := { State.reset.burst with air := [b] }, join := { State.reset.join with tuned := some 63, visits := l } }
     b.grant.kind = 3 ∧ s.join.tuned = some b.grant.ch ∧ s.join.swTarget = none ∧ b.tend = [] ∧ s.join.visits = l) := by decide +kernel

/-- A write of EQD moves a scheduled grant of a later upstream frame by the difference (R132, R133). -/
theorem test_eqd_retimes : ends (exec (.eqdWrite 7)
      { State.reset with burst := { State.reset.burst with grants := [{ gr 2 with t0 := 1840000 * 65536 }] } })
    (fun t => t.burst.grants.map (·.t0) = [1840007 * 65536]) = true := by decide +kernel

/-- All 256 slots held. -/
def fullS : State :=
  { State.reset with regs := (BURST_ALLOC_ADD_LO.ID.key, 5) :: (List.range 256).map fun n => ((ALLOC_LO.VALID n).key, 1) }

theorem get_map (l : List Nat) (f : Nat → Nat) (k v d : Nat) :
    Table.get (l.map fun n => (f n, v)) k d = if k ∈ l.map f then v else d := by
  induction l with
  | nil => rfl
  | cons x r ih => by_cases h : k = f x <;> simp [Table.get, ih, h]

theorem full_slots : ∀ n, n < 256 → rd fullS (ALLOC_LO.VALID n) = 1 ∧ rd fullS (ALLOC_LO.ID n) ≠ rd fullS BURST_ALLOC_ADD_LO.ID := by
  intro n hn
  have h1 : (ALLOC_LO.VALID n).key ≠ BURST_ALLOC_ADD_LO.ID.key := by simp only [Fld.key, ALLOC_LO.VALID, BURST_ALLOC_ADD_LO.ID]; omega
  have h2 : (ALLOC_LO.ID n).key ≠ BURST_ALLOC_ADD_LO.ID.key := by simp only [Fld.key, ALLOC_LO.ID, BURST_ALLOC_ADD_LO.ID]; omega
  have m1 : (ALLOC_LO.VALID n).key ∈ (List.range 256).map fun n => (ALLOC_LO.VALID n).key := List.mem_map.mpr ⟨n, List.mem_range.mpr hn, rfl⟩
  have m2 : (ALLOC_LO.ID n).key ∉ (List.range 256).map fun n => (ALLOC_LO.VALID n).key := by
    simp only [List.mem_map, List.mem_range, not_exists, not_and]
    intro m _
    simp only [Fld.key, ALLOC_LO.VALID, ALLOC_LO.ID]
    omega
  have e1 : rd fullS (ALLOC_LO.VALID n) = 1 := by
    show (if (ALLOC_LO.VALID n).key = BURST_ALLOC_ADD_LO.ID.key then 5 else _) = 1
    rw [if_neg h1, get_map, if_pos m1]
  have e2 : rd fullS (ALLOC_LO.ID n) = 0 := by
    show (if (ALLOC_LO.ID n).key = BURST_ALLOC_ADD_LO.ID.key then 5 else _) = 0
    rw [if_neg h2, get_map, if_neg m2]
    rfl
  exact ⟨e1, by rw [e2]; decide⟩

theorem witness_AllocationSlots :
    (2 ^ 31 ≤ (0x80000001 : Word).toNat) ∧
    (let s := w [(BURST_ALLOC_ADD_LO.ID, 0xFFFF), (BURST_ALLOC_ADD_LO.OWNER, 8), (ALLOC_LO.VALID 0, 1)]
     rd s BURST_ALLOC_ADD_LO.ID = 65535 ∧ rd s BURST_ALLOC_ADD_LO.OWNER = 8 ∧ rd s (ALLOC_LO.VALID 1) ≠ 1 ∧ (∀ m, m < 1 → rd s (ALLOC_LO.VALID m) = 1) ∧
       (∀ n, n < 256 → rd s (ALLOC_LO.VALID n) = 1 → rd s (ALLOC_LO.ID n) ≠ 65535 ∧ rd s (ALLOC_LO.OWNER n) ≠ 8) ∧
       rd s BURST_STATUS.ALLOC_USED < 256 ∧ (∀ b ∈ s.burst.bursts, b.slot ≠ some 0)) ∧
    (let s := w [(BURST_ALLOC_ADD_LO.OWNER, 9)]
     ¬(rd s BURST_ALLOC_ADD_LO.OWNER = 8 ∨ rd s BURST_ALLOC_ADD_LO.OWNER < beds s)) ∧
    (let s := w [(BURST_ALLOC_ADD_LO.ID, 4), (BURST_ALLOC_ADD_LO.OWNER, 7), (ALLOC_LO.VALID 255, 1), (ALLOC_LO.ID 255, 4)]
     rd s BURST_ALLOC_ADD_LO.OWNER < beds s ∧ rd s (ALLOC_LO.VALID 255) = 1 ∧ rd s (ALLOC_LO.ID 255) = rd s BURST_ALLOC_ADD_LO.ID) ∧
    (let s := w [(BURST_ALLOC_ADD_LO.ID, 5), (BURST_ALLOC_ADD_LO.OWNER, 8), (ALLOC_LO.VALID 3, 1), (ALLOC_LO.ID 3, 4), (ALLOC_LO.OWNER 3, 8)]
     (∀ n, n < 256 → rd s (ALLOC_LO.VALID n) = 1 → rd s (ALLOC_LO.ID n) ≠ 5) ∧ rd s (ALLOC_LO.VALID 3) = 1 ∧ rd s (ALLOC_LO.OWNER 3) = 8) ∧
    (∀ n, n < 256 → rd fullS (ALLOC_LO.VALID n) = 1 ∧ rd fullS (ALLOC_LO.ID n) ≠ rd fullS BURST_ALLOC_ADD_LO.ID) ∧
    (let s : State := { w [(ALLOC_LO.VALID 0, 1)] with burst := { State.reset.burst with removing := [0] } }
     0 ∈ s.burst.removing ∧ s.burst.air ++ s.burst.bursts = [] ∧ rd s (ALLOC_LO.VALID 0) = 1) := by
  refine ⟨?_, ?_, ?_, ?_, ?_, full_slots, ?_⟩ <;> decide +kernel

/-- An addition takes the lowest free slot. -/
theorem test_alloc_add : ends (exec (.burstAllocAdd 0x80000123) (w [(ALLOC_LO.VALID 0, 1), (ALLOC_LO.VALID 2, 1), (BURST_ALLOC_ADD_LO.ID, 77)]))
    (fun t => rd t BURST_ALLOC_ADD_HI.SLOT = 1 && rd t BURST_ALLOC_ADD_HI.RESULT = 1 && rd t (ALLOC_HI.KEY 1) = 0x123) = true := by decide +kernel

/-! ### Joining -/

/-- Mode JOIN, JOIN state `st`, with register fields set. -/
def jn (st : Nat) (l : List (Fld × Nat) := []) : State := w ((MODE_STATUS.MODE, 3) :: (JOIN_STATUS.STATE, st) :: l)

/-- The state with one tending message waiting, of type `ty` with body `b`. -/
def msgS (ty : Nat) (b : List Byte) (s : State) : State :=
  { s with join := { s.join with inbox := [{ ty := ty, sealed := true, tid := 0, seq := 0, body := b, fc := 0 }] } }
def msg (ty : Nat) (b : List Byte) : Msg := { ty := ty, sealed := true, tid := 0, seq := 0, body := b, fc := 0 }

theorem waits (ty : Nat) (b : List Byte) (s : State) : nextMsg (msgS ty b s) (msg ty b) ty := by
  simp [nextMsg, msgS, msg]

theorem witness_DiscoveryAndIdentification :
    let ann : List Byte := [5, 0x80, 0, 0, 0, 0, 0, 0, 0, 0, 0, 9]
    let ann2 : List Byte := [5, 0, 0, 0, 0, 0, 0, 0, 0, 0, 0, 9]
    let res (hit : Bool) : List Byte := ([5, BitVec.ofNat 8 (b2n hit), 0, 7, 0, 0, 0, 0] : List Byte) ++ beBytes 8 (State.reset.fuses.serial + b2n (!hit))
    let aid (x prof : Nat) : List Byte := beBytes 8 (State.reset.fuses.serial + x) ++ ([0, 1, 0, 2, 0, 0, 0, 0, BitVec.ofNat 8 prof] : List Byte)
    let searching : State := { jn 1 with join := { State.reset.join with search := some 5, used := [(0, 7)] } }
    (nextMsg (msgS 0x01 ann (jn 1)) (msg 0x01 ann) 0x01 ∧ joining (msgS 0x01 ann (jn 1)) 1 ∧ bitAt (beAt ann 1 1) 7 = true) ∧
    (nextMsg (msgS 0x01 ann2 (jn 1)) (msg 0x01 ann2) 0x01 ∧ bitAt (beAt ann2 1 1) 7 = false ∧ (jn 1).join.search ≠ some (beAt ann2 0 1) ∧
      searching.join.search = some (beAt ann2 0 1) ∧ (∀ x ∈ ({ searching.join with used := [] } : JoinSt).used, beAt ann2 2 2 ≤ x.2) ∧
      searching.join.used = [(0, 7)] ∧ 7 < beAt ([5, 0, 0, 8] : List Byte) 2 2 ∧ ¬joining (jn 3) 1 ∧ ¬joining (jn 3) 2 ∧ joining (jn 2) 2) ∧
    (∀ hit : Bool, nextMsg (msgS 0x02 (res hit) searching) (msg 0x02 (res hit)) 0x02 ∧ joining (msgS 0x02 (res hit) searching) 1 ∧
      searching.join.search = some (beAt (res hit) 0 1) ∧ searching.join.used.find? (fun x => x.2 = beAt (res hit) 2 2) = some (0, 7) ∧
      ([(1, 7)] : List (Nat × Nat)).find? (fun x => x.2 = beAt (res hit) 2 2) = some (1, 7) ∧ (jn 1).join.used.find? (fun x => x.2 = beAt (res hit) 2 2) = none ∧
      (hit = true → beAt (res hit) 1 1 = 1 ∧ beAt (res hit) 8 8 = State.reset.fuses.serial) ∧
      (hit = false → beAt (res hit) 8 8 ≠ State.reset.fuses.serial ∧ 1 ≤ rd searching JOIN_STATUS.CW)) ∧
    (∀ prof ∈ [2, 3], nextMsg (msgS 0x03 (aid 0 prof) (jn 2)) (msg 0x03 (aid 0 prof)) 0x03 ∧ beAt (aid 0 prof) 8 2 % 4096 ≠ 4095 ∧
      beAt (aid 0 prof) 0 8 = (jn 2).fuses.serial ∧ joining (jn 2) 2 ∧ beAt (aid 0 prof) 16 1 = prof ∧ rd (jn 2) JOIN_CTRL.MAX_PROFILE ≠ 2 ∧
      rd (jn 2) JOIN_STATUS.WARM ≠ 1 ∧ rd (jn 2) FRM_TREE.TREE_ID < 65536 ∧
      (let s := jn 2 [(JOIN_STATUS.WARM, 1), (JOIN_TID.TID, 1), (JOIN_STATUS.PROFILE, prof)]
       rd s JOIN_STATUS.WARM = 1 ∧ rd s JOIN_TID.TID = beAt (aid 0 prof) 8 2 % 4096 ∧ rd s JOIN_TREE.TREE_ID = rd s FRM_TREE.TREE_ID ∧
         rd s JOIN_STATUS.PROFILE = prof ∧ addResult s (beAt (aid 0 prof) 10 2) 8 = 1)) ∧
    (¬joining (jn 3) 1 ∧ ¬joining (jn 3) 2 ∧ beAt (aid 1 2) 0 8 ≠ State.reset.fuses.serial ∧ beAt (aid 0 1) 16 1 ≠ 2 ∧ beAt (aid 0 1) 16 1 ≠ 3) := by
  unfold joining
  refine ⟨⟨waits _ _ _, ?_, ?_⟩, ⟨waits _ _ _, ?_⟩, fun hit => ⟨waits _ _ _, ?hit⟩, fun prof h => ⟨waits _ _ _, ?prof⟩, ?_⟩
  case hit => cases hit <;> decide +kernel
  case prof => revert prof; decide +kernel
  all_goals decide +kernel

/-- A KEY_OFFER for slots 1 and 2 signed by the operator key 5, with the curve's base point as the head end's ephemeral key. -/
def offerPub : List Byte := pubOf 1
def offerHead : List Byte := [0, 1, 0, 2, 0, 0, 0, 0]
def offerS (sig : List Byte) : State :=
  let s := jn 5 [(FRM_EXT_REF_HI.REF_VALID, 1)]
  msgS 0x08 (offerHead ++ offerPub ++ sig) { s with boot := { s.boot with operPub := pubOf 5 } }
def offerSig : List Byte := ecdsaSign 5 7 (keyH1 (offerS []) 1 2 offerPub)

theorem offer_valid : ecdsaVerify (offerS offerSig).boot.operPub (keyH1 (offerS offerSig) 1 2 offerPub) offerSig = true := by decide +kernel
theorem offer_fields : (let b := offerHead ++ offerPub ++ offerSig
    beAt b 0 2 % 2 ^ 14 = 1 ∧ beAt b 2 2 % 2 ^ 14 = 2 ∧ slice b 8 97 = offerPub ∧ slice b 105 96 = offerSig) := by decide +kernel

/-- The wrapped key of RFC 3394, 4.6, and its KEK and key. -/
def kek46 : List Byte := beBytes 32 0x000102030405060708090A0B0C0D0E0F101112131415161718191A1B1C1D1E1F
def wrapped46 : List Byte := beBytes 40 0x28C9F404C4B810F4CBCCB35CFB87F8263F5786E2D80ED326CBC7F0E71A99F43BFB988B9B7A02DD21
theorem test_unwrap :
    keyUnwrap kek46 wrapped46 = some (beBytes 32 0x00112233445566778899AABBCCDDEEFF000102030405060708090A0B0C0D0E0F) := by decide +kernel

theorem witness_RangingAndKeys :
    (∀ fin ∈ [0, 1], let b : List Byte := [0, 0, 0, 1, 0, 0, 0, 2, 0, BitVec.ofNat 8 fin]
      nextMsg (msgS 0x04 b (jn 3)) (msg 0x04 b) 0x04 ∧ joining (jn 3) 3 ∧ bitAt (beAt b 9 1) 0 = decide (fin = 1)) ∧
    (¬joining (jn 5) 3 ∧ inService (jn 5) = false ∧ inService (w [(MODE_STATUS.MODE, 5)]) = true) ∧
    (nextMsg (msgS 0x05 [] (jn 4)) (msg 0x05 []) 0x05 ∧ joining (jn 4) 4 ∧ (jn 4).fuses.variant = 0 ∧ (jn 4).join.tuned = none ∧
      (∀ st ∈ [1, 3, 4], let s := variant 1 (lit true 31 st (jn 4))
       joining s 4 ∧ s.fuses.variant = 1 ∧ chans s - 1 = 31 ∧ (laserOf s true (engOf s true 31)).st = st ∧ s.power.down = none) ∧
      ¬(joining (jn 5) 4 ∨ (inService (jn 5) = true ∧ rd (jn 5) JOIN_STATUS.PROFILE = 3))) ∧
    (let b : List Byte := (List.replicate 12 0 ++ [7] : List Byte)
     nextMsg (msgS 0x06 b (jn 4)) (msg 0x06 b) 0x06 ∧ ∀ i, i < 3 → bitAt (beAt b 12 1 % 8) i = true) ∧
    (nextMsg (msgS 0x07 [] (jn 5)) (msg 0x07 []) 0x07 ∧ joining (jn 5) 5 ∧ (jn 5).join.offered = false ∧
      joining (jn 6 [(JOIN_STATUS.WARM, 1)]) 6 ∧ rd (jn 6 [(JOIN_STATUS.WARM, 1)]) JOIN_STATUS.WARM = 1 ∧ ¬joining (jn 3) 5 ∧ ¬joining (jn 3) 6) ∧
    (nextMsg (offerS offerSig) (msg 0x08 (offerHead ++ offerPub ++ offerSig)) 0x08 ∧ joining (offerS offerSig) 5 ∧ (offerS offerSig).cipher.loads = [] ∧
      (offerS offerSig).cipher.wait = [] ∧
      rd (offerS offerSig) FRM_EXT_REF_HI.REF_VALID = 1 ∧ 1 ≠ 2 ∧
      ecdsaVerify (offerS offerSig).boot.operPub (keyH1 (offerS offerSig) 1 2 offerPub) offerSig = true) ∧
    (let s : State := { jn 5 with join := { State.reset.join with h2 := some [1] } }
     nextMsg (msgS 0x09 [1] s) (msg 0x09 [1]) 0x09 ∧ joining s 5 ∧ s.join.h2 = some [1] ∧ (jn 5).join.h2 ≠ some [1]) ∧
    (∀ use ∈ [2, 3], let b : List Byte := ([0, 9, BitVec.ofNat 8 use, 0, 0, 0, 0, 0] : List Byte) ++ wrapped46
      nextMsg (msgS 0x0A b (jn 6)) (msg 0x0A b) 0x0A ∧ joining (jn 6) 6 ∧ beAt b 2 1 = use ∧ rd (jn 6) JOIN_TEND_SLOTS.VALID = 0 ∧
        (jn 6).cipher.kek = none ∧ (jn 6).cipher.loads = [] ∧ (jn 6).cipher.wait = [] ∧ slice b 8 40 = wrapped46 ∧
        rd (jn 6 [(JOIN_TEND_SLOTS.VALID, 1), (JOIN_TEND_SLOTS.UP, 9)]) JOIN_TEND_SLOTS.UP = beAt b 0 2 % 2 ^ 14 ∧
        (slotAt { jn 6 with cipher := { State.reset.cipher with slots := [(9, { st := 1, tending := true })] } } (beAt b 0 2 % 2 ^ 14)).tending = true ∧
        ({ State.reset.cipher with loads := [{ slot := 1, use := 0, key := [], tending := false, msg := none }] } : CipherSt).loads ≠ [] ∧
        ({ jn 6 with cipher := { State.reset.cipher with kek := some kek46 } } : State).cipher.kek = some kek46) ∧
    (keyUnwrap kek46 wrapped46).isSome = true ∧ keyUnwrap kek46 (List.replicate 40 0) = none ∧ ¬(inService (jn 3) = true ∨ joining (jn 3) 6) := by
  unfold joining
  refine ⟨fun fin h => ⟨waits _ _ _, ?fin⟩, ?_, ⟨waits _ _ _, ?_⟩, ⟨waits _ _ _, ?_⟩, ⟨waits _ _ _, ?_⟩,
    ⟨waits _ _ _, ?_, rfl, rfl, ?_, ?_, offer_valid⟩, ⟨waits _ _ _, ?_⟩, fun use h => ⟨waits _ _ _, ?use⟩, ?wrap, ?_, ?_⟩
  case fin => revert fin; decide +kernel
  case use => revert use; decide +kernel
  case wrap => rw [test_unwrap]; rfl
  all_goals decide +kernel

theorem witness_JoinTimersAndExits :
    (∀ st ∈ [2, 3, 4, 5, 6], joining (jn st) st) ∧ (nextMsg (msgS 0x11 [0, 9] (jn 3)) (msg 0x11 [0, 9]) 0x11 ∧ mode (jn 3) = 3) ∧
    State.reset.join.sealWait = false ∧ State.reset.power.ask = none ∧ (∀ st ∈ [2, 3, 4, 5, 6], ¬joining (jn 0) st) ∧ mode (w [(MODE_STATUS.MODE, 4)]) ≠ 3 ∧ inService (w [(MODE_STATUS.MODE, 4)]) = true ∧
    ({ jn 0 with join := { State.reset.join with sealWait := true } } : State).join.sealWait = true ∧
    (rd (jn 0 [(JOIN_STATUS.HOLD, 1)]) JOIN_STATUS.HOLD = 1 ∧ (jn 0 [(JOIN_STATUS.HOLD, 1)]).join.holdMs ≠ 0xFFFF ∧ rd (jn 0) FRM_TREE.TREE_LOF = 1) ∧
    (let s := jn 0 [(JOIN_STATUS.HOLD, 1), (FRM_TREE.TREE_LOF, 0), (FRM_TREE.PROFILE, 2)]
     joining s 0 ∧ rd s FRM_TREE.TREE_LOF = 0 ∧ 2 ≤ rd s FRM_TREE.PROFILE ∧ rd s JOIN_CTRL.ENABLE = 1 ∧ rd s JOIN_STATUS.HOLD = 1 ∧
       rd (wr s FRM_TREE.PROFILE 1) FRM_TREE.PROFILE < 2 ∧ rd (wr s JOIN_CTRL.ENABLE 0) JOIN_CTRL.ENABLE = 0 ∧ rd State.reset JOIN_STATUS.HOLD = 0) := by
  unfold joining; refine ⟨?_, ⟨waits _ _ _, ?_⟩, rfl, rfl, ?_, ?_, ?_, rfl, ?_, ?_⟩ <;> decide +kernel

theorem witness_RegistrationAndService :
    (∀ x ∈ [7, 8], let b : List Byte := [0, 9, BitVec.ofNat 8 x, 0, 0, 3]
      nextMsg (msgS 0x0B b (jn 6)) (msg 0x0B b) 0x0B ∧ joining (jn 6) 6 ∧ beAt b 2 1 = x ∧ beAt b 0 2 = 9 ∧ (x = 7 → x < beds (jn 6)) ∧
        rd (jn 6) (ALLOC_LO.VALID 0) ≠ 1 ∧ ∀ n, n < 256 → rd (jn 6) (ALLOC_LO.VALID n) = 1 → rd (jn 6) (ALLOC_LO.ID n) ≠ 9) ∧
    (let s := jn 6 [(ALLOC_LO.VALID 1, 1), (ALLOC_LO.ID 1, 9)]
     rd s (ALLOC_LO.VALID 1) = 1 ∧ rd s (ALLOC_LO.ID 1) = 9 ∧ (∀ k, k < 1 → ¬(rd s (ALLOC_LO.VALID k) = 1 ∧ rd s (ALLOC_LO.ID k) = 9)) ∧ beds (variant 2 s) ≤ 7 ∧
       (∀ x ∈ s.burst.bursts, x.slot ≠ some 1)) ∧
    (nextMsg (msgS 0x0C [0, 9] (jn 6)) (msg 0x0C [0, 9]) 0x0C ∧ ¬(inService (jn 3) = true ∨ joining (jn 3) 6)) ∧
    (let s := jn 6 [(FRM_EXT_REF_HI.REF_VALID, 1), (JOIN_TEND_SLOTS.VALID, 1)]
     nextMsg (msgS 0x0D [] s) (msg 0x0D []) 0x0D ∧ joining s 6 ∧ rd s FRM_EXT_REF_HI.REF_VALID = 1 ∧ rd s JOIN_TEND_SLOTS.VALID = 1 ∧
       rd (jn 6) JOIN_TEND_SLOTS.VALID ≠ 1) ∧
    (∀ n, n < 256 → rd fullS (ALLOC_LO.VALID n) = 1 ∧ rd fullS (ALLOC_LO.ID n) ≠ rd fullS BURST_ALLOC_ADD_LO.ID) ∧
    (∀ x ∈ [1, 2], let b : List Byte := [BitVec.ofNat 8 x]
      nextMsg (msgS 0x0F b (jn 6)) (msg 0x0F b) 0x0F ∧ beAt b 0 1 = x ∧ rd (jn 6) LINE_CTRL.FORCE = 0 ∧
        rd (jn 6) (if x = 1 then LINE_STATUS.LOS_A else LINE_STATUS.LOS_B) = 1) ∧
    (rd (jn 6 [(LINE_STATUS.LOS_B, 0)]) LINE_STATUS.LOS_B = 0 ∧ rd (jn 6) LINE_STATUS.CONN ≠ 2 - 1 ∧ rd (jn 6) LINE_STATUS.CONN = 1 - 1 ∧
      ¬(rd (jn 6 [(LINE_CTRL.FORCE, 1)]) LINE_CTRL.FORCE = 0 ∨ rd (jn 6 [(LINE_CTRL.FORCE, 1)]) LINE_CTRL.FORCE = 3)) ∧
    (let s : State := { jn 6 with join := { State.reset.join with swTarget := some 1, rekeys := [{ slot := 1, cause := 1, count := 99 }] } }
     s.join.swTarget = some 1 ∧ s.join.swGrant = false ∧ grantToDev s = false ∧ (jn 6).join.swTarget = none ∧
       s.join.rekeys.find? (fun r => r.slot = 1) = some { slot := 1, cause := 1, count := 99 } ∧ s.join.rekeys.find? (fun r => r.slot = 2) = none ∧ ({ slot := 1, cause := 1, count := 100 } : Rekey).count ≥ 100) ∧
    nextMsg (msgS 0x10 [1] (jn 6)) (msg 0x10 [1]) 0x10 := by
  unfold joining
  refine ⟨fun x h => ⟨waits _ _ _, ?add⟩, ?_, ⟨waits _ _ _, ?_⟩, ⟨waits _ _ _, ?_⟩, full_slots, fun x h => ⟨waits _ _ _, ?switch⟩, ?_, ?_,
    waits _ _ _⟩
  case add => revert x; decide +kernel
  case switch => revert x; decide +kernel
  all_goals decide +kernel

/-- ASSIGN_ALLOC fills slot 0. -/
theorem test_registration_assign : ends (exec .assignAlloc (msgS 0x0B [0, 9, 7, 0, 0, 3] (jn 6)))
    (fun t => rd t (ALLOC_LO.ID 0) = 9 && rd t (ALLOC_LO.OWNER 0) = 7 && rd t (ALLOC_HI.KEY 0) = 3) = true := by decide +kernel

/-! ### Time -/

/-- The time engine changed. -/
def tm (f : TimeSt → TimeSt) (s : State := State.reset) : State := { s with time := f s.time }

/-- SERVICE with channel 0 timing, a delay estimate and one frame-start record, so that TIME_INFO has a phase error. -/
def phased (good : Nat) : State :=
  tm (fun t => { t with ring := [(0, { fc := 0, ts := 0, frac := 0, ext := 0 })], good := good })
    (w [(MODE_STATUS.MODE, 4), (TIME_DC_STATUS.VALID, 1), (FRM_STATUS.STATE 0, 2)])
/-- A TIME_INFO body for EXT 0 and channel 0 whose NS is `ns`. -/
def timeBody (ns : Nat) : List Byte := List.replicate 14 0 ++ beBytes 4 ns ++ [0, 0, 0, 0]

theorem witness_TimeEngine :
    (let r : FsRec := { fc := 1, ts := 2, frac := 3, ext := 3 }
     let s := tm (fun t => { t with ring := [(3, r)] }) (w [(TIME_FS_SEL.IDX, 3)])
     s.time.ring.find (rd s TIME_FS_SEL.IDX) = some r ∧ State.reset.time.ring.find (rd State.reset TIME_FS_SEL.IDX) = none) ∧ rd State.reset TIME_RATE_LO.RATE_LO < 2 ^ 32 ∧ State.reset.power.ask = none ∧
    (bitAt (0x80000000 : Word).toNat 31 = true ∧ bitAt (0x80000000 : Word).toNat 30 = false ∧ bitAt (0xA0000000 : Word).toNat 29 = true ∧
      bitAt (0x80000000 : Word).toNat 29 = false ∧ rd State.reset TIME_STATUS.VALID = 0 ∧
      (let thr := rd State.reset TIME_JUMP.THRESH * 65536
       let at_ (d : Nat) := w [(TIME_STATUS.VALID, 1), (TIME_STEP_LO.STEP_LO, d)]
       (stepVal (at_ thr)).natAbs ≤ thr ∧ thr < (stepVal (at_ (thr + 1))).natAbs ∧ rd (at_ thr) TIME_STATUS.VALID = 1)) ∧
    (bitAt (0x40000000 : Word).toNat 30 = true ∧ setVal State.reset < timeWrap ∧
      (let s := w [(TIME_STATUS.VALID, 1), (TIME_SET_SEC.SEC, 1)]
       rd s TIME_JUMP.THRESH * 65536 < (setDelta s (setVal s)).natAbs ∧ rd s TIME_STATUS.VALID = 1) ∧
      (let s := w [(TIME_STATUS.VALID, 1), (TIME_SET_NS.NS, 1)]
       (setDelta s (setVal s)).natAbs ≤ rd s TIME_JUMP.THRESH * 65536) ∧ bitAt (0 : Word).toNat 30 = false ∧ State.reset.time.ofs < timeWrap) ∧
    ((∀ a ∈ [0, 2, 5], ∀ p ∈ [0, 1], let s := w [(TIME_TRIG_CTRL.ARM 63, 1), (TIME_TRIG_CTRL.ACTION 63, a), (TIME_TRIG_CTRL.ARG 63, 4),
        (TIME_PPS_A.ENABLE, 1), (TIME_TRIG_PERIOD.PERIOD 63, p)]
      2 ≤ mode s ∧ rd s (TIME_TRIG_CTRL.ARM 63) = 1 ∧ trigTarget s 63 ≤ now s ∧ 63 ∉ s.time.jumped ∧ trigTurn s 63 = true ∧ rd s (TIME_TRIG_PERIOD.PERIOD 63) = p ∧
      rd s (TIME_TRIG_CTRL.ACTION 63) = a ∧ rd s (TIME_TRIG_CTRL.ARG 63) % 16 < 5 ∧ 4 ∉ s.mgmt.conv ∧ rd s TIME_PPS_A.ENABLE = 1 ∧
      bitAt (rd (w [(MODE_PAD.HOLD, 0)]) MODE_PAD.HOLD) 2 = false ∧ s.time.pulse.find 0 = none)) ∧
    (let s := tm fun t => { t with pulse := [(1, 7)] }
     (tm fun t => { t with pulse := [(0, 7)] }).time.pulse.find 0 = some 7 ∧ s.time.pulse.find 1 = some 7 ∧ (7 : Int) ≤ 8 * s.time.c + 7 ∧ (tm fun t => { t with pulse := [(1, 8)] }).time.pulse.find 1 = some 8 ∧
       (8 * s.time.c + 7 : Int) < 8 ∧ s.time.pulse.find 0 = none) ∧
    (let s := w [(TIME_TRIG_CTRL.ARM 2, 1), (TIME_TRIG_CTRL.ACTION 2, 5), (TIME_TRIG_CTRL.ARM 63, 1), (TIME_TRIG_CTRL.ACTION 63, 5)]
     trigTurn s 63 = false ∧ trigDue s 3 = false) ∧
    (let s := w [(NEGOTIATED.V 1 0, 8)]
     1 < fns s ∧ featOn s 1 3 = true ∧ 0 ∉ s.lane.resetting ∧ featOn State.reset 1 3 = false) ∧
    (∀ n ∈ [0, 1], let s := w [(TIME_CAP_CTRL.ENABLE 1, 1), (TIME_CAP_CTRL.NEW 1, n)]
      2 ≤ mode s ∧ rd State.reset (TIME_CAP_CTRL.ENABLE 1) = 0 ∧ rd s (TIME_CAP_CTRL.ENABLE 1) = 1 ∧ rd s (TIME_CAP_CTRL.NEW 1) = n) ∧
    (nextMsg (msgS 0x0E (timeBody 0) (phased 15)) (msg 0x0E (timeBody 0)) 0x0E ∧ mode (phased 15) ≠ 5 ∧
      phaseError (phased 15) (timeBody 0) = some 0 ∧ 16 ≤ (phased 15).time.good + 1) ∧
    (nextMsg (msgS 0x0E (timeBody 51) (phased 0)) (msg 0x0E (timeBody 51)) 0x0E ∧ phaseError (phased 0) (timeBody 51) = some (-51 * 65536) ∧
      phaseError State.reset (timeBody 0) = none ∧
      (∀ b ∈ [0, 1], let s := tm (fun t => { t with back := b }) (wr (phased 0) MODE_STATUS.MODE 5)
        mode s = 5 ∧ phaseError s (timeBody 0) = some 0 ∧ s.time.back + 1 = b + 1)) ∧
    (let s := w [(MODE_STATUS.MODE, 4), (TIME_STATUS.VALID, 1)]
     mode s = 4 ∧ s.time.info = none ∧ rd s TIME_STATUS.VALID = 1 ∧ (tm (fun t => { t with info := some (-64 * 65536) }) s).time.info = some (-64 * 65536) ∧
       (tm (fun t => { t with missed := 8 }) s).time.missed = 8 ∧ (tm (fun t => { t with missed := 7 }) s).time.missed < 8 ∧
       (let e : Int := 65 * 65536
        64 * 65536 < e.natAbs ∧ e.natAbs ≤ rd s TIME_JUMP.THRESH * 65536 ∧ e.natAbs < 2 ^ 47 ∧ rd (w [(MODE_STATUS.MODE, 4)]) TIME_STATUS.VALID = 0) ∧
       (let e : Int := 1001 * 65536
        rd s TIME_JUMP.THRESH * 65536 < e.natAbs ∧ 64 * 65536 < e.natAbs ∧ e.natAbs < 2 ^ 47 ∧ rd s TIME_ADJ.FORCE = 0) ∧
       rd s TIME_STATUS.REFUSED_RUN < 4 ∧ 4 ≤ rd (w [(TIME_STATUS.REFUSED_RUN, 4)]) TIME_STATUS.REFUSED_RUN) ∧
    (let s := w [(MODE_STATUS.MODE, 5), (TIME_HOLD.LIMIT, 2)]
     mode s = 5 ∧ rd s TIME_HOLD.ELAPSED + 1 < max 1 (rd s TIME_HOLD.LIMIT) ∧
       (let t := w [(MODE_STATUS.MODE, 5), (TIME_HOLD.LIMIT, 2), (TIME_HOLD.ELAPSED, 1)]
        mode t = 5 ∧ rd t TIME_HOLD.ELAPSED < 0xFFFF ∧ max 1 (rd t TIME_HOLD.LIMIT) ≤ rd t TIME_HOLD.ELAPSED + 1)) := by
  refine ⟨?_, ?_, ?_, ?_, ?_, ?_, ?_, ?_, ?_, ?_, ⟨waits _ _ _, ?_⟩, ⟨waits _ _ _, ?_⟩, ?_, ?_⟩ <;> decide +kernel

/-- A step of 2^-16 ns times 100 moves OFFSET by it while T is invalid. -/
theorem test_time_step : ends (exec (.timeStep 0x80000000) (w [(TIME_STEP_LO.STEP_LO, 100)]))
    (fun t => t.time.ofs == 100 && rd t TIME_ADJ.RESULT = 1 && rd t TIME_STATUS.STEPPED = 1) = true := by decide +kernel

/-- A larger step than THRESH is refused while T is valid. -/
theorem test_time_step_refused : ends (exec (.timeStep 0x80000000) (w [(TIME_STATUS.VALID, 1), (TIME_STEP_HI.STEP_HI, 0x8000)]))
    (fun t => t.time.ofs == 0 && rd t TIME_ADJ.RESULT = 2 && rd t TIME_STATUS.STEP_REFUSED = 1) = true := by decide +kernel

/-- A pulse of 100 ns rises at the STOCK edge nearest its target: 3 ns is edge 30 with the rate 0 (R239). -/
theorem test_pps_edge : ends (exec (.timeTriggerFire 0 [])
      (w [(TIME_TRIG_CTRL.ARM 0, 1), (TIME_TRIG_CTRL.ACTION 0, 5), (TIME_TRIG_NS.NS 0, 3), (TIME_PPS_A.ENABLE, 1), (TIME_PPS_A.WIDTH, 0), (MODE_PAD.HOLD, 0)]
        { State.reset with time := { State.reset.time with c := 4 } }))
    (fun t => t.out = [.pps 0 30] && t.time.pulse.find 0 = some 1030) = true := by decide +kernel

/-! ### The Sprinkler -/

/-- A client of port `p` with streams `on`, no expiry before 10 s, and credits `cr`. -/
def cl (p on cr : Nat) : Client :=
  { port := p, tr := 0, two := false, vlan := false, pcp := 0, vid := 0, addr := 1, dmac := 1, cport := 0, cid := 0, annExp := 10,
    syncExp := 10, drespExp := 10, logAnn := 0, logSync := 0, logDresp := 0, on := on, seqSync := 0, seqAnn := 0, drop := 0, credit := cr }

/-- SERVICE with T valid, the Sprinkler on, port 0 UP and enabled with multicast `m`, and client table `l`. -/
def sprS (m : Nat) (l : Table Client) : State :=
  let s := w [(MODE_STATUS.MODE, 4), (TIME_STATUS.VALID, 1), (SPR_CTRL.ENABLE, 1), (SPR_PORT.ENABLE 0, 1), (HL_PORT.STATE 0, 2),
    (SPR_PORT.MCAST_EN 0, m)]
  { s with spr := { s.spr with clients := l } }

/-- A unicast PTP message of type `ty` to port 0 from address 1, with TLVs `tl`. -/
def ptpHead : PtpHead := { tr := 0, tag := none, off := 14, src := 1, smac := 1, mcast := false }
def ptp (ty : Byte) (tl : List Byte) : PtpIn :=
  { port := 0, u := 0, head := ptpHead, bytes := ([0, 0, 0, 0, 0, 0, 0, 0, 0, 0, 0, 1, 0x88, 0xF7, ty, 2] : List Byte) ++ beBytes 2 (44 + tl.length) ++
      List.replicate 40 0 ++ tl }
def ptpMc : PtpIn := { ptp 1 [] with head := { ptpHead with mcast := true } }

/-- The state with one Delay_Req or Signaling messages waiting. -/
def reqS (l : Table Client) : State := { sprS 0 l with spr := { (sprS 0 l).spr with inbox := [ptp 1 []] } }
def sigS (tl : List Byte) (l : Table Client := []) : State := { sprS 0 l with spr := { (sprS 0 l).spr with ring := [ptp 0xC tl, ptp 0xC tl] } }
def askTlv : List Byte := [0, 4, 0, 6, 0xB0, 0xFC, 0, 0, 1, 0]
def askOther : List Byte := [0, 4, 0, 6, 0xA0, 0, 0, 0, 1, 0]
def stopTlv : List Byte := [0, 6, 0, 2, 0xB0, 0]
def stopOther : List Byte := [0, 6, 0, 2, 0xA0, 0]
def ackTlvB : List Byte := [0, 7, 0, 2, 0xB0, 0]

/-- A port whose multicast load fills its row's budget. -/
def fullRow (l : Table Client) : State := { w [(SPR_PORT.ENABLE 0, 1), (SPR_PORT.MCAST_EN 0, 1), (SPR_PORT.LOG_ANN 0, 235)] with
  spr := { State.reset.spr with clients := l } }

theorem witness_SprinklerClientsAndMessages :
    (let s := sprS 0 [(131103, cl 0 7 4)]
     s.spr.clients.find ((131103 : Word).toNat % 2 ^ 18) = some (cl 0 7 4) ∧ (131103 : Word).toNat % 2 ^ 18 < 131104 ∧
       131104 ≤ (131104 : Word).toNat % 2 ^ 18 ∧ State.reset.spr.clients.find 0 = none) ∧
    ((sprData State.reset).port < ports State.reset ∧ (sprData State.reset).tr ≠ 3 ∧
      sprFind (sprS 0 [(131103, sprData State.reset)]) (sprData (sprS 0 [(131103, sprData State.reset)])) = some (131103, sprData State.reset) ∧
      (¬∃ e ∈ (sprS 0 [(131103, cl 0 7 4)]).spr.clients, clientKey e.2 = clientKey (sprData State.reset)) ∧
      (sprData (w [(SPR_DATA.V 0, 0xC0000000)])).tr = 3 ∧ ¬(sprData (w [(SPR_DATA.V 0, 255)] (variant 1))).port < ports (variant 1)) ∧
    (clientOk State.reset (sprData State.reset) = true ∧ State.reset.spr.clients = [] ∧ State.reset.spr.gone = [] ∧
      (let s : State := { State.reset with spr := { State.reset.spr with gone := [(0, 131103, { sprData State.reset with credit := 3 })] } }
       s.spr.gone = [(s.time.c, 131103, { sprData State.reset with credit := 3 })] ∧
         clientKey { sprData State.reset with credit := 3 } = clientKey (sprData s) ∧ 131103 < 2 ^ 18) ∧
      rowLoad State.reset ((sprData State.reset).port / 8) + clientLoad State.reset (sprData State.reset) ≤ rowBudget) ∧
    (let s := w [(SPR_DATA.V 12, 0x05000000)]
     (sprData s).port < ports s ∧ (sprData s).tr ≠ 3 ∧ clientOk s (sprData s) = false) ∧
    (let s := fullRow [(131103, sprData State.reset)]
     (∀ l ∈ [[], [(131103, sprData State.reset)]], sprData (fullRow l) = sprData State.reset ∧ clientOk (fullRow l) (sprData State.reset) = true ∧
        (sprData State.reset).port < ports (fullRow l) ∧ rowBudget < rowLoad (fullRow l) ((sprData State.reset).port / 8)) ∧
       sprFind s (sprData s) = some (131103, sprData State.reset) ∧ clientLoad s (sprData State.reset) = 0) ∧
    (255 < ports State.reset ∧ toSigned 8 ((0x00050000 : Word).toNat / 2 ^ 16 % 256) = 5 ∧ toSigned 8 ((0x0000F800 : Word).toNat / 2 ^ 8 % 256) = -8 ∧
      toSigned 8 ((0x40FDF900 : Word).toNat / 2 ^ 16 % 256) = -3 ∧ toSigned 8 ((0x40FDF900 : Word).toNat / 2 ^ 8 % 256) = -7 ∧
      (0x40FDF900 : Word).toNat < 2 ^ 31 ∧ ∀ k, k < 8 → rd State.reset (SPR_PORT.ENABLE (8 * (255 / 8) + k)) = 0) ∧
    (∀ l ∈ [[], [(5, cl 0 1 0)], [(5, cl 0 1 1)]], (reqS l).spr.inbox = [ptp 1 []] ∧
      inService (reqS l) = true ∧ rd (reqS l) SPR_CTRL.ENABLE = 1 ∧ rd (reqS l) (SPR_PORT.ENABLE 0) = 1 ∧ portUpNow (reqS l) 0 = true ∧
      rd (reqS l) TIME_STATUS.VALID = 1 ∧ (ptp 1 []).head.mcast = false) ∧
    (servesReq (reqS []) 0 ptpHead (ptp 1 []).bytes = none ∧
      (∀ c ∈ [0, 1], servesReq (reqS [(5, cl 0 1 c)]) 0 ptpHead (ptp 1 []).bytes = some (5, cl 0 1 c)) ∧ ptpMc.head.mcast = true ∧
      sprMatch (reqS []) 0 (ptp 1 []).bytes = some ptpHead) := by
  refine ⟨?_, ?_, ?_, ?_, ?_, ?_, ?_, ?_⟩ <;> decide +kernel

theorem witness_SprinklerClientsAndMessages_streams :
    (rd (sprS 1 []) (SPR_PORT.MCAST_EN 0) = 1 ∧ rd (sprS 0 []) (SPR_PORT.MCAST_EN 0) = 0 ∧ rd (sprS 1 []) (SPR_PORT.ENABLE 1) ≠ 1 ∧
      rd (wr (sprS 0 [(5, cl 0 6 0)]) (SPR_PORT.ENABLE 0) 0) (SPR_PORT.ENABLE 0) ≠ 1 ∧ streamGoes State.reset (cl 0 7 4) 1 = true ∧ rd (wr (sprS 1 []) TIME_STATUS.VALID 0) TIME_STATUS.VALID = 0 ∧
      inService State.reset = false ∧ rd (w [(SPR_CTRL.ENABLE, 0)]) SPR_CTRL.ENABLE = 0) ∧
    (let s := sprS 0 [(5, cl 0 6 0)]
     s.spr.clients.find 5 = some (cl 0 6 0) ∧ s.spr.clients.find 6 = none ∧ streamLive s (cl 0 6 0) 2 = true ∧ streamLive s (cl 0 6 0) 1 = true ∧
       streamLive s (cl 0 6 0) 0 = false ∧ (∀ i ∈ [0, 1, 2], streamLive s (cl 0 0 0) i = false)) ∧
    ({ sprS 1 [] with spr := { State.reset.spr with follow := [(0, [])] } } : State).spr.follow = [(0, [])] ∧
    (∀ tl ∈ [askTlv, askOther, stopTlv, stopOther, ackTlvB], sigTlvs (ptp 0xC tl) = tl ∧ (nextTlv tl.length tl 0).isSome = true ∧
      nextTlv tl.length tl tl.length = none) ∧
    (sigTlvs (ptp 0xC (stopTlv ++ ackTlvB)) = stopTlv ++ ackTlvB ∧ nextTlv 12 (stopTlv ++ ackTlvB) 0 = some (6, [0xB0, 0], 6) ∧
      nextTlv 12 (stopTlv ++ ackTlvB) 6 = some (7, [0xB0, 0], 12)) ∧
    (nextTlv 10 askTlv 0 = some (4, [0xB0, 0xFC, 0, 0, 1, 0], 10) ∧ streamOf (0xB0 / 16) = some (2, -3) ∧ toSigned 8 0xFC = -4 ∧
      (sigS askTlv).spr.sigOff = 0 ∧ ∀ p, p < ports (sigS askTlv) → rd (sigS askTlv) (SPR_PORT.MCAST_EN p) = 0) ∧
    (ptpHead.tr < 3 ∧ ptpHead.src < 2 ^ 128 ∧ ∀ e ∈ ptpHead.tag, e.1 < 8 ∧ e.2 < 4096) ∧
    (nextTlv 10 askOther 0 = some (4, [0xA0, 0, 0, 0, 1, 0], 10) ∧ streamOf (0xA0 / 16) = none ∧
      nextTlv 6 stopTlv 0 = some (6, [0xB0, 0], 6) ∧ nextTlv 6 stopOther 0 = some (6, [0xA0, 0], 6) ∧ nextTlv 6 ackTlvB 0 = some (7, [0xB0, 0], 6)) ∧
    (let x : Client := { requester (sigS stopTlv) (ptp 0xC stopTlv) ptpHead with on := 2 ^ 2 }
     let s := sigS stopTlv [(5, x)]
     s.spr.clients = [(5, { requester s (ptp 0xC stopTlv) ptpHead with on := 2 ^ 2 })]) := by
  refine ⟨?_, ?_, rfl, ?_, ?_, ?_, ?_, ?_, rfl⟩ <;> decide +kernel

/-- A unicast Delay_Req spends its client's credit and is answered. -/
theorem test_delay_request : ends (exec .delayReq (reqS [(5, cl 0 1 1)]))
    (fun t => (t.spr.clients.find 5).map (·.credit) = some 0 && (dnQueue t 0 7).length == 1) = true := by decide +kernel

/-- The Announce to a client takes its sequence number. -/
theorem test_announce_client : ends (exec (.announceSend false 5) (sprS 0 [(5, cl 0 4 0)]))
    (fun t => (t.spr.clients.find 5).map (·.seqAnn) = some 1 && (dnQueue t 0 7).length == 1) = true := by decide +kernel

/-! ### Buffers, meters, ports and gates -/

/-- The scheduler changed. -/
def sc (f : SchedSt → SchedSt) (s : State := State.reset) : State := { s with sched := f s.sched }

/-- Slot 0 held by bed 0, port 0 UP, and limits that leave room, with fields `l`. -/
def schS (l : List (Fld × Nat) := []) : State :=
  w ([(ALLOC_LO.VALID 0, 1), (ALLOC_LO.OWNER 0, 0), (HL_PORT.STATE 0, 2), (SCHED_UP_PORT_WM.HIGH_CAP 0, 100), (SCHED_DN_Q.QMAX 0 0, 10),
    (SCHED_DN_PORT_CFG.PORT_MAX 0, 100), (SCHED_CTRL.LEDGER_EN, 0)] ++ l)
def upF (m : Bool) : UpIn := { port := 0, slot := 0, q := 0, meterEn := m, meter := 4095, bytes := List.replicate 60 0, ver := 0 }
def dnF : DnIn := { port := 0, q := 0, tag := (0, 0, 0), bytes := List.replicate 60 0, ver := 0 }

theorem witness_BuffersMetersAndPause :
    (let s := sc (fun x => { x with upIn := [upF false] }) (schS)
     s.sched.upIn = [upF false] ∧ (0 < ports s) ∧ rd s (SCHED_UP_PORT_USE.USED 0) + 1 ≤ highEff s 0 + rd s (SCHED_UP_PORT_HEAD.HEADROOM 0) ∧
       rd s SCHED_UP_USE.USED + 1 ≤ upCells s ∧ rd s (ALLOC_LO.VALID 0) = 1 ∧ rd s (ALLOC_LO.OWNER 0) = 0 / 32 ∧
       (2 + (upF false).bytes.length + 127) / 128 = 1) ∧
    (let s := schS [(SCHED_UP_PORT_HEAD.HEADROOM 0, 0), (SCHED_UP_PORT_WM.HIGH_CAP 0, 0)]
     ¬rd s (SCHED_UP_PORT_USE.USED 0) + 1 ≤ highEff s 0 + rd s (SCHED_UP_PORT_HEAD.HEADROOM 0)) ∧
    (let s := schS [(SCHED_UP_USE.USED, 786432)]
     ¬rd s SCHED_UP_USE.USED + 1 ≤ upCells s ∧ rd s (SCHED_UP_PORT_USE.USED 0) + 1 ≤ highEff s 0 + rd s (SCHED_UP_PORT_HEAD.HEADROOM 0)) ∧
    (let s := schS [(METER_CFG.POL_EN 4095, 1)]
     flag s (METER_CFG.POL_EN 4095) = true ∧ ¬(((60 + 24) * 2 ^ 24 : Nat) : Int) ≤ (meterFresh s 4095).pol) ∧
    (let s := sc (fun x => { x with meters := [(4095, { pol := 2 ^ 31, shp := -1, last := 0 })] })
        (schS [(METER_CFG.POL_EN 4095, 1), (METER_CFG.SHP_EN 4095, 1), (METER_SHP_RATE.RATE 4095, 1)])
     (((60 + 24) * 2 ^ 24 : Nat) : Int) ≤ (meterFresh s 4095).pol ∧ flag s (METER_CFG.SHP_EN 4095) = true ∧
       rd s (METER_SHP_RATE.RATE 4095) ≠ 0 ∧ (meterFresh s 4095).shp < 0) ∧
    (flag schS (METER_CFG.POL_EN 4095) = false ∧ rd (wr schS (ALLOC_LO.VALID 0) 0) (ALLOC_LO.VALID 0) ≠ 1 ∧
      rd (wr schS (ALLOC_LO.OWNER 0) 7) (ALLOC_LO.OWNER 0) ≠ 0 / 32 ∧ schS.sched.upIn = [] ∧ schS.sched.dnIn = []) ∧
    (∀ m ∈ [1, 2], let s := schS [(SCHED_UP_PORT_USE.ASSERTED 0, 1), (SCHED_UP_PORT_CFG.FC_MODE 0, m)]
      portUpNow s 0 = true ∧ rd s (SCHED_UP_PORT_USE.ASSERTED 0) = 1 ∧ rd s (SCHED_UP_PORT_CFG.FC_MODE 0) = m ∧
        (0x3FFFFFFF : Word).toNat / 2 ^ 30 = 0 ∧ rd (w [(SCHED_UP_PORT_CFG.FC_MODE 0, 0)]) (SCHED_UP_PORT_CFG.FC_MODE 0) = 0) ∧
    (portUpNow State.reset 0 = false ∧ rd State.reset (SCHED_UP_PORT_USE.ASSERTED 0) = 0 ∧ rd (w [(PWR_THERM.STATE, 2)]) PWR_THERM.STATE = 2 ∧
      (let s := schS [(SCHED_LEDGER.MULT 0, 3), (SCHED_UP_PORT_USE.USED 0, 1)]
       ((List.range (beds s)).map fun b => max 1 (rd s (SCHED_LEDGER.MULT b)) *
         ((List.range 4).filter fun r => (List.range 8).any fun i => portActive s (8 * (4 * b + r) + i)).length).sum ≠ 0)) ∧
    (let s := sc (fun x => { x with dnIn := [dnF] }) (schS)
     s.sched.dnIn = [dnF] ∧ portUpNow s 0 = true ∧ queueCells (dnQueue s 0 0) + 1 ≤ rd s (SCHED_DN_Q.QMAX 0 0) * 8 ∧
       rd s (SCHED_DN_PORT_STAT.USED 0) + 1 ≤ rd s (SCHED_DN_PORT_CFG.PORT_MAX 0) ∧ rd s SCHED_DN_USE.USED + 1 ≤ dnCells s) ∧
    (∀ st ∈ [0, 1, 3], rd (schS [(HL_PORT.STATE 0, st)]) (HL_PORT.STATE 0) = st) ∧
    ¬queueCells (dnQueue (schS [(SCHED_DN_Q.QMAX 0 0, 0)]) 0 0) + 1 ≤ rd (schS [(SCHED_DN_Q.QMAX 0 0, 0)]) (SCHED_DN_Q.QMAX 0 0) * 8 ∧
    (let s := sc (fun x => { x with timer := [(16 * 0 + 7, 5)] }) (schS [(SCHED_DN_PORT_STAT.PAUSED 0, 255)])
     s.sched.timer.get (16 * 0 + 7) 0 ≠ 0 ∧ rd s (SCHED_DN_PORT_STAT.PAUSED 0) < 256) ∧
    (sc (fun x => { x with timer := [(16 * 255 + 8, 5)] })).sched.timer.get (16 * 255 + 8) 0 ≠ 0 := by
  refine ⟨?_, ?_, ?_, ?_, ?_, ?_, ?_, ?_, ?_, ?_, ?_, ?_, ?_⟩ <;> decide +kernel

/-- A frame of one cell in a downstream queue. -/
def anF : DnFrame := { bytes := [], cells := 1, spr := none, tag := (0, 0, 0) }

theorem witness_PortsAndGates :
    (portUpNow schS 0 = true ∧ 0 / 8 < rows schS ∧ schS.sched.busy.find 0 = none ∧ rd schS (HL_PORT.TX_DOZING 0) = 0 ∧
      rd schS (SCHED_GATE_CTRL.GATE_EN (0 / 8)) = 0 ∧ schS.sched.gen.get 0 [] = [] ∧ schS.sched.trib = [] ∧ ∀ q, q < 8 → dnQueue schS 0 q = []) ∧
    (sc (fun x => { x with gen := [(0, [[1]])] }) schS).sched.gen.get 0 [] = [[1]] ∧
    ((sc (fun x => { x with trib := [(3, 0, [1])] }) schS).sched.trib.find? (fun e => e.2.1 = 0) = some (3, 0, [1]) ∧
      qPaused schS 0 (rd schS (SCHED_DN_PORT_CFG.TRIB_PRIO 0)) = false) ∧
    (∀ sp ∈ [0, 1],
     let s := sc (fun x => { x with q := [(6, [anF]), (7, [anF])] }) (schS [(SCHED_DN_Q.SP 0 6, 0), (SCHED_DN_Q.SP 0 7, sp)])
     s.sched.gen.get 0 [] = [] ∧ (∀ e ∈ s.sched.trib, e.2.1 ≠ 0) ∧ dnQueue s 0 7 = anF :: [] ∧ qPaused s 0 7 = false ∧ anF.spr = none ∧
       (sp = 1 → rd s (SCHED_DN_Q.SP 0 7) = 1 ∧ ∀ j, j < 8 → 7 < j → dnQueue s 0 j = []) ∧
       (sp = 0 → rd s (SCHED_DN_Q.SP 0 7) ≠ 1 ∧ (∀ j, j < 8 → dnQueue s 0 j ≠ [] → rd s (SCHED_DN_Q.SP 0 j) ≠ 1) ∧
         dnQueue s 0 6 ≠ [] ∧ (s.sched.arb.get 0 {}).tags.get 7 0 = (s.sched.arb.get 0 {}).tags.get 6 0)) ∧
    ((sc (fun x => { x with busy := [(0, 1, 5)] }) schS).sched.busy.find 0 = some (1, 5) ∧
      rd (schS [(HL_PORT.TX_DOZING 0, 1)]) (HL_PORT.TX_DOZING 0) = 1) ∧
    (∀ iv ∈ [1, 1000],
      let s := sc (fun x => { x with q := [(7, [anF])], gopen := [(0, 0x7F)] }) (schS [(SCHED_GATE_CTRL.GATE_EN 0, 1), (SCHED_GATE_CFG.LEN 0 0, 2), (SCHED_GCL.GATES 0 0 0, 0x80), (SCHED_GCL.INTERVAL 0 0 0, iv),
          (SCHED_GCL.GATES 0 0 1, 0x7F), (SCHED_GCL.INTERVAL 0 0 1, 1)])
      rd s (SCHED_GATE_CTRL.GATE_EN (0 / 8)) = 1 ∧ portUpNow s 0 = true ∧ neverCloses s (0 / 8) 7 = false ∧ dnQueue s 0 7 = [anF] ∧
       (let segs := gateSegs s (0 / 8) (rd s (SCHED_GATE_CTRL.OPER (0 / 8)))
        (iv = 1000 → txTime s 0 anF.sent.length ≤ longestRun 7 (segs ++ segs) ∧ bitAt (gatesOf s (0 / 8)) 7 = false) ∧
        (iv = 1 → longestRun 7 (segs ++ segs) < txTime s 0 anF.sent.length))) ∧
    (portUpNow State.reset 0 = false ∧ State.reset.sched.busy.find 0 = none) ∧
    (rd (w [(SCHED_GATE_CTRL.GATE_EN 31, 1)]) (SCHED_GATE_CTRL.GATE_EN 31) = 1 ∧ 31 < rows State.reset) ∧
    (∀ ct ∈ [0, 1], let s := sc (fun x => { x with gct := [(31, ct + 1)] }) (w [(SCHED_GATE_CTRL.PENDING 31, 1)])
      s.sched.gct.find 31 = some (ct + 1) ∧ rd s (SCHED_GATE_CTRL.PENDING 31) = 1 ∧ (ct = 0 → ct ≤ now s) ∧ (ct = 1 → now s < ct)) ∧
    (rd State.reset (SCHED_GATE_CTRL.OPER 31) = 0 ∧ rd (w [(SCHED_GATE_CTRL.OPER 31, 1)]) (SCHED_GATE_CTRL.OPER 31) = 1 ∧ State.reset.sched.gct.find 31 = none) := by
  refine ⟨?_, ?_, ?_, ?_, ?_, ?_, ?_, ?_, ?_, ?_⟩ <;> decide +kernel

/-- A write of the list in operation is refused. -/
theorem test_gate_refused : ends (exec (.gateListWrite 31 0 4 0xFF000000) State.reset)
    (fun t => rd t (SCHED_GATE_CTRL.WR_REFUSED 31) = 1 && rd t (SCHED_GCL.GATES 31 0 0) = rd State.reset (SCHED_GCL.GATES 31 0 0)) = true := by
  decide +kernel

/-- A frame in queue 7 leaves at the boundary with its FCS. -/
theorem test_frame_leaves : ends (exec (.portFrameBoundary 0) (sc (fun x => { x with q := [(7, [anF])] }) schS))
    (fun t => match t.out with | [.frame 0 l] => l.length == 72 | _ => false) = true := by decide +kernel

/-! ### The Sieve -/

/-- The Sieve changed. -/
def sv (f : SieveSt → SieveSt) (s : State := State.reset) : State := { s with sieve := f s.sieve }
def svF (up : Bool) (l : List Byte) : SvIn := { up := up, port := 0, bed := 0, tile := 0, bytes := l }
def zeros : List Byte := List.replicate 60 0
def big : List Byte := List.replicate 9596 0
/-- The key of a frame of zeros, and its entry with TAG_OP `op`. -/
def key0 (up : Bool) : Nat := svKey 0 up 0 (rdAct State.reset (SIEVE_BED_DN_CFG.PVID 0) * 2 ^ 48)
def ent (up : Bool) (op : Nat) : SvEntry := { key := key0 up, w5 := op * 2 ^ 19, w6 := 0, addPending := false, addRetired := true }
def held (up : Bool) (op : Nat) : State := sv fun x => { x with tbl := [(8 * bucket1 (key0 up), ent up op)] }

theorem big_parse : parseEth big = some (none, 0, 14) := by
  have n : big.length = 9596 := List.length_replicate
  have t : beAt big 12 2 = 0 := by decide +kernel
  simp [parseEth, n, t, isTpid]

theorem big_key : keyData (held false 2) 0 false 0 big = some (rdAct State.reset (SIEVE_BED_DN_CFG.PVID 0) * 2 ^ 48) := by
  have a : beAt big 0 6 = 0 := by decide +kernel
  simp only [keyData, big_parse, a]
  decide +kernel

theorem big_too_long : tagTooLong 2 big 0 0 = true := by
  have n : big.length = 9596 := List.length_replicate
  have t : (tagBytes 0 0).length = 4 := by decide +kernel
  simp [tagTooLong, tagApply, n, t]

/-- A record of operation `op` on bed 0's key type `kt`. -/
def rec (op kt : Nat) : SvRec := { words := [kt * 2 ^ 29, 0, 0, 0, 5, 0, 0, op * 2 ^ 29] }
def recS (l : Table SvEntry) (f : List (Fld × Nat) := []) : State := sv (fun x => { x with tbl := l }) (w f)
def own (e : SvEntry) : SvEntry := { e with key := (rec 1 0).key }
def at_ (e : SvEntry) : Table SvEntry := [(8 * bucket1 (rec 1 0).key, own e)]
/-- Every place of the record's key and the whole stash taken, by entries that are going. -/
def fullTbl : Table SvEntry := (svPlaces (rec 1 0).key).map fun i => (i, { own (ent false 0) with removed := true })

/-- Every frame of bed 0 that does not match or parse is forwarded. -/
def dflt (up : Bool) : State := sv fun x => { x with
  active := [((if up then SIEVE_BED_UP_CFG.PARSEFAIL 0 else SIEVE_BED_DN_CFG.PARSEFAIL 0).key, 1),
             ((if up then SIEVE_BED_UP_CFG.NOMATCH 0 else SIEVE_BED_DN_CFG.NOMATCH 0).key, 1)] }

/-- A table with `e` at `n` places from `lo` on. -/
def huge (e : SvEntry) (lo : Nat) : Nat → Table SvEntry
  | 0 => []
  | n + 1 => (lo, e) :: huge e (lo + 1) n

theorem huge_length (e : SvEntry) (lo n : Nat) : (huge e lo n).length = n := by
  induction n generalizing lo with
  | zero => rfl
  | succ n ih => simp [huge, ih]

theorem huge_find (e : SvEntry) (lo n i : Nat) (h : lo ≤ i) (k : i < lo + n) : Table.find (huge e lo n) i = some e := by
  induction n generalizing lo with
  | zero => omega
  | succ n ih =>
    by_cases q : i = lo
    · simp [huge, Table.find, q]
    · simp [huge, Table.find, q, ih (lo + 1) (by omega) (by omega)]

theorem huge_is (e x : SvEntry) (lo n i : Nat) (h : Table.find (huge e lo n) i = some x) : x = e := by
  induction n generalizing lo with
  | zero => simp [huge, Table.find] at h
  | succ n ih =>
    by_cases q : i = lo
    · simp [huge, Table.find, q] at h; exact h.symm
    · exact ih (lo + 1) (by simpa [huge, Table.find, q] using h)

theorem pending_none (s : State) (k : Nat) (h : ∀ i x, Table.find s.sieve.tbl i = some x → x.removed = true) : svPending s k = none := by
  unfold svPending svFind
  rw [List.findSome?_eq_none_iff]
  intro i _
  cases q : Table.find s.sieve.tbl i with
  | none => rfl
  | some x => simp [h i x q]

theorem pending_first (s : State) (i k : Nat) (e : SvEntry) (r : List Nat) (p : svPlaces k = i :: r) (f : Table.find s.sieve.tbl i = some e)
    (m : e.key = k) (n : e.removed = false) : svPending s k = some (i, e) := by
  simp [svPending, svFind, p, f, m, n]

/-- 131,072 places in use: by entries that are going, and with the record's key at the first of its places. -/
theorem witness_sieve_full :
    (let s := recS (huge (own { ent false 0 with removed := true }) 0 131072)
     131072 ≤ s.sieve.tbl.length ∧ svPending s (rec 1 0).key = none) ∧
    (let s := recS (huge (own (ent false 0)) 0 131072)
     131072 ≤ s.sieve.tbl.length ∧ svPending s (rec 1 0).key = some (8 * bucket1 (rec 1 0).key, own (ent false 0)) ∧
       (own (ent false 0)).addPending = false) := by
  have b : bucket1 (rec 1 0).key < 16384 := by decide +kernel
  have p : svPlaces (rec 1 0).key = (8 * bucket1 (rec 1 0).key) :: (svPlaces (rec 1 0).key).tail := by decide +kernel
  exact ⟨⟨by simp [recS, sv, huge_length], pending_none _ _ fun i x h => by rw [huge_is _ _ _ _ _ h]; rfl⟩,
    by simp [recS, sv, huge_length], pending_first _ _ _ _ _ p (huge_find _ _ _ _ (by omega) (by omega)) rfl rfl, rfl⟩

theorem witness_SieveTablesAndCommits :
    ((Src.trowel 11 = .trowel 11 ∧ 2 = 2) ∧ (Src.pf 0 = .pf 0 ∧ 1 = 1) ∧ (Src.startup = .startup ∧ 3 = 3)) ∧
    (∀ up : Bool, (sv fun x => { x with frames := [svF up []] }).sieve.frames = [svF up []] ∧
      keyData State.reset 0 up (bedKt State.reset 0 up) [] = none ∧ 0 < beds State.reset ∧
      rdAct State.reset (if up = true then SIEVE_BED_UP_CFG.PARSEFAIL 0 else SIEVE_BED_DN_CFG.PARSEFAIL 0) ≠ 1) ∧
    (∀ up : Bool, ∀ op ∈ [0, 3], let s := held up op
      (sv (fun x => { x with frames := [svF up zeros] }) s).sieve.frames = [svF up zeros] ∧
      keyData s 0 up (bedKt s 0 up) zeros = some (key0 false % 2 ^ 144) ∧ svKey (bedKt s 0 up) up 0 (key0 false % 2 ^ 144) = key0 up ∧
      svFind s (key0 up) (visible 0 0) = some (8 * bucket1 (key0 up), ent up op) ∧ rd s SIEVE_VER.CUR = 0 ∧ (ent up op).w5 / 2 ^ 19 % 4 = op ∧
      tagTooLong op zeros 0 0 = false ∧ svFind State.reset (key0 up) (visible 0 0) = none ∧
      rdAct s (if up = true then SIEVE_BED_UP_CFG.NOMATCH 0 else SIEVE_BED_DN_CFG.NOMATCH 0) ≠ 1) ∧
    (tagTooLong 2 big 0 0 = true ∧ keyData (held false 2) 0 false 0 big = some (rdAct State.reset (SIEVE_BED_DN_CFG.PVID 0) * 2 ^ 48) ∧
      bedKt (held false 2) 0 false = 0 ∧ svFind (held false 2) (key0 false) (visible 0 0) = some (8 * bucket1 (key0 false), ent false 2)) ∧
    (∀ o ∈ [0, 1, 2, 3], rd (w [(SIEVE_LOCK.OWNER, o)]) SIEVE_LOCK.OWNER = o) ∧
    ((∀ up : Bool, ∀ l ∈ [[], zeros], let s := dflt up
        rdAct s (if up = true then SIEVE_BED_UP_CFG.PARSEFAIL 0 else SIEVE_BED_DN_CFG.PARSEFAIL 0) = 1 ∧
        rdAct s (if up = true then SIEVE_BED_UP_CFG.NOMATCH 0 else SIEVE_BED_DN_CFG.NOMATCH 0) = 1 ∧
        (l = [] → keyData s 0 up (bedKt s 0 up) l = none) ∧
        (l = zeros → (keyData s 0 up (bedKt s 0 up) l).isSome = true ∧ svFind s (key0 up) (visible 0 0) = none)) ∧
      rdAct (dflt true) (SIEVE_BED_UP_DEF.ALLOC 0) = 0 ∧ rdAct (dflt true) (SIEVE_BED_UP_DEF.CLASS 0) = 0 ∧
      rdAct (dflt false) (SIEVE_BED_DN_DEF.QUEUE 0) = 0 ∧ rdAct (dflt false) (SIEVE_BED_DN_DEF.GPORT 0) / 32 = 0 ∧
      rdAct (sv fun x => { x with active := [((SIEVE_BED_DN_DEF.GPORT 0).key, 255)] }) (SIEVE_BED_DN_DEF.GPORT 0) / 32 ≠ 0) ∧
    (State.reset.sieve.buf.length < 64 ∧ 64 ≤ (sv fun x => { x with buf := List.replicate 64 (rec 1 0) }).sieve.buf.length) ∧
    (rd State.reset SIEVE_STATUS.REJ_NEXT < 16 ∧ rd State.reset SIEVE_OP_STATUS.STAGED < 4096 ∧
      (sv fun x => { x with buf := [rec 1 0] }).sieve.buf = [rec 1 0] ∧ rd (w [(SIEVE_OP_STATUS.STAGED, 4096)]) SIEVE_OP_STATUS.STAGED = 4096 ∧
      ∀ op ∈ [1, 2, 3, 4], (rec op 0).op = op ∧ 1 ≤ op ∧ op ≤ 4 ∧ recBad State.reset (rec op 6) = true ∧ (rec op 6).op = op ∧ recBad State.reset (rec op 0) = false) ∧
    (∀ e ∈ [ent false 0, { ent false 0 with addPending := true }], svPending (recS (at_ e)) (rec 1 0).key = some (8 * bucket1 (rec 1 0).key, own e)) ∧
    (svPending State.reset (rec 1 0).key = none ∧ svPlace [] (rec 1 0).key = some ([], 8 * bucket1 (rec 1 0).key) ∧
      svPlace ((at_ (ent false 0)).insert (8 * bucket1 (rec 1 0).key) { own (ent false 0) with removed := true, removePending := true }) (rec 1 0).key =
        some ([(8 * bucket1 (rec 1 0).key, { own (ent false 0) with removed := true, removePending := true })], 8 * bucket1 (rec 1 0).key + 1)) ∧
    ((sv fun x => { x with buf := [rec 4 0], commits := [1] }).sieve.commits = [1] ∧ (State.reset.sieve.commits = [])) ∧
    (fullTbl.length < 131072 ∧ svPlace (fullTbl.insert (8 * bucket1 (rec 1 0).key) { own (ent false 0) with removed := true, removePending := true })
        (rec 1 0).key = none ∧ svPending (recS (fullTbl.insert (8 * bucket1 (rec 1 0).key) (own (ent false 0)))) (rec 1 0).key =
        some (8 * bucket1 (rec 1 0).key, own (ent false 0)) ∧ svPending (recS fullTbl) (rec 1 0).key = none ∧ svPlace fullTbl (rec 1 0).key = none) ∧
    (bitAt (rd State.reset SIEVE_VER.RETIRED) 1 = true ∧ bitAt (rd (w [(SIEVE_VER.RETIRED, 1)]) SIEVE_VER.RETIRED) 1 = false ∧
      ((sv fun x => { x with active := [((SIEVE_BED_DN_CFG.KT 0).key, 1)] }).sieve.active.map (·.1)).Nodup ∧
      svStaged (SIEVE_BED_DN_CFG.KT 0).addr = true ∧
      (∀ e ∈ (sv fun x => { x with active := [((SIEVE_BED_DN_CFG.KT 0).key, 1)] }).sieve.active, svStaged (e.1 / 32 * 4) = true)) ∧
    (let s := w [(SIEVE_VER.RETIRED, 0x7FFF)]
     rd s SIEVE_VER.RETIRED < 2 ^ 16 ∧ 15 ≠ rd s SIEVE_VER.CUR ∧ bitAt (rd s SIEVE_VER.RETIRED) 15 = false ∧ s.sched.upIn = [] ∧
       s.sched.dnIn = [] ∧ 0 = rd s SIEVE_VER.CUR ∧ bitAt (rd State.reset SIEVE_VER.RETIRED) 15 = true) := by
  refine ⟨?_, ?_, ?_, ⟨big_too_long, big_key, ?_, ?_⟩, ?_, ?_, ?_, ?_, ?_, ?_, ?_, ?_, ?_, ?_⟩ <;> decide +kernel

/-- A frame that matches goes to its entry's port and queue. -/
theorem test_sieve_match : ends (exec .sieveClassify { held false 0 with sieve := { (held false 0).sieve with frames := [svF false zeros] } })
    (fun t => t.sched.dnIn == [{ port := 0, q := 0, tag := (0, 0, 0), bytes := zeros, ver := 0 }] && t.sieve.frames == []) = true := by
  decide +kernel

/-- An insert of a new key takes the first way of its first bucket. -/
theorem test_sieve_insert : ends (exec .sieveInsert (sv fun x => { x with buf := [rec 1 0] }))
    (fun t => rd t SIEVE_OP_RES.RESULT = 1 && t.sieve.tbl.map (·.1) == [8 * bucket1 (rec 1 0).key] && rd t SIEVE_OP_STATUS.STAGED = 1) = true := by
  decide +kernel

/-! ### The cipher engines -/

/-- The cipher state changed. -/
def cs (f : CipherSt → CipherSt) (s : State := State.reset) : State := { s with cipher := f s.cipher }
/-- A downstream pod of key slot 0 on channel 0, and an upstream pod of it. -/
def dnPod (b : List Byte) (e : Bool) : DnPod := { k := 0, hdr := List.replicate 10 0, body := b, ext := 0, extOk := e }
def upPod : UpPod := { ty := 1, key := 0, index := 0, body := [1, 2, 3], frames := 1, done := false }
def ck : List Byte := List.replicate 32 7
def cpt : List Byte := beBytes 2 60 ++ List.replicate 60 1
def cct : List Byte := gcmEnc ck (ivOf 0 false 0 0 0) (List.replicate 8 0) cpt
/-- Slot 0 with use `u`, state `st` and count `n`, `r` reserved by row 0's downstream engine, and pods waiting. -/
def keyed (u st n r : Nat) (l : List DnPod) (f : List (Fld × Nat) := []) : State :=
  cs (fun x => { x with slots := [(0, { st := st, use := u, key := ck, count := n })], resv := [(0, r)], input := [(0, l)] })
    (w ((SIEVE_SLOTBED.BEDS 0, 0) :: f))

theorem witness_CipherPods :
    (∀ b ∈ [[], List.replicate 16 0], ∀ e : Bool, (keyed 2 1 0 0 [dnPod b e]).cipher.input.get 0 [] = [dnPod b e]) ∧
    ((dnPod [] true).body.length < 16 ∧ 16 ≤ (dnPod (List.replicate 16 0) false).body.length ∧
      (cs fun x => { x with fenced := [31] }).cipher.fenced.contains 31 = true ∧ (slotAt State.reset 0).decOk false = false ∧
      State.reset.cipher.input.get 31 [] = []) ∧
    (let s := keyed 2 1 (2 ^ 48) 0 [dnPod (List.replicate 16 0) true]
     s.cipher.fenced.contains 0 = false ∧ (slotAt s 0).decOk false = true ∧ s.cipher.resv.get (0 * 256 + 0) 0 = 0 ∧
       invLimit s ≤ (slotAt s 0).count ∧ (slotAt s 0).st = 1 ∧ beNat (dnPod [] true).hdr / 2 ^ 50 % 2 ^ 14 = 0) ∧
    (let s := keyed 0 1 0 1 [dnPod (List.replicate 16 0) true]
     0 < s.cipher.resv.get (0 * 256 + 0) 0 ∧ (slotAt s 0).decOk false = true ∧
       gcmDec ck (ivOf 0 false 0 0 0) ((List.replicate 10 0).take 8) (List.replicate 16 0) = none) ∧
    (let s := cs fun x => { x with slots := [(0, { st := 2, use := 2, key := ck, cause := 2 })], resv := [(0, 1)] }
     let x := slotAt s 0
     x.decOk false = false ∧ (x.use = 0 ∨ x.use = 2) ∧ x.st = 2 ∧ x.cause = 2 ∧ 0 < s.cipher.resv.get (0 * 256 + 0) 0) := by decide +kernel

theorem witness_CipherGoodPod :
    let s := keyed 2 1 0 0 [dnPod cct true]
    s.cipher.fenced.contains 0 = false ∧ (slotAt s 0).decOk false = true ∧
      gcmDec (slotAt s 0).key (ivOf 0 false 0 0 0) ((List.replicate 10 0).take 8) cct = some cpt ∧ tileGone s 0 = false ∧
      slotBed s 0 < beds s ∧ beds (wr s (SIEVE_SLOTBED.BEDS 0) 15) ≤ slotBed (wr s (SIEVE_SLOTBED.BEDS 0) 15) 0 ∧
      tileGone { s with rake := { s.rake with unserved :=
        [{ unit := { cls := .parser, idx := 0 }, serves := 0, ev := { kind := 7, scope := .row 0, arg := 0 } }] } } 0 = true ∧ tileBytes s 0 + cpt.length ≤ 65536 ∧ (slotAt s 0).count < invLimit s ∧ 16 ≤ cct.length := by decide +kernel

theorem witness_CipherSlotsAndPods :
    (let b : Burst := { bu (gr 0) with pods := [upPod] }
     (∀ s ∈ [State.reset, keyed 2 1 0 0 [] [(FRM_STATUS.EXT_VALID 0, 1)]],
       ({ s with burst := { s.burst with bursts := [b] } } : State).burst.bursts = b :: [] ∧ b.grant.ch = 0 ∧ b.grant.cnt < 64 ∧ upPod.ty ≠ 0 ∧ b.pods = [upPod] ∧ upPod.done = false) ∧
     (∀ e ∈ State.reset.burst.bursts, e.grant.ch ≠ 0 ∨ ∀ p ∈ e.pods, p.done = true) ∧
     (let s := keyed 2 1 (2 ^ 48) 0 [] [(FRM_STATUS.EXT_VALID 0, 1)]
      (grantExt s b.grant).isSome = true ∧ (slotAt s upPod.key).encOk = true ∧ invLimit s ≤ (slotAt s 0).count ∧
        s.cipher.resv.get (upPod.key * 256 + (32 + b.grant.cnt / 2)) 0 = 0) ∧
     (let s := cs fun x => { x with slots := [(0, { st := 2, use := 1, key := ck, cause := 2 })], resv := [(32, 1)] }
      let x := slotAt s upPod.key
      (x.use = 1 ∨ x.use = 2) ∧ x.st = 2 ∧ x.cause = 2 ∧ 0 < s.cipher.resv.get (upPod.key * 256 + (32 + b.grant.cnt / 2)) 0) ∧
     grantExt State.reset b.grant = none ∧ (slotAt State.reset 0).encOk = false ∧
     (let s := keyed 2 1 0 0 [] [(FRM_STATUS.EXT_VALID 0, 1)]
      (grantExt s b.grant).isSome = true ∧ (slotAt s upPod.key).encOk = true ∧ upGone s b.grant.cnt = false ∧ (slotAt s 0).count < invLimit s)) ∧
    (rd (w [(CIPHER_LOAD_CTRL.GO, 1)]) CIPHER_LOAD_CTRL.GO = 1 ∧ rd State.reset CIPHER_LOAD_CTRL.GO = 0 ∧ bitAt (0x80020005 : Word).toNat 31 = true ∧
      State.reset.cipher.loads = [] ∧ State.reset.cipher.wait = [] ∧ bitAt (0x00020005 : Word).toNat 31 = false ∧ (0x80030005 : Word).toNat / 2 ^ 16 % 4 = 3 ∧ (0x80020005 : Word).toNat / 2 ^ 16 % 4 ≠ 3 ∧
      (let s := cs (fun x => { x with slots := [(5, { st := 1, use := 1, tending := true })] }) (w [(JOIN_TEND_SLOTS.VALID, 1), (JOIN_TEND_SLOTS.UP, 5)])
       (slotAt s 5).tending = true ∧ rd s JOIN_TEND_SLOTS.VALID = 1 ∧ (0x80020005 : Word).toNat % 2 ^ 14 = rd s JOIN_TEND_SLOTS.UP) ∧
      rd State.reset JOIN_TEND_SLOTS.VALID ≠ 1 ∧ State.reset.cipher.kek = none) ∧
    (let kekS := cs fun x => { x with kek := some kek46 }
     let s := cs (fun x => { x with kek := some kek46 }) (w ((List.range 10).map fun i => (CIPHER_LOAD_W.WRAPPED i, beAt wrapped46 (4 * i) 4)))
     kekS.cipher.kek = some kek46 ∧
       keyUnwrap kek46 ((List.range 10).flatMap fun i => beBytes 4 (rd kekS (CIPHER_LOAD_W.WRAPPED i))) = none ∧
       ((List.range 10).flatMap fun i => beBytes 4 (rd s (CIPHER_LOAD_W.WRAPPED i))) = wrapped46) ∧
    (let l : Load := { slot := 16383, use := 2, key := ck, tending := false, msg := none }
     let q : LoadReq := { slot := 5, use := 2, wrapped := wrapped46, msg := none }
     let s := cs fun x => { x with loads := [l], wait := [q], kek := some kek46 }
     (cs fun x => { x with loads := [l] }).cipher.loads = l :: [] ∧ l.slot < 2 ^ 14 ∧ s.cipher.loads = [l] ∧ s.cipher.wait = [q] ∧
       l.tending = false ∧ q.tend = none ∧
       (cs fun x => { x with loads := [l], wait := [{ q with tend := some ck }] }).cipher.wait = [{ q with tend := some ck }] ∧ (match checkLoad s q.slot q.use q.wrapped with | .ok _ => true | .error _ => false) = true) ∧
    (let s := keyed 2 1 0 0 []
     bitAt (1 : Word).toNat 0 = true ∧ rd s CIPHER_SLOT_SEL.SLOT = 0 ∧ (slotAt s 0).st = 1 ∧ s.cipher.sealLog.length < 256 ∧
       bitAt (2 : Word).toNat 0 = false ∧ bitAt (2 : Word).toNat 1 = true ∧ (slotAt s 0).st ≠ 0 ∧ s.cipher.wait = [] ∧ 256 ≤ (cs fun x => { x with sealLog := List.replicate 256 (5, 3) }).cipher.sealLog.length ∧
       bitAt (1 : Word).toNat 1 = false ∧ (slotAt State.reset 0).st = 0 ∧ State.reset.cipher.sealLog = [] ∧
       (cs fun x => { x with sealLog := [(5, 3)] }).cipher.sealLog = [(5, 3)]) ∧
    (∀ f : Bool, let g : Graft := { graftOf .cipher 31 64 with fenced := f }
     let s : State := w [(MODE_STATUS.MODE, 4)]
       { cs (fun x => { x with grafts := [31] }) with rake := { State.reset.rake with grafts := [g], gen := [(g.spare.code, 1)] } }
     s.cipher.grafts.contains 31 = true ∧ State.reset.cipher.grafts.contains 31 = false ∧ admits s g = true ∧
       s.rake.grafts.find? (fun x => x.ready && x.unit.cls = .cipher && x.serves = 31) = some g ∧ g.spare.cls = .cipher ∧
       g.unit.idx ≠ g.spare.idx ∧ emitting s 62 = false ∧ emitting s 63 = false ∧
       admits { s with rake := { s.rake with shadow := [(poolOf g.spare, 2)] } } g = false) ∧
    emitting { State.reset with burst := { State.reset.burst with air := [bu { gr 0 with ch := 63, cnt := 63 }] } } 63 = true := by
  refine ⟨?_, ?_, ?_, ?_, ?_, ?_, ?_⟩ <;> decide +kernel

/-- A good pod's frame reaches the Sieve. -/
theorem test_pod_decrypt : ends (exec (.podDecrypt 0) (keyed 2 1 0 0 [dnPod cct true]))
    (fun t => t.sieve.frames == [{ up := false, port := 0, bed := 0, tile := 0, bytes := List.replicate 60 1 }]) = true := by decide +kernel

/-- A seal of a LOADED slot is logged with cause 3. -/
theorem test_seal : ends (exec (.cipherSeal (.pf 0) 1) (keyed 2 1 0 0 []))
    (fun t => (slotAt t 0).st = 2 && t.cipher.sealLog == [(0, 3)]) = true := by decide +kernel

/-! ### The Rake -/

/-- The Rake changed. -/
def rk (f : RakeSt → RakeSt) (s : State := State.reset) : State := { s with rake := f s.rake }
/-- An event of bed 7, and a record and a source of it. -/
def bedEv (kind : Nat) : FaultEv := { kind := kind, scope := .bed 7, arg := 5 }
def recOf (e : FaultEv) : Rec :=
  { ty := 1, kind := e.kind, u := 0, tvalid := false, inj := false, scope := e.scope, arg := e.arg, source := 0, loc := 0, srcKey := (e.arg, e.loc) }
def srcOf (e : FaultEv) (c w : Nat) (a : Bool) : RSource := { kind := e.kind, scope := e.scope, arg := e.arg, loc := e.loc, count := c, wstart := w, active := a }
/-- A bank's graft by spare 128, ready or not. -/
def bankG (f : Graft → Graft) : Graft := f { graftOf .bank 0 128 with fenced := true }

/-- An event that a detector reports of bed 7's row 3, or of the device. -/
def extF (kind scope arg loc : Nat) : ExtFault := { kind := kind, scope := scope, bed := 7, row := 3, arg := arg, loc := loc, inj := false }

theorem witness_RakeSources :
    (∀ k ∈ [16, 20], ∀ lim ∈ [0, 1, 3], let s : State := { w [(RAKE_KIND.N k, lim)] with rakeIn := [bedEv k] }
      s.rakeIn = [bedEv k] ∧ nextEv s.rakeIn = some (bedEv k) ∧ 2 ≤ mode s ∧ (∀ k, k < chans s → rd s (FRM_STATUS.STATE k) = 0) ∧
      unitOf (bedEv k) = none ∧ s.rake.recQ.length < 255 ∧ s.rake.sources = [] ∧ rd s (RAKE_KIND.N k) = lim ∧ (bedEv k).kind = k) ∧
    (∀ c ∈ [1, 2], let s := rk (fun r => { r with sources := [srcOf (bedEv 16) c 0 true] }) (w [(RAKE_KIND.N 16, 3), (RAKE_KIND.WINDOW 16, 2)])
      s.rake.sources = [srcOf (bedEv 16) c 0 true] ∧ 0 ≤ s.time.c / 1250 ∧ s.time.c / 1250 - 0 < max 1 (rd s (RAKE_KIND.WINDOW 16)) ∧
        rd s (RAKE_KIND.N 16) = 3) ∧
    (let s := rk (fun r => { r with sources := [srcOf (bedEv 16) 1 0 true] }) (tm (fun t => { t with c := 2500 }) (w [(RAKE_KIND.WINDOW 16, 2)]))
     max 1 (rd s (RAKE_KIND.WINDOW 16)) ≤ s.time.c / 1250 - 0) ∧
    (let e : FaultEv := { kind := 20, scope := .dev, arg := 2 }
     (rk fun r => { r with sources := [{ srcOf e 1 0 true with arg := 1 }] }).rake.sources = [{ srcOf e 1 0 true with arg := 1 }] ∧ e.kind = 20 ∧
       unitOf e = none) ∧ State.reset.power.ask = none ∧ State.reset.rakeIn = [] ∧ State.reset.rake.recQ = [] := by
  decide +kernel

theorem witness_RakeReports :
    (let x := extF 7 2 3 0
     let s := w [(MODE_STATUS.MODE, 4)]
     let d : FaultEv := { kind := 8, scope := .row 31, arg := 2, loc := 1, ext := some false }
     (x.toEv s).isSome = true ∧ 2 ≤ mode s ∧ (∀ k, k < chans s → rd s (FRM_STATUS.STATE k) = 0) ∧
       moreEvents { s with pending := [.rakeFaultEvent (some x)] } = true ∧ moreEvents s = false ∧ d.ext ≠ none ∧
       (x.toEv s).map (·.cycle) = some d.cycle ∧ (x.toEv s).map (·.ext) = some (some false)) ∧
    (let e : FaultEv := { kind := 17, scope := .bed 7, arg := 31, loc := 31 }
     let u : RUnit := { cls := .lane, idx := 34 * 7 + 31 }
     let s : State := { w [(MODE_STATUS.MODE, 4), (RAKE_KIND.N 17, 1), (RAKE_KIND.ACTION 17, 2), (RAKE_CTRL.ACT_EN, 1)] with rakeIn := [e] }
     nextEv s.rakeIn = some e ∧ evIgnored s e = false ∧ unitOf e = some u ∧ servesOf s u = some 255 ∧ Machine.graftOf s u = none ∧ s.rake.grafts = [] ∧
       rd s (RAKE_KIND.N 17) = 1 ∧ rd s RAKE_CTRL.ACT_EN = 1 ∧ rd s (RAKE_KIND.ACTION 17) = 2 ∧ s.rake.recQ.length < 250 ∧
       rd s (HL_BED.PARTNER_HS (u.idx / 34)) = 0 ∧ freeSpares (rk (fun r => { r with free := [(poolOf u, [])] }) s) (poolOf u) = []) ∧
    (let e : FaultEv := { kind := 5, scope := .dev, arg := 2, loc := 9 }
     let u : RUnit := { cls := .table, idx := 9 }
     let s : State := { w [(RAKE_KIND.N 5, 1), (RAKE_KIND.ACTION 5, 1), (RAKE_CTRL.ACT_EN, 1)] with rakeIn := [e] }
     nextEv s.rakeIn = some e ∧ evIgnored s e = false ∧ unitOf e = some u ∧ servesOf s u = some 9 ∧ Machine.graftOf s u = none ∧ s.rake.grafts = [] ∧
       rd s (RAKE_KIND.N 5) = 1 ∧ rd s RAKE_CTRL.ACT_EN = 1 ∧ rd s (RAKE_KIND.ACTION 5) = 1) ∧
    (let u : RUnit := { cls := .table, idx := 9 }
     let g := { graftOf .table 9 9 with ready := false, gen := 1, tries := 1 }
     let s := rk fun r => { r with grafts := [g], badShadow := [poolOf u] }
     s.rake.grafts.find? (fun x => x.spare.code = g.spare.code) = some g ∧ g.unit.cls = .table ∧ g.spare = g.unit ∧ g.ready = false ∧ 2 ≤ mode s ∧
       g.gen = shadowGen s (poolOf g.spare) ∧ s.rake.badShadow.contains (poolOf g.spare) = true ∧ g.tries ≠ 0 ∧
       State.reset.rake.badShadow.contains (poolOf g.spare) = false) ∧
    (poolIdle (w [(MODE_STATUS.MODE, 2)]) 0 = true ∧ (rk fun r => { r with badShadow := [0] }).rake.badShadow.contains 0 = true) := by
  refine ⟨?_, ?_, ?_, ?_, ?_⟩ <;> decide +kernel

theorem witness_RakeDetectors :
    (let e : FaultEv := { kind := 21, scope := .dev, arg := 0, loc := 3 * 65536 }
     let s := rk fun r => { r with fenced := (List.range 14).map fun n => { unit := { cls := .trowel, idx := n }, serves := n, ev := e } }
     (extF 21 0 0 (3 * 65536)).toEv s = some { e with ext := some false } ∧ (extF 21 0 0 (3 * 65536)).inj = false ∧ unitOf e = none ∧ e.kind = 21 ∧
       ∀ u ∈ poolUnits s e.loc, servesOf s u = none ∨ unitFenced s u = true) ∧
    (let e : FaultEv := { kind := 10, scope := .dev, arg := 11, loc := 11 }
     let u : RUnit := { cls := .trowel, idx := 11 }
     let s : State := { w [(RAKE_KIND.N 10, 0)] with rakeIn := [e] }
     nextEv s.rakeIn = some e ∧ evIgnored s e = false ∧ unitOf e = some u ∧ servesOf s u = some 11 ∧ Machine.graftOf s u = none ∧ s.rake.grafts = [] ∧
       evIgnored (rk (fun r => { r with fenced := [{ unit := u, serves := 11, ev := e }] }) s) e = true) ∧
    (∀ free ∈ [[128, 135], ([] : List Nat)],
      let e : FaultEv := { kind := 5, scope := .dev, arg := 1, loc := 127 }
      let u : RUnit := { cls := .bank, idx := 127 }
      let s := rk (fun r => { r with free := [(poolOf u, free)] }) (w [(RAKE_KIND.N 5, 1), (RAKE_CTRL.ACT_EN, 1), (RAKE_KIND.ACTION 5, 1)])
      (extF 5 0 1 127).toEv s = some { e with ext := some false } ∧ evIgnored s e = false ∧ unitOf e = some u ∧ servesOf s u = some 127 ∧ Machine.graftOf s u = none ∧
        s.rake.grafts = [] ∧ rd s (RAKE_KIND.N 5) = 1 ∧ rd s RAKE_CTRL.ACT_EN = 1 ∧ rd s (RAKE_KIND.ACTION 5) = 1 ∧
        freeSpares s (poolOf u) = free) ∧
    ((extF 12 0 0 0).toEv State.reset = none ∧ mode (w [(MODE_STATUS.MODE, 1)]) < 2) ∧
    (let x : ExtFault := { extF 8 2 3 0 with inj := true }
     x.inj = true ∧ State.reset.rake.inject = none ∧ (x.toEv State.reset).isSome = true) ∧
    (∀ k, k < chans State.reset → rd State.reset (FRM_STATUS.STATE k) = 0) := by
  decide +kernel

theorem witness_RakeRings :
    (∀ n ∈ [0, 1, 1024], let s := rk (fun r => { r with recQ := [recOf (bedEv 17)], main := { recs := List.replicate n (recOf (bedEv 16)) } })
      s.rake.recQ = [recOf (bedEv 17)] ∧ (recOf (bedEv 17)).kind < 32 ∧ s.rake.fw.recs.length < 256 ∧ (recOf (bedEv 17)).scope = .bed 7 ∧ 7 < beds s ∧
        (s.rake.bed.get 7 {}).recs.length < 256 ∧ s.rake.main.recs = List.replicate n (recOf (bedEv 16)) ∧ s.rake.main.recs.length ≤ 1024) ∧
    (∀ b ∈ [0, 1], rd (w [(RAKE_KIND.FW 17, b)]) (RAKE_KIND.FW 17) = b) ∧ (2 : Nat) ≠ 1 + 2 ∧ State.reset.rake.main.recs = [] ∧
    (let s := rk fun r => { r with bed := [(7, { recs := [recOf (bedEv 17)] })] }
     s.lane.resetting = [] ∧ (s.rake.bed.get 7 {}).recs = [recOf (bedEv 17)] ∧ 7 < beds s ∧ 7 + 1 < fns s ∧ beds s ≤ 8 ∧ 9 ≠ 6 + 2 ∧
       (let x : State := { s with lane := { s.lane with resetting := [7] } }
        7 ∈ x.lane.resetting)) ∧
    (let s : State := { rk (fun r => { r with sources := [srcOf (bedEv 17) 1 0 true], recQ := [recOf (bedEv 17)] }) with rakeEnds := [bedEv 17] }
     s.rakeEnds = [bedEv 17] ∧ s.rakeIn = [] ∧ s.rake.recQ.length < 255 ∧
       (let x : State := { s with rakeIn := [bedEv 17] }
        ∃ y ∈ x.rakeIn, y.kind = 17 ∧ y.scope = .bed 7 ∧ y.arg = 5 ∧ y.loc = 0)) := by
  have hl : ∀ n ∈ [0, 1, 1024], n ≤ 1024 := by decide
  refine ⟨fun n hn => ⟨rfl, by decide, by show 0 < 256; decide, rfl, by show 7 < beds State.reset; decide, by show 0 < 256; decide, rfl,
      (List.length_replicate ..).trans_le (hl n hn)⟩, by decide +kernel, by decide, rfl, by decide +kernel,
    by decide +kernel⟩

theorem witness_RakeReturn :
    let f : Fenced := { unit := { cls := .bank, idx := 0 }, serves := 0, ev := bedEv 5 }
    let v : Word := BitVec.ofNat 32 (2 ^ 31 + Config.locCode f.unit.code % 2 ^ 20)
    let s := rk fun r => { r with fenced := [f] }
    bitAt v.toNat 31 = true ∧ rd s RAKE_RETURN.GO = 0 ∧
      s.rake.fenced.find? (fun x => Config.locCode x.unit.code % 2 ^ 20 = v.toNat % 2 ^ 20) = some f ∧
      State.reset.rake.fenced.find? (fun x => Config.locCode x.unit.code % 2 ^ 20 = v.toNat % 2 ^ 20) = none ∧ unitBusy s f = false ∧
      unitBusy (rk fun r => { r with fenced := [f], grafts := [bankG id] }) f = true ∧
      rd (w [(RAKE_RETURN.GO, 1)]) RAKE_RETURN.GO = 1 ∧ bitAt (0x7FFFFFFF : Word).toNat 31 = false := by
  intro f v s
  have hv : v.toNat = 2 ^ 31 + Config.locCode f.unit.code % 2 ^ 20 := by simp only [v, BitVec.toNat_ofNat]; omega
  have hm : v.toNat % 2 ^ 20 = Config.locCode f.unit.code % 2 ^ 20 := by rw [hv]; omega
  refine ⟨?go, ?_, ?loc, rfl, ?_, ?_, ?_, ?_⟩
  case go =>
    have : v.toNat / 2 ^ 31 % 2 = 1 := by rw [hv]; omega
    simp only [bitAt, this, decide_true]
  case loc =>
    show List.find? _ [f] = some f
    rw [List.find?_cons_of_pos]
    exact decide_eq_true hm.symm
  all_goals decide +kernel

theorem witness_RakeSourcesRecordsAndGrafts :
    (∀ g ∈ [bankG fun g => { g with ready := false, gen := 0, busy := 9 }, bankG fun g => { g with ready := false, gen := 0, busy := 10 },
        bankG fun g => { g with ready := false, tries := 1 }],
      let s := rk fun r => { r with grafts := [g] }
      s.rake.grafts.find? (fun x => x.spare.code = 262272) = some g ∧ g.spare.cls = g.unit.cls ∧ g.unit.idx < 4096 ∧ g.spare.idx < 4096 ∧
        g.unit.idx ≠ g.spare.idx ∧ g.ready = false ∧ g.unit.cls = .bank ∧ shadowGen s (poolOf g.spare) = 1 ∧ unitDown s g.spare = false ∧
        s.rake.badShadow.contains (poolOf g.spare) = false ∧
        (rk (fun r => { r with badShadow := [poolOf g.spare] }) s).rake.badShadow.contains (poolOf g.spare) = true ∧
        (∀ l ∈ [[129], ([] : List Nat)], freeSpares (rk (fun r => { r with free := [(poolOf g.unit, l)] }) s) (poolOf g.unit) = l)) ∧
    (∀ g ∈ [bankG id, graftOf .bank 0 128, graftOf .parser 2047 2032, graftOf .reshuf 2047 2032, { graftOf .parser 0 15 with fenced := true },
        { graftOf .reshuf 0 15 with fenced := true }],
      let s := rk (fun r => { r with grafts := [g], gen := [(g.spare.code, 1)] }) (w [(MODE_STATUS.MODE, 4)])
      s.rake.grafts.find? (fun x => x.spare.code = g.spare.code) = some g ∧ g.spare.cls = g.unit.cls ∧ g.ready = true ∧
        g.unit.idx ≠ g.spare.idx ∧ g.spare.idx < 4096 ∧ g.unit.idx < 4096 ∧ admits s g = true ∧ unitDown s g.spare = false ∧
        (rk fun r => { r with grafts := [g], shadow := [(poolOf g.spare, 2)], gen := [(g.spare.code, 1)] }).rake.grafts = [g] ∧
        admits (rk (fun r => { r with shadow := [(poolOf g.spare, 2)] }) s) g = false) ∧
    (let g := { graftOf .lrx 0 64 with ready := false }
     unitDown (rk fun r => { r with grafts := [g] }) g.spare = true) ∧
    (let s := w [(MODE_STATUS.MODE, 3)]
     let x : RUnit := { cls := .lrx, idx := 63 }
     s.rake.grafts = [] ∧ unitOfCode 63 = some x ∧ servesOf s x = some 63 ∧ unitFenced s x = false ∧
       domState (mode s) x.domain = 0 ∧ domState (mode State.reset) x.domain ≠ 0 ∧ servesOf State.reset x = some 63) ∧
    State.reset.rake.returning = none ∧
    (let f : Fenced := { unit := { cls := .bank, idx := 0 }, serves := 0, ev := bedEv 5 }
     (rk fun r => { r with returning := some f }).rake.returning = some f ∧ State.reset.rake.unserved = [] ∧
       (let v : Fenced := { f with unit := { cls := .bank, idx := 127 }, serves := 127 }
        (rk fun r => { r with returning := some f, unserved := [v] }).rake.unserved.find? (fun x => poolOf x.unit = poolOf f.unit &&
          !(([] : List Graft).any fun g => g.unit.cls = x.unit.cls && g.serves = x.serves)) = some v ∧ v.unit.cls = .bank)) := by decide +kernel

theorem witness_RakeInjection :
    bitAt (0x80000000 : Word).toNat 31 = true ∧ bitAt (0x7FFFFFFF : Word).toNat 31 = false ∧ (0x80000004 : Word).toNat % 32 < 5 ∧
      9 < (0x8000000A : Word).toNat % 32 ∧ (∀ k ∈ [5, 6], injectOk State.reset (injectTarget State.reset k) = true) ∧
      injectOk (w [(RAKE_INJECT_TGT.ARG, 3)]) (injectTarget (w [(RAKE_INJECT_TGT.ARG, 3)]) 5) = false ∧
      (∀ k ∈ [7, 8, 9], injectOk (w [(RAKE_INJECT_TGT.SCOPE, 2), (RAKE_INJECT_TGT.BED, 7), (RAKE_INJECT_TGT.ROW, 3)])
        (injectTarget (w [(RAKE_INJECT_TGT.SCOPE, 2), (RAKE_INJECT_TGT.BED, 7), (RAKE_INJECT_TGT.ROW, 3)]) k) = true) ∧
      State.reset.rake.inject = none ∧ (rk fun r => { r with inject := some (bedEv 5, 1, false) }).rake.inject ≠ none := by decide +kernel

/-- The first event of a source is reported with record type 1 where N is above 1. -/
theorem test_rake_first : ends (exec (.rakeFaultEvent none) { w [(RAKE_KIND.N 16, 3)] with rakeIn := [bedEv 16] })
    (fun t => t.rake.recQ.map (·.ty) == [1] && rd t RAKE_STICKY.KINDS = 2 ^ 15) = true := by decide +kernel

/-- Record 7 of a bed goes to the main ring and to the bed's own. -/
theorem test_rake_record : ends (exec .rakeRecordWrite (rk fun r => { r with recQ := [recOf (bedEv 17)] }))
    (fun t => t.rake.main.recs.length == 1 && (t.rake.bed.get 7 {}).recs.length == 1 && rd t RAKE_RING_STAT.COUNT = 1) = true := by decide +kernel

/-! ### Host lanes and ports -/

/-- Port 0 in state `st` with all eight lanes of row 0, and fields `l`. -/
def prt (st : Nat) (l : List (Fld × Nat) := []) (s : State := State.reset) : State :=
  w ([(MODE_STATUS.MODE, 4), (HL_PORT.STATE 0, st), (HL_PORT.WIDTH 0, 8)] ++ l) s
/-- A frame that passes the FCS check; a PAUSE; a handshake message of version `v` and type `ty`. -/
def okFrame (l : List Byte) : List Byte := l ++ leBytes 4 (crc32 l)
def pauseFrame (t : Nat) : List Byte := macFrame (beBytes 6 0x0180C2000001 ++ beBytes 6 1 ++ beBytes 4 0x88080001 ++ beBytes 2 t)
def pfcFrame (mask : Nat) : List Byte := macFrame (beBytes 6 0x0180C2000001 ++ beBytes 6 1 ++ beBytes 4 0x88080101 ++ beBytes 2 mask)
def hsFrame (v ty : Nat) : List Byte := macFrame (beBytes 6 0x0180C2000002 ++ beBytes 6 1 ++ beBytes 2 0x8809 ++ beBytes 4 0x0A000000 ++
  beBytes 1 v ++ beBytes 1 ty ++ [0, 0, 3, 33, 1])
/-- A lane graft of slot 3 of BED_0 from position 3 to the spare 33. -/
def lg (acc ours theirs : Bool) : LaneGraft := { slot := 3, old := 3, spare := 33, accepted := acc, ours := ours, theirs := theirs }
def rg : Graft := { graftOf .lane 3 33 with fenced := true }
def graftS (acc ours theirs : Bool) (m : List HsMsg := []) : State :=
  let s := prt 2
  { s with lane := { s.lane with graft := [(33, lg acc ours theirs)], hsIn := m }, rake := { s.rake with grafts := [rg], gen := [(rg.spare.code, 1)] } }
def hm (ty slot spare : Nat) : HsMsg := { port := 0, ty := ty, slot := slot, spare := spare, flags := 3 }

theorem witness_HostFrames :
    (0 < ports (prt 2) ∧ portUpNow (prt 2) 0 = true ∧ portUpNow (prt 1) 0 = false ∧ fcsOk [0, 0, 0, 1] = false ∧ fcsOk (okFrame zeros) = true ∧
      (okFrame zeros).length = 64 ∧ fcsOk (okFrame [1]) = true ∧ (okFrame [1]).length < 64 ∧ isPause (okFrame zeros) = false ∧
      isHandshake (prt 2) (okFrame zeros) = false ∧ rd (prt 2 [(SPR_CTRL.ENABLE, 0)]) SPR_CTRL.ENABLE = 0 ∧
      sprMatch (prt 2 [(SPR_CTRL.ENABLE, 1)]) 0 zeros = none) ∧
    (∀ t ∈ [0, 1], fcsOk (pauseFrame t) = true ∧ (pauseFrame t).length = 64 ∧ isPause (pauseFrame t) = true ∧
      beAt ((pauseFrame t).take ((pauseFrame t).length - 4)) 14 2 = 1) ∧
    (fcsOk (pfcFrame 0x81) = true ∧ (pfcFrame 0x81).length = 64 ∧ isPause (pfcFrame 0x81) = true ∧
      beAt ((pfcFrame 0x81).take ((pfcFrame 0x81).length - 4)) 14 2 ≠ 1) ∧
    (∀ x ∈ [(1, 1), (1, 2), (1, 7), (1, 0), (1, 8), (2, 1)], fcsOk (hsFrame x.1 x.2) = true ∧ (hsFrame x.1 x.2).length = 64 ∧
      isPause (hsFrame x.1 x.2) = false ∧ isHandshake (prt 2) (hsFrame x.1 x.2) = true ∧ beAt (hsFrame x.1 x.2) 18 1 = x.1 ∧
      beAt (hsFrame x.1 x.2) 19 1 = x.2) := by decide +kernel

theorem witness_PortsAndLanes :
    (255 < ports State.reset ∧ 7 < beds State.reset ∧ (∀ x ∈ State.reset.rake.grafts, x.unit.cls = .lane → x.serves / 8 ≠ 31) ∧
      (0x80000000 : Word).toNat % 4 = rd State.reset (HL_ROW.MODE 31) ∧ (0x80000003 : Word).toNat % 4 ≠ rd State.reset (HL_ROW.MODE 31) ∧
      rowNarrow State.reset 31 = false ∧ lineUp State.reset = false ∧ lineUp (prt 2) = true ∧ (prt 2).lane.pos = []) ∧
    (let s := prt 1 [(HL_PORT.WIDTH 0, 4), (HL_PORT.REFORMED 0, 1)]
     rowNarrow s 0 = true ∧ lineUp s = true ∧ s.lane.pos = []) ∧
    ((graftS true false false).rake.grafts = [rg] ∧ rg.unit.cls = .lane ∧ rg.serves / 8 = 0 ∧
      (3 : Word).toNat % 4 ≠ rd (graftS true false false) (HL_ROW.MODE 0)) ∧
    (laneSlot (graftS true false false) 0 33 = none ∧ laneBusy (graftS true false false) 0 33 = true ∧
      (0x04000000 : Word).toNat / 2 ^ 26 % 4 ≠ rd (graftS true false false) (HL_LANE_CTRL.LOOPBACK 0 33) ∧ laneSlot State.reset 7 33 = none ∧
      laneBusy State.reset 7 33 = false ∧ lineUp (prt 2) = true ∧ (prt 2).power.down = none ∧ laneSlot (prt 2) 7 33 = none ∧
      laneBusy (prt 2) 7 33 = false ∧ rd (prt 2) (HL_LANE_STAT.STATE 7 33) ≠ 5 ∧
      (0x60000000 : Word).toNat / 2 ^ 30 % 2 = (0x60000000 : Word).toNat / 2 ^ 29 % 2 ∧ laneSlot (prt 2) 0 3 = some 3 ∧ portOfSlot (prt 2) 0 3 = some 0 ∧ (0 : Word).toNat / 2 ^ 31 = 0) ∧
    (let tap (v : Word) (i : Nat) := (toSigned 8 (v.toNat / 2 ^ (8 * i) % 256)).natAbs
     tap 0x7F000001 0 + tap 0x7F000001 1 + tap 0x7F000001 2 + tap 0x7F000001 3 = 128 ∧
       tap 0x81000002 0 + tap 0x81000002 1 + tap 0x81000002 2 + tap 0x81000002 3 = 129) ∧
    (let s := prt 1 [(HL_LANE_STAT.STATE 0 33, 1)]
     rd s (HL_LANE_STAT.STATE 0 33) = 1 ∧ rd s (HL_LANE_CTRL.ENABLE 0 33) = 1 ∧ lineUp s = true ∧
       rd s (HL_LANE_CTRL.ADAPT_FREEZE 0 33) ≠ 1 ∧ rd (w [(HL_LANE_CTRL.ADAPT_FREEZE 0 33, 1)] s) (HL_LANE_CTRL.ADAPT_FREEZE 0 33) = 1 ∧ rd (prt 1) (HL_LANE_STAT.STATE 0 33) ≠ 1 ∧
       rd (prt 1 [(HL_LANE_CTRL.ENABLE 7 33, 0)]) (HL_LANE_CTRL.ENABLE 7 33) = 0) ∧
    (∀ st ∈ [2, 4], let s := prt 1 ((List.range 8).map fun i => (HL_LANE_STAT.STATE 0 i, st))
     rd s (HL_PORT.STATE 0) = 1 ∧ (∀ x ∈ portLanes s 0, rd s (HL_LANE_STAT.STATE (0 / 32) x) = st) ∧ rd s (SCHED_UP_PORT_USE.ASSERTED 0) = 0) ∧
    (rd (prt 1) (HL_PORT.STATE 0) = 1 ∧ ∃ x ∈ portLanes (prt 1) 0, rd (prt 1) (HL_LANE_STAT.STATE (0 / 32) x) < 2) ∧
    (rd (prt 2) (HL_PORT.STATE 0) ≠ 1 ∧ portUpNow (prt 1) 0 = false ∧ laneSlot (prt 2) 0 7 = some 7 ∧ portOfSlot (prt 2) 0 7 = some 0 ∧
      portUpNow (prt 2) 0 = true ∧ rd (prt 2) (HL_LANE_STAT.STATE 0 7) ≠ 4 ∧ rd (prt 1) (HL_PORT.RF 0) = 0 ∧
      rd (prt 1 [(HL_PORT.RF 0, 1)]) (HL_PORT.RF 0) = 1 ∧ rd (prt 3) (HL_PORT.STATE 0) = 3 ∧ rd (prt 0) (HL_PORT.STATE 0) < 2 ∧
      rd (prt 1) (HL_PORT.RX_DOZING 0) = 0 ∧ rd (prt 1 [(HL_PORT.RX_DOZING 0, 1)]) (HL_PORT.RX_DOZING 0) = 1) ∧
    (let s : State := { prt 1 with lane := { (prt 1).lane with fault := [0] } }
     s.lane.fault.contains 0 = true ∧ rd s (HL_PORT.STATE 0) = 1) ∧
    (portUpNow (prt 2 [(HL_PORT.RX_DOZING 0, 1)]) 0 = true ∧ rd (prt 2 [(HL_PORT.RX_DOZING 0, 1)]) (HL_PORT.RX_DOZING 0) = 1 ∧
      rd (prt 2) (HL_PORT.RX_DOZING 0) = 0) ∧
    rd (w [(HL_LANE_STAT.STATE 7 33, 4)]) (HL_LANE_STAT.STATE 7 33) = 4 ∧
    rd (w [(HL_LANE_STAT.STATE 7 33, 4)]) (HL_LANE_CTRL.LOOPBACK 7 33) = 0 ∧
    rd (w [(HL_LANE_CTRL.LOOPBACK 7 33, 3)]) (HL_LANE_CTRL.LOOPBACK 7 33) ≠ 0 ∧
    rd (w [(HL_LANE_STAT.STATE 7 33, 2)]) (HL_LANE_STAT.STATE 7 33) = 2 := by
  refine ⟨?_, ?_, ?_, ?_, ?_, ?_, ?_, ?_, ?_, ?_, ?_, ?_⟩ <;> decide +kernel

/-- The first message of a type on port 0. -/
def heard (s : State) (ty : Nat) : Option HsMsg := s.lane.hsIn.find? fun m => m.port = 0 && m.ty = ty
/-- The premises of a lane graft's end. -/
def ofLane (s : State) (x : Graft) (h : LaneGraft) : Prop := s.rake.grafts = [x] ∧ x.ready = true ∧ x.unit.cls = .lane ∧
  x.spare = { cls := .lane, idx := 34 * 0 + h.spare } ∧ h.spare < 34 ∧ h.slot < 32 ∧ x.serves = 32 * 0 + h.slot ∧ x.fenced = true ∧
  s.lane.held = [] ∧ s.mgmt.bedWait = []

theorem witness_HandshakesGraftsAndDoze :
    (rd (w [(HL_BED.HS_EN 0, 0)]) (HL_BED.HS_EN 0) = 0 ∧ rd (prt 2) (HL_BED.HS_EN (0 / 32)) = 1 ∧ portUpNow (prt 2) 0 = true ∧
      ∀ q, q < 32 → q ≠ 0 → portUpNow (prt 2) q = false) ∧
    (∀ ty ∈ [1, 3, 4, 5, 6, 7], heard State.reset ty = none ∧
      (let s : State := { prt 2 with lane := { (prt 2).lane with hsIn := [{ hm ty 3 33 with port := 1 }, hm ty 3 33] } }
       heard s ty = some (hm ty 3 33) ∧ s.lane.graft.find 33 = none)) ∧
    (∀ ty ∈ [3, 4], let s := graftS (ty = 4) false false [hm ty 3 33]
      s.lane.graft.find 33 = some (lg (ty = 4) false false) ∧ heard s ty = some (hm ty 3 33) ∧ (lg (ty = 4) false false).slot = (hm ty 3 33).slot ∧
      (lg (ty = 4) false false).spare = (hm ty 3 33).spare ∧ (lg (ty = 4) false false).slot ≠ (hm ty 4 33).slot) ∧
    (let s := graftS true true false [hm 4 3 33]
     s.lane.graft.find 33 = some (lg true true false) ∧ ofLane s rg (lg true true false) ∧ admits s rg = true ∧
       (let x : State := { s with rake := { s.rake with shadow := [(poolOf rg.spare, 2)] } }
        admits x rg = false ∧ ofLane x rg (lg true true false))) ∧
    ofLane (graftS true false true) rg (lg true false true) ∧ rg.spare.idx = 34 * 0 + 33 ∧ 34 ≤ (hm 3 3 40).spare ∧
      (graftS true false false).lane.graft.find 32 = none ∧ (lg true false false).slot ≠ (hm 5 4 33).slot ∧
    (rd (prt 2) (HL_BED.RX_DOZE_EN 0) = 0 ∧ rd (prt 2 [(HL_BED.RX_DOZE_EN 0, 1)]) (HL_BED.RX_DOZE_EN 0) = 1 ∧
      portUpNow (prt 2 [(HL_BED.RX_DOZE_EN 0, 1)]) 0 = true) ∧
    (hsPort (graftS true false false) 0 3 = some 0 ∧ hsPort (w [(HL_PORT.STATE 0, 0)] (graftS true false false)) 0 3 = none ∧
      rg.unit.idx / 34 = 0 ∧ slotGraft (graftS false false true [hm 5 3 33]) 0 3 = some 33 ∧ 0 / 32 = 0 ∧
      (graftS false false true [hm 5 3 33]).lane.graft.find 33 = some (lg false false true)) ∧
    (let s := prt 2 [(HL_BED.TX_DOZE_EN 0, 1), (HL_BED.PARTNER_RXDOZE 0, 1)]
     dozeOk s 0 = true ∧ rd s (HL_PORT.TX_DOZING 0) = 0 ∧ dozeOk (prt 2) 0 = false) ∧
    (portUpNow (prt 2 [(HL_PORT.TX_DOZING 0, 1)]) 0 = true ∧ rd (prt 2) (HL_PORT.TX_DOZING 0) ≠ 1 ∧
      rd (prt 2) (HL_LANE_CTRL.LOOPBACK 0 33) = 0 ∧
      rd (prt 2 [(HL_PORT.TX_DOZING 0, 1)]) (HL_PORT.TX_DOZING 0) = 1 ∧ rd (prt 2 [(HL_PORT.RX_DOZING 0, 1)]) (HL_PORT.RX_DOZING 0) = 1 ∧
      rd (prt 2) (HL_PORT.RX_DOZING 0) = 0 ∧
      ({ prt 2 with lane := { (prt 2).lane with waking := [0] } } : State).lane.waking.contains 0 = true ∧ (prt 2).lane.waking.contains 0 = false) := by
  unfold ofLane
  refine ⟨?_, ?_, ?_, ?_, ?_, ?_, ?_, ?_, ?_, ?_⟩ <;> decide +kernel

/-- A frame from the host reaches the upstream tile without its FCS. -/
theorem test_host_frame : ends (exec (.hostFrameReceive 0 (okFrame zeros) false [] []) (prt 2))
    (fun t => t.sieve.frames == [{ up := true, port := 0, bed := 0, tile := 0, bytes := zeros }] && t.sched.tile == [0]) = true := by decide +kernel

/-- A PAUSE sets the port's timer. -/
theorem test_pause_frame : ends (exec (.hostFrameReceive 0 (pauseFrame 5) false [] []) (prt 2))
    (fun t => t.sched.timer.get 8 0 = 5 && rd t (SCHED_DN_PORT_STAT.LINK_PAUSED 0) = 1 && t.sieve.frames == []) = true := by decide +kernel

/-- READY from the partner ends a graft whose receiver has moved. -/
theorem test_lane_graft_ready : ends (exec (.ready 0) (graftS true true false [hm 4 3 33]))
    (fun t => lanePos t 0 3 = 33 && t.rake.grafts == [] && rd t (HL_LANE_STAT.SLOT 0 33) = 3) = true := by decide +kernel

/-- A graft that times out ends with ABORT about its slot and spare on the slot's port (R529, R534). -/
theorem test_lane_graft_abort : ends (exec (.graftAcceptTimeout 33) (graftS false false false))
    (fun t => t.rake.grafts == [] && t.lane.graft == [] && t.out.any fun
      | .frame 0 f => beAt f 27 1 = 5 && beAt f 30 1 = 3 && beAt f 31 1 = 33
      | _ => false) = true := by decide +kernel

/-- The taps of the two generators, and no error in what a generator itself sends (R527). -/
theorem test_patterns : (patternBit 1 1).1 = true ∧ (patternBit 1 (2 ^ 11)).1 = true ∧ (patternBit 1 4).1 = false ∧
    (patternBit 2 (2 ^ 30)).1 = false ∧ (patternBit 2 1).1 = true ∧
    patternErrors 1 { start := 1, syms := patternSyms 1 8 1 } = 0 := by decide +kernel

/-- R516's example, sent and received with precoding. -/
theorem test_precoding :
    let bits := [(false, false), (true, false), (true, true), (false, true)]
    bits.map grayPair = [0, 3, 2, 1] ∧ (laneSymbols State.reset 0 0 bits).map pamLevel = [-3, 3, 3, 1] ∧
      laneValues State.reset 0 0 [0, 3, 3, 2] = [0, 3, 2, 1] := by decide +kernel

/-- A HELLO wakes the transmitters of a dozing port (R538). -/
theorem test_hello_wakes : ends (exec (.helloSend 0) (prt 2 [(HL_PORT.TX_DOZING 0, 1), (HL_LANE_STAT.TX_DOZE 0 7, 1)]))
    (fun t => rd t (HL_PORT.TX_DOZING 0) = 0 && rd t (HL_LANE_STAT.TX_DOZE 0 7) = 0) = true := by decide +kernel

/-! ### The land map (R544, R545, R549) -/

/-- Every land. -/
def lands : List Land := (List.range 92).flatMap fun i => (List.range 92).map fun c => landAt (i + 1) (c + 1)
def landCount (p : Land → Bool) : Nat := (lands.filter p).length

/-- The counts of R544 and R549. -/
theorem test_land_counts : landCount (fun x => x = .vss) = 4588 ∧
    landCount (fun | .hostTx .. | .hostRx .. => true | _ => false) = 1088 ∧
    landCount (fun | .pcieTx .. | .pcieRx .. => true | _ => false) = 32 ∧
    landCount (fun | .signal _ => true | _ => false) = 49 ∧
    ([Rail.core, .opt, .hsa, .hst, .laser, .pll, .io18, .aon].map fun r => landCount (fun x => x = .rail r)) =
      [1800, 368, 184, 184, 136, 16, 15, 4] := by decide +kernel

/-- R545's example. -/
theorem test_host_land : landAt 77 43 = .hostRx 5 20 false ∧ rowName 77 = "YD" ∧ landAt 2 1 = .hostTx 0 0 true ∧ rowName 2 = "B" ∧
    landUsed 4 (landAt 77 43) = false := by decide +kernel

end Sys2Proof.Tests
end

section
/-!
PROOFS. The Trowel multiplier and accumulators: what an accumulator write leaves (R361), rounding (R362) and the move out of
an accumulator (R363).
-/

namespace Sys2Proof.Machine

open Sys2Proof

/-! ### Running an instruction over registers -/

/-- An instruction whose register specifiers are good goes on as its operation says. -/
theorem coreGoes_of_guardRegs {i : Instr} {s : State} {n : Nat} {rs : List Nat} {w : Core → Nat} {o : Core → CoreOut}
    {k' : Core}
    (hready : coreReady s n) (hregs : ∀ r ∈ rs, okReg r = true)
    (hexec : exec i s = .next (runCore (fresh s) n fun k => guardRegs rs (w k) (o k)))
    (ho : o (coreAt s n) = .next k') : coreGoes i s n k' := by
  rw [coreGoes, hexec, runCore_next hready ((guardRegs_ok hregs _ _).trans ho)]

/-! ### Bits of STATUS above the flags -/

/-- Two words with the same part from bit `n` up have the same bits there. -/
theorem bitAt_congr_of_div {u v n i : Nat} (h : u / 2 ^ n = v / 2 ^ n) (hi : n ≤ i) : bitAt u i = bitAt v i := by
  have hshift : ∀ y : Nat, bitAt y i = (y / 2 ^ n).testBit (i - n) := fun y => by
    rw [bitAt_eq, Nat.testBit_div_two_pow, Nat.sub_add_cancel hi]
  rw [hshift, hshift, h]

/-- Two words with the same bits from bit `n` up have the same part there. -/
theorem div_congr_of_bitAt {u v n : Nat} (h : ∀ i, n ≤ i → bitAt u i = bitAt v i) : u / 2 ^ n = v / 2 ^ n := by
  refine Nat.eq_of_testBit_eq fun i => ?_
  rw [Nat.testBit_div_two_pow, Nat.testBit_div_two_pow, ← bitAt_eq, ← bitAt_eq, h _ (Nat.le_add_left n i)]

theorem Core.stick_rest (k : Core) (i : Nat) (b : Bool) : k.stick i b = { k with status := (k.stick i b).status } := by
  cases b <;> rfl

@[simp] theorem Core.stick_scale (k : Core) (i : Nat) (b : Bool) : (k.stick i b).scale = k.scale := by
  rw [Core.stick_rest]

theorem Core.stick_bit_same (k : Core) (i : Nat) (b : Bool) : bitAt (k.stick i b).status i = (bitAt k.status i || b) := by
  cases b
  · exact (Bool.or_false _).symm
  · exact (putBits_same _ _ true).trans (Bool.or_true _).symm

theorem Core.stick_bit_ne (k : Core) {i j : Nat} (b : Bool) (h : i ≠ j) : bitAt (k.stick i b).status j = bitAt k.status j := by
  cases b
  · rfl
  · exact putBits_other _ h

/-! ### Writing an accumulator (R361) -/

/-- The value fits no 40 signed bits. -/
def exceeds40 (v : Int) : Bool := decide (v < -2 ^ 39 ∨ 2 ^ 39 ≤ v)

/-- What the accumulator takes for the exact result `v`. -/
def Core.accValue (k : Core) (v : Int) : Int :=
  if exceeds40 v = true then
    (if k.sat = true then (if v < 0 then -2 ^ 39 else 2 ^ 39 - 1) else (v + 2 ^ 39) % 2 ^ 40 - 2 ^ 39)
  else v

/-- The bit of STATUS that tells an overflow of ACC_X (AVA or AVB). -/
def accBit (x : Nat) : Nat := if x = 0 then 4 else 5

/-- The signed reading of a `w`-bit code is the value wrapped to `w` bits. -/
theorem toSigned_ofSigned {w : Nat} (hw : 0 < w) (v : Int) :
    toSigned w (ofSigned w v) = (v + 2 ^ (w - 1)) % 2 ^ w - 2 ^ (w - 1) := by
  obtain ⟨m, rfl⟩ : ∃ m, w = m + 1 := ⟨w - 1, by omega⟩
  have hcast : (ofSigned (m + 1) v : Int) = v % 2 ^ (m + 1) := ofSigned_cast _ v
  have hlt : ofSigned (m + 1) v < 2 ^ (m + 1) := ofSigned_lt _ v
  unfold toSigned
  rw [Nat.mod_eq_of_lt hlt, Nat.add_sub_cancel, ← Int.emod_add_emod, ← hcast]
  generalize ofSigned (m + 1) v = c at hlt ⊢
  have hP : (2 : Int) ^ m = (2 ^ m : Nat) := (Nat.cast_pow 2 m).symm
  rw [pow_succ] at hlt
  rw [pow_succ, pow_succ, hP, Nat.cast_mul, Nat.cast_ofNat]
  generalize 2 ^ m = P at hlt ⊢
  split
  · rw [Int.emod_eq_of_lt (by omega) (by omega)]; omega
  · rw [← Int.sub_emod_right, Int.emod_eq_of_lt (by omega) (by omega)]; omega

theorem exceeds40_eq (v : Int) : (decide (v < -(2 ^ 39)) || decide (2 ^ 39 - 1 < v)) = exceeds40 v := by
  rw [Bool.eq_iff_iff]
  simp only [exceeds40, Bool.or_eq_true, decide_eq_true_eq]
  omega

/-- Clamping a value that exceeds 40 bits gives the bound on its side. -/
theorem clamp40_of_exceeds {v : Int} (h : exceeds40 v = true) :
    clampInt (-(2 ^ 39)) (2 ^ 39 - 1) v = if v < 0 then -2 ^ 39 else 2 ^ 39 - 1 := by
  simp only [exceeds40, decide_eq_true_eq] at h
  unfold clampInt
  split_ifs <;> omega

theorem Core.setAcc_eq (k : Core) (x : Nat) (v : Int) :
    k.setAcc x v = { k with
      accA := if x = 0 then k.accValue v else k.accA
      accB := if x = 0 then k.accB else k.accValue v
      status := ((k.stick 7 (exceeds40 v && k.sat)).stick (accBit x) (exceeds40 v)).status } := by
  have hvalue : (if exceeds40 v = true then
      (if k.sat then clampInt (-(2 ^ 39)) (2 ^ 39 - 1) v else toSigned 40 (ofSigned 40 v)) else v) = k.accValue v := by
    unfold Core.accValue
    split
    · next h => rw [clamp40_of_exceeds h, toSigned_ofSigned (by decide)]
    · rfl
  unfold Core.setAcc
  simp only [exceeds40_eq, hvalue]
  rw [Core.stick_rest, Core.stick_rest k]
  unfold accBit
  split <;> rfl

/-- Only SV and the accumulator's own sticky bit of STATUS can change in an accumulator write. -/
theorem Core.setAcc_bit (k : Core) (x : Nat) (v : Int) {i : Nat} (h7 : i ≠ 7) (hx : i ≠ accBit x) :
    bitAt (k.setAcc x v).status i = bitAt k.status i := by
  rw [Core.setAcc_eq]
  exact (Core.stick_bit_ne _ _ hx.symm).trans (Core.stick_bit_ne _ _ h7.symm)

theorem Core.setAcc_bit_sv (k : Core) (x : Nat) (v : Int) :
    bitAt (k.setAcc x v).status 7 = (bitAt k.status 7 || (exceeds40 v && k.sat)) := by
  rw [Core.setAcc_eq]
  exact (Core.stick_bit_ne _ _ (by unfold accBit; split <;> decide)).trans (Core.stick_bit_same _ _ _)

theorem Core.setAcc_bit_own (k : Core) (x : Nat) (v : Int) :
    bitAt (k.setAcc x v).status (accBit x) = (bitAt k.status (accBit x) || exceeds40 v) := by
  rw [Core.setAcc_eq]
  refine (Core.stick_bit_same _ _ _).trans ?_
  rw [Core.stick_bit_ne _ _ (by unfold accBit; split <;> decide)]

/-- An accumulator write, with the PC moved on, is the writing of R361. -/
theorem Core.setAcc_accWritten (k : Core) (x : Nat) (v : Int) : k.accWritten (k.setAcc x v).adv x v := by
  have hother {i : Nat} : i ≠ 7 → i ≠ accBit x → bitAt (k.setAcc x v).status i = bitAt k.status i := k.setAcc_bit x v
  have hown := k.setAcc_bit_own x v
  have hbits : accBit x = 4 ∧ x = 0 ∨ accBit x = 5 ∧ x ≠ 0 := by unfold accBit; split <;> simp [*]
  refine ⟨?_, ?_, ?_, k.setAcc_bit_sv x v, ?_, ?_, ?_, ?_, ?_⟩
  · rw [Core.setAcc_eq]; rfl
  · rw [Core.setAcc_eq]; rfl
  · rw [Core.setAcc_eq]; rfl
  · show bitAt (k.setAcc x v).status 4 = (bitAt k.status 4 || (exceeds40 v && decide (x = 0)))
    rcases hbits with ⟨hb, hx⟩ | ⟨hb, hx⟩
    · rw [hb] at hown
      simpa [hx] using hown
    · simpa [hx] using hother (by decide) (by rw [hb]; decide)
  · show bitAt (k.setAcc x v).status 5 = (bitAt k.status 5 || (exceeds40 v && decide (x ≠ 0)))
    rcases hbits with ⟨hb, hx⟩ | ⟨hb, hx⟩
    · simpa [hx] using hother (by decide) (by rw [hb]; decide)
    · rw [hb] at hown
      simpa [hx] using hown
  · exact hother (by decide) (by omega)
  · exact div_congr_of_bitAt (n := 8) fun i hi => hother (by omega) (by omega)
  · rw [Core.setAcc_eq]; rfl

/-- An accumulator write leaves the PC: after a move of the PC, setting it back gives the write alone. -/
theorem Core.setAcc_adv_pc_back (k : Core) (x : Nat) (v : Int) : { (k.setAcc x v).adv with pc := k.pc } = k.setAcc x v := by
  rw [Core.setAcc_eq]; rfl

/-- An accumulator write touches none of Z, N, C and V. -/
theorem Core.setAcc_sameFlags (k : Core) (x : Nat) (v : Int) : sameFlags k (k.setAcc x v).adv := by
  have hflag (i : Nat) (hi : i < 4) : bitAt (k.setAcc x v).status i = bitAt k.status i :=
    k.setAcc_bit x v (by omega) (by unfold accBit; split <;> omega)
  exact ⟨hflag 0 (by decide), hflag 1 (by decide), hflag 2 (by decide), hflag 3 (by decide)⟩

theorem sameFlags_trans {k k1 k2 : Core} (h1 : sameFlags k k1) (h2 : sameFlags k1 k2) : sameFlags k k2 := by
  obtain ⟨hz, hn, hc, hv⟩ := h1
  obtain ⟨hz', hn', hc', hv'⟩ := h2
  exact ⟨hz'.trans hz, hn'.trans hn, hc'.trans hc, hv'.trans hv⟩

/-! ### The multiplier (R360) -/

/-- A multiply operand of a 32-bit word: its half, less 2^16 where it is signed and negative. -/
theorem halfOf_eq {v : Nat} (hv : v < 2 ^ 32) (high uns : Bool) :
    halfOf v high uns =
      (let h : Nat := if high then v / 2 ^ 16 else v % 2 ^ 16
       if uns = false ∧ 2 ^ 15 ≤ h then (h : Int) - 2 ^ 16 else h : Int) := by
  have hhalf : (if high then bits v 16 16 else bits v 0 16) = if high then v / 2 ^ 16 else v % 2 ^ 16 := by
    unfold bits
    split <;> omega
  have hlt : (if high then v / 2 ^ 16 else v % 2 ^ 16) < 2 ^ 16 := by split <;> omega
  unfold halfOf toSigned
  rw [hhalf]
  generalize (if high then v / 2 ^ 16 else v % 2 ^ 16) = h at hlt ⊢
  cases uns
  · simp only [Nat.mod_eq_of_lt hlt, Bool.false_eq_true, if_false, true_and]
    split <;> split <;> omega
  · simp

/-- Settles O16: each of the four writes its accumulators through `setAcc`, and the operands are the halves of R360. -/
theorem trowelMultipliesUnderR361 : Obligations.TrowelMultipliesUnderR361 := by
  unfold Obligations.TrowelMultipliesUnderR361
  intro s n a b hready ha hb k half
  have hhalf (r : Nat) (high uns : Bool) : half (k.reg r) high uns = halfOf (k.reg r) high uns :=
    (halfOf_eq (k.reg_lt r) high uns).symm
  have hregs : ∀ r ∈ [a, b], okReg r = true := by simp [ha, hb]
  simp only [hhalf]
  refine ⟨fun x f _ _ => ⟨?_, ?_, ?_⟩, fun f hf => ?_⟩
  · exact ⟨_, coreGoes_of_guardRegs hready hregs rfl rfl, k.setAcc_accWritten x _, k.setAcc_sameFlags x _⟩
  · exact ⟨_, coreGoes_of_guardRegs hready hregs rfl rfl, k.setAcc_accWritten x _, k.setAcc_sameFlags x _⟩
  · exact ⟨_, coreGoes_of_guardRegs hready hregs rfl rfl, k.setAcc_accWritten x _, k.setAcc_sameFlags x _⟩
  · have hlegal : ¬4 ≤ f := by omega
    refine ⟨(k.setAcc 0 _).adv, _, coreGoes_of_guardRegs hready hregs rfl (if_neg hlegal), ?_, k.setAcc_accWritten 0 _, ?_⟩
    · exact sameFlags_trans (k.setAcc_sameFlags 0 _) ((k.setAcc 0 _).setAcc_sameFlags 1 _)
    · rw [Core.setAcc_adv_pc_back]
      exact (k.setAcc 0 _).setAcc_accWritten 1 _

/-! ### Rounding (R362) -/

/-- `roundHalfEven` leaves an error of at most half the divisor, and a tie only with an even result. -/
theorem isNearest_rhe (v : Int) (c : Nat) : isNearest v c (rhe v c) := by
  have hD : ((2 ^ c : Nat) : Int) = 2 ^ c := Nat.cast_pow 2 c
  have hpos : (0 : Int) < 2 ^ c := by positivity
  unfold isNearest rhe roundHalfEven
  rw [hD]
  generalize (2 : Int) ^ c = D at hpos ⊢
  have hsplit : D * v.fdiv D + v.fmod D = v := Int.mul_fdiv_add_fmod v D
  have hlow : 0 ≤ v.fmod D := Int.fmod_nonneg_of_pos v hpos
  have hhigh : v.fmod D < D := Int.fmod_lt_of_pos v hpos
  have hq : 2 * v.fdiv D * D = 2 * (D * v.fdiv D) := by ring
  have hq1 : 2 * (v.fdiv D + 1) * D = 2 * (D * v.fdiv D) + 2 * D := by ring
  generalize D * v.fdiv D = m at hsplit hq hq1
  dsimp only
  split_ifs
  · rw [hq]; omega
  · rw [hq1]; omega
  · rw [hq]; omega
  · rw [hq1]; omega

/-- Two results nearest to one value do not differ: at a distance of 1 both would be ties, and both even. -/
theorem isNearest_le {v : Int} {c : Nat} {q r : Int} (hq : isNearest v c q) (hr : isNearest v c r) : q ≤ r := by
  unfold isNearest at hq hr
  have hpos : (0 : Int) < 2 ^ c := by positivity
  generalize (2 : Int) ^ c = D at hpos hq hr
  have hdist : (q - r) * D ≤ 1 * D := by
    have : (q - r) * D = q * D - r * D := by ring
    rw [mul_assoc] at hq hr
    omega
  have hle : q - r ≤ 1 := le_of_mul_le_mul_right hdist hpos
  by_contra hlt
  obtain rfl : q = r + 1 := by omega
  have : 2 * (r + 1) * D = 2 * r * D + 2 * D := by ring
  omega

theorem isNearest_unique {v : Int} {c : Nat} {q r : Int} (hq : isNearest v c q) (hr : isNearest v c r) : q = r :=
  le_antisymm (isNearest_le hq hr) (isNearest_le hr hq)

/-! ### The shift of an autoscaled move (R363) -/

/-- The smallest shift in 0 to 8 whose result fits 32 bits, 8 where none does. -/
def leastShift (v : Int) : Nat := (autoShift v).getD 8

theorem autoShift_eq_some {v : Int} {m : Nat} :
    autoShift v = some m ↔ overflows (rhe v m) = false ∧ m < 9 ∧ ∀ c, c < m → overflows (rhe v c) = true := by
  simp [autoShift, firstBelow, ovf32_eq]

theorem autoShift_eq_none {v : Int} : autoShift v = none ↔ ∀ c, c < 9 → overflows (rhe v c) = true := by
  simp [autoShift, firstBelow, ovf32_eq]

theorem leastShift_le (v : Int) : leastShift v ≤ 8 := by
  unfold leastShift
  cases h : autoShift v with
  | none => exact le_rfl
  | some m => exact Nat.le_of_lt_succ (autoShift_eq_some.mp h).2.1

theorem overflows_of_lt_leastShift {v : Int} {c : Nat} (hc : c < leastShift v) : overflows (rhe v c) = true := by
  unfold leastShift at hc
  cases h : autoShift v with
  | none => exact autoShift_eq_none.mp h c (by rw [h] at hc; exact Nat.lt_succ_of_lt hc)
  | some m => exact (autoShift_eq_some.mp h).2.2 c (by rwa [h] at hc)

theorem autoShift_eq_ite (v : Int) :
    autoShift v = if overflows (rhe v (leastShift v)) = true then none else some (leastShift v) := by
  unfold leastShift
  cases h : autoShift v with
  | none => exact (if_pos (autoShift_eq_none.mp h 8 (by decide))).symm
  | some m => exact (if_neg (Bool.not_eq_true _ ▸ (autoShift_eq_some.mp h).1)).symm

theorem leastShift_eq_eight {v : Int} (h : overflows (rhe v (leastShift v)) = true) : leastShift v = 8 := by
  have hnone : autoShift v = none := by rw [autoShift_eq_ite, if_pos h]
  rw [leastShift, hnone]; rfl

/-! ### The move out of an accumulator (R363) -/

/-- The end of MVA: LAST takes the shift and the register takes the value. -/
def Core.mvaOut (k : Core) (d m : Nat) (v : Int) : Core := { k with scale := putBits k.scale 16 4 m }.znOp d (ofSigned 32 v)

/-- In SAT mode MVA shifts by FIX, clamps and raises SV. -/
theorem Core.mva_of_sat {k : Core} (d x : Nat) (hsat : k.sat = true) :
    k.mva d x = (k.stick 7 (overflows (rhe (k.acc x) k.fix))).mvaOut d k.fix
      (clampInt (-2 ^ 31) (2 ^ 31 - 1) (rhe (k.acc x) k.fix)) := by
  simp only [Core.mva, hsat, if_true, ovf32_eq]
  rfl

/-- In native mode with AUTO it shifts by the smallest amount that fits and adds it to EXP; with none it raises MV. -/
theorem Core.mva_of_auto {k : Core} (d x : Nat) (hsat : k.sat = false) (hauto : bitAt k.scale 31 = true) :
    k.mva d x =
      let m := leastShift (k.acc x)
      let r := rhe (k.acc x) m
      ((k.stick 6 (overflows r)).addExp m).mvaOut d m (if overflows r = true then 2 ^ 31 - 1 else r) := by
  simp only [Core.mva, hsat, hauto, if_true, Bool.false_eq_true, if_false]
  rw [autoShift_eq_ite]
  cases h : overflows (rhe (k.acc x) (leastShift (k.acc x))) with
  | true => rw [leastShift_eq_eight h]; rfl
  | false => rfl

/-- In native mode without AUTO it shifts by FIX, keeps the low 32 bits and raises MV. -/
theorem Core.mva_of_fixed {k : Core} (d x : Nat) (hsat : k.sat = false) (hauto : bitAt k.scale 31 = false) :
    k.mva d x = (k.stick 6 (overflows (rhe (k.acc x) k.fix))).mvaOut d k.fix (rhe (k.acc x) k.fix) := by
  simp only [Core.mva, hsat, hauto, Bool.false_eq_true, if_false, ovf32_eq]
  rfl

/-! ### The fields of SCALE (R364) -/

/-- EXP as a number. -/
def expOf (scale : Nat) : Int := toSigned 16 (scale % 2 ^ 16)

theorem putLast_last {c m : Nat} (hm : m < 16) : putBits c 16 4 m / 2 ^ 16 % 16 = m := by
  unfold putBits bits; omega

theorem putLast_high (c m : Nat) : putBits c 16 4 m / 2 ^ 20 = c / 2 ^ 20 := by
  unfold putBits bits; omega

theorem putLast_exp (c m : Nat) : expOf (putBits c 16 4 m) = expOf c := by
  unfold expOf
  congr 1
  unfold putBits bits; omega

theorem Core.addExp_high (k : Core) (m : Nat) : (k.addExp m).scale / 2 ^ 20 = k.scale / 2 ^ 20 := by
  simp only [Core.addExp, putBits, bits]; omega

/-- EXP rises by the shift, held within ±32,767. -/
theorem Core.addExp_exp (k : Core) (m : Nat) : expOf (k.addExp m).scale = clampInt (-32767) 32767 (expOf k.scale + m) := by
  have hexp : toSigned 16 (bits k.scale 0 16) = expOf k.scale := by rw [bits, pow_zero, Nat.div_one, expOf]
  have hlow (e : Int) : expOf (putBits k.scale 0 16 (ofSigned 16 e)) = toSigned 16 (ofSigned 16 e) := by
    have hlt := ofSigned_lt 16 e
    unfold expOf
    congr 1
    unfold putBits bits; omega
  have hrange (e : Int) : -32767 ≤ clampInt (-32767) 32767 e ∧ clampInt (-32767) 32767 e ≤ 32767 := by
    unfold clampInt
    split_ifs <;> omega
  obtain ⟨hlo, hhi⟩ := hrange (expOf k.scale + m)
  simp only [Core.addExp, hexp, hlow]
  rw [toSigned_ofSigned (by decide)]
  omega

/-! ### What MVA leaves (R363) -/

/-- `k1` is `k` but for MV, SV and the fields EXP and LAST of SCALE: the core before its result is moved out. -/
structure Core.MvaPrepared (k k1 : Core) : Prop where
  rest : k1 = { k with status := k1.status, scale := k1.scale }
  bit : ∀ i, i ≠ 6 → i ≠ 7 → bitAt k1.status i = bitAt k.status i
  high : k1.scale / 2 ^ 20 = k.scale / 2 ^ 20

theorem Core.mvaPrepared_stick (k : Core) {i : Nat} (b : Bool) (hi : i = 6 ∨ i = 7) : k.MvaPrepared (k.stick i b) where
  rest := by rw [Core.stick_rest]
  bit j h6 h7 := k.stick_bit_ne b (by omega)
  high := congrArg (· / 2 ^ 20) (k.stick_scale i b)

theorem Core.MvaPrepared.addExp {k k1 : Core} (h : k.MvaPrepared k1) (m : Nat) : k.MvaPrepared (k1.addExp m) where
  rest := by
    obtain ⟨hrest, -, -⟩ := h
    rw [hrest]; rfl
  bit := h.bit
  high := (k1.addExp_high m).trans h.high

/-- The move out gives the register, Z and N the value modulo 2^32. -/
theorem Core.mvaOut_znResult (k : Core) {d : Nat} (m : Nat) (v : Int) (hd : okReg d = true) :
    Core.znResult { k with scale := putBits k.scale 16 4 m } (k.mvaOut d m v) d v :=
  Core.znOp_result _ hd (by rw [Nat.mod_eq_of_lt (ofSigned_lt 32 v), ofSigned_cast])

@[simp] theorem Core.mvaOut_scale (k : Core) (d m : Nat) (v : Int) : (k.mvaOut d m v).scale = putBits k.scale 16 4 m := by
  unfold Core.mvaOut Core.znOp
  rw [Core.setReg_rest]
  rfl

/-- The move out changes none of the bits of STATUS above the flags. -/
theorem Core.mvaOut_bit (k : Core) {d : Nat} (m : Nat) (v : Int) (hd : okReg d = true) {i : Nat} (hi : 4 ≤ i) :
    bitAt (k.mvaOut d m v).status i = bitAt k.status i := by
  obtain ⟨⟨-, -, -, -, -, -, hstatus, -⟩, -, -⟩ := k.mvaOut_znResult m v hd
  exact bitAt_congr_of_div (n := 4) hstatus hi

/-- The move out from a prepared core changes, of the core before MVA, only the PC, the register, STATUS and SCALE. -/
theorem Core.MvaPrepared.onlyReg_mvaOut {k k1 : Core} (h : k.MvaPrepared k1) {d : Nat} (m : Nat) (v : Int) (hd : okReg d = true) :
    onlyReg { k with status := (k1.mvaOut d m v).status, scale := (k1.mvaOut d m v).scale } (k1.mvaOut d m v) d := by
  obtain ⟨⟨-, -, -, -, hwin, hk, hstatus, hrest⟩, -, -⟩ := k1.mvaOut_znResult m v hd
  obtain ⟨hprep, -, -⟩ := h
  have hscale := k1.mvaOut_scale d m v
  generalize k1.mvaOut d m v = k' at hwin hk hstatus hrest hscale ⊢
  have hcwp : bits k'.status 26 3 = bits k1.status 26 3 := by
    dsimp only at hstatus
    unfold bits; omega
  refine ⟨fun j hj => ?_, fun j hj => ?_, rfl, ?_⟩
  · refine (hwin j ?_).trans (by rw [hprep])
    simpa only [Core.cwp, hcwp] using hj
  · exact (hk j hj).trans (by rw [hprep])
  · rw [hscale]
    refine hrest.trans ?_
    rw [hprep]

/-- Of the core before MVA, the move out keeps C, V, the bits of STATUS but MV, SV, Z and N, and AUTO and FIX. -/
theorem Core.MvaPrepared.mvaOut_frame {k k1 : Core} (h : k.MvaPrepared k1) {d : Nat} (m : Nat) (v : Int) (hd : okReg d = true) :
    let k' := k1.mvaOut d m v
    k'.pc = (k.pc + 4) % 2 ^ 32 ∧ k'.flagC = k.flagC ∧ k'.flagV = k.flagV ∧
      (∀ i, i = 4 ∨ i = 5 ∨ 8 ≤ i → bitAt k'.status i = bitAt k.status i) ∧ k'.scale / 2 ^ 20 = k.scale / 2 ^ 20 ∧
      onlyReg { k with status := k'.status, scale := k'.scale } k' d := by
  obtain ⟨⟨hpc, -⟩, hc, hv⟩ := k1.mvaOut_znResult m v hd
  refine ⟨?_, ?_, ?_, fun i hi => ?_, ?_, h.onlyReg_mvaOut m v hd⟩
  · exact hpc.trans (by rw [h.rest])
  · exact hc.trans (h.bit 2 (by decide) (by decide))
  · exact hv.trans (h.bit 3 (by decide) (by decide))
  · exact (k1.mvaOut_bit m v hd (by omega)).trans (h.bit i (by omega) (by omega))
  · rw [Core.mvaOut_scale, putLast_high, h.high]

/-- How R363 chooses, with `r` the rounded accumulator: the shift `m`, the value `v` moved out, and the sticky bit and the
exponent of `k1`. -/
def Core.MvaChoice (k k1 : Core) (acc : Int) (m : Nat) (r v : Int) : Prop :=
  if k.sat = true then m = k.fix ∧ v = clampInt (-2 ^ 31) (2 ^ 31 - 1) r ∧ k1 = k.stick 7 (overflows r)
  else if bitAt k.scale 31 = true then
    m = leastShift acc ∧ v = (if overflows r = true then 2 ^ 31 - 1 else r) ∧ k1 = (k.stick 6 (overflows r)).addExp m
  else m = k.fix ∧ v = r ∧ k1 = k.stick 6 (overflows r)

theorem Core.fix_le (k : Core) : k.fix ≤ 8 := Nat.min_le_left _ _

/-- In every mode MVA rounds the shifted accumulator and moves a value out of a prepared core. -/
theorem Core.mva_cases (k : Core) (d x : Nat) : ∃ k1 m v, k.mva d x = k1.mvaOut d m v ∧ k.MvaPrepared k1 ∧ m ≤ 8 ∧
    k.MvaChoice k1 (k.acc x) m (rhe (k.acc x) m) v := by
  unfold Core.MvaChoice
  by_cases hsat : k.sat = true
  · simp only [hsat, if_true]
    exact ⟨_, _, _, Core.mva_of_sat d x hsat, k.mvaPrepared_stick _ (.inr rfl), k.fix_le, rfl, rfl, rfl⟩
  rw [Bool.not_eq_true] at hsat
  by_cases hauto : bitAt k.scale 31 = true
  · simp only [hsat, hauto, if_true, Bool.false_eq_true, if_false]
    exact ⟨_, _, _, Core.mva_of_auto d x hsat hauto, (k.mvaPrepared_stick _ (.inl rfl)).addExp _, leastShift_le _, rfl, rfl, rfl⟩
  · rw [Bool.not_eq_true] at hauto
    simp only [hsat, hauto, Bool.false_eq_true, if_false]
    exact ⟨_, _, _, Core.mva_of_fixed d x hsat hauto, k.mvaPrepared_stick _ (.inl rfl), k.fix_le, rfl, rfl, rfl⟩

/-- Settles O18: in each mode MVA is the move out of a prepared core, and the shift is FIX or the least that fits. -/
theorem trowelMvaAutoscales : Obligations.TrowelMvaAutoscales := by
  unfold Obligations.TrowelMvaAutoscales
  intro s n d x hready hd _ k acc fix
  obtain ⟨k1, m, v, hmva, hprep, hm, hchoice⟩ := k.mva_cases d x
  obtain ⟨hpc, hc, hv, hstatus, hscale, honly⟩ := hprep.mvaOut_frame m v hd
  have hgoes : coreGoes (.trwMva n d x) s n (k1.mvaOut d m v) :=
    coreGoes_of_guardRegs hready (by simpa using hd) rfl (congrArg CoreOut.next hmva)
  have hlast : (k1.mvaOut d m v).scale / 2 ^ 16 % 16 = m := by rw [Core.mvaOut_scale, putLast_last (by omega)]
  refine ⟨_, m, rhe acc m, hgoes, isNearest_rhe acc m, hlast, hpc, hc, hv, hstatus, hscale, honly, ?_⟩
  intro gives exp
  have hgives : gives v := by
    obtain ⟨⟨-, hreg, hz, hn, -⟩, -, -⟩ := k1.mvaOut_znResult m v hd
    exact ⟨hreg, hz, hn⟩
  have hbit {i : Nat} (hi : 4 ≤ i) : bitAt (k1.mvaOut d m v).status i = bitAt k1.status i := k1.mvaOut_bit m v hd hi
  have hexp : exp (k1.mvaOut d m v).scale = exp k1.scale := by
    rw [Core.mvaOut_scale]
    exact putLast_exp k1.scale m
  change k.MvaChoice k1 acc m (rhe acc m) v at hchoice
  unfold Core.MvaChoice at hchoice
  by_cases hsat : k.sat = true
  · rw [if_pos hsat] at hchoice ⊢
    obtain ⟨rfl, rfl, rfl⟩ := hchoice
    refine ⟨rfl, hgives, hexp.trans (congrArg exp (k.stick_scale 7 _)), ?_, ?_⟩
    · exact (hbit (by decide)).trans (k.stick_bit_same 7 _)
    · exact (hbit (by decide)).trans (k.stick_bit_ne _ (by decide))
  rw [if_neg hsat] at hchoice ⊢
  by_cases hauto : bitAt k.scale 31 = true
  · rw [if_pos hauto] at hchoice ⊢
    obtain ⟨rfl, rfl, rfl⟩ := hchoice
    have hmv : bitAt (Core.mvaOut _ d _ _).status 6 = (bitAt k.status 6 || overflows (rhe acc (leastShift acc))) :=
      (hbit (by decide)).trans (k.stick_bit_same 6 _)
    refine ⟨?_, ?_, hm, fun c q hc hq => ?_, fun hfits => ?_, fun hover => ?_⟩
    · exact hexp.trans ((Core.addExp_exp _ _).trans (by rw [Core.stick_scale]; rfl))
    · exact (hbit (by decide)).trans (k.stick_bit_ne _ (by decide))
    · rw [isNearest_unique hq (isNearest_rhe acc c)]
      exact overflows_of_lt_leastShift hc
    · rw [if_neg (by rw [hfits]; decide)] at hgives
      exact ⟨hgives, hmv.trans (by rw [hfits, Bool.or_false])⟩
    · rw [if_pos hover] at hgives
      exact ⟨leastShift_eq_eight hover, hgives, hmv.trans (by rw [hover, Bool.or_true])⟩
  · rw [if_neg hauto] at hchoice ⊢
    obtain ⟨rfl, rfl, rfl⟩ := hchoice
    refine ⟨rfl, hgives, hexp.trans (congrArg exp (k.stick_scale 6 _)), ?_, ?_⟩
    · exact (hbit (by decide)).trans (k.stick_bit_same 6 _)
    · exact (hbit (by decide)).trans (k.stick_bit_ne _ (by decide))

end Sys2Proof.Machine
end
